-- ==== Sys2Proof/Word.lean ====
section
/-! DEFINITION. The words of the device: bytes, 32-bit register words and 64-bit quantities. -/

namespace Sys2Proof

/-- One byte of memory or of a frame. -/
abbrev Byte := BitVec 8

/-- One register word (R584: the registers are 32 bits wide). -/
abbrev W32 := BitVec 32

/-- One 64-bit quantity, held in a LO and HI pair (R601). -/
abbrev W64 := BitVec 64

end Sys2Proof
end

