-- ==== Sys2Proof/Syntax.lean ====
section
/-! DEFINITION. The commands the device takes: one constructor for each row of spec/opcode_table.json, with the row's operands. -/

namespace Sys2Proof

/-- The masters that read and write registers: the requesters of R601. -/
inductive Requester where
  | pcie
  | apc (c : Fin 4)
  | safety
  | dma (c : Fin 8)
deriving DecidableEq, Repr

/-- One entry of a FORM frame (R374): whether it is present, its flags, the rank and the device time of its node. -/
structure FormEntry where
  present : Bool
  publish : Bool
  joinOk : Bool
  standby : Bool
  rank : BitVec 16
  time : BitVec 64
deriving DecidableEq, Repr

/-- A FORM frame, or a START with the membership, T_MAX and T_0; CORR in units of 2^-8 tick. R374 names these fields and does not place them within the head (log 28). -/
structure FormFrame where
  start : Bool
  rank : BitVec 16
  cyc : W32
  frame : W32
  delay : W32
  entries : List FormEntry
  members : W32
  tmax : BitVec 64
  t0 : BitVec 64
deriving DecidableEq, Repr

/-- A measurement of the ageing block (R507): the slack in ps with its path, the reference error, the transitions of a channel, the eye of a lane in % UI with its class (0 SLK, 1 FRB, 2 XLK). -/
inductive AgeMeas where
  | timing (slack : BitVec 16) (path : Fin 33)
  | oscillator
  | transition (c : Fin 6)
  | eye (kind : Fin 3) (lane : BitVec 6) (width : BitVec 8)
deriving DecidableEq, Repr

/-- A CAN frame (R548): identifier, formats, data length code, data bytes. -/
structure CanFrame where
  id : BitVec 29
  ide : Bool
  fdf : Bool
  brs : Bool
  esi : Bool
  rtr : Bool
  dlc : BitVec 4
  data : List Byte
deriving DecidableEq, Repr

/-- What the boot ROM finds of one image beside its bytes (R571, R572): whether SIG verifies under the key that KEY_IDX names; which sections' digests match, by number; the identifiers of the PCIE section as PCI_ID shows them; the options of the DRAM section (DRC_CFG and the capacity in MiB), whose byte layout the manual does not give. -/
structure BootFind where
  sig : Bool
  digests : BitVec 16
  pciId : W32
  dramCfg : BitVec 4
  dramMib : BitVec 13
deriving DecidableEq, Repr

/-- What the boot finds of the hardware (R535, R571 to R574, R232, R427): the flash is readable; FL_INFO, its page size and its smallest erase unit; the primary and the secondary image; DRAM training succeeds; the failing unit of each LPU's self-test, 0 for a pass; the library's signature is valid; the stored safety set reads back as stored; which local channels serve which slots (log 21). -/
structure BootRun where
  flashOk : Bool
  flInfo : W32
  flPage : W32
  flUnit : W32
  primary : BootFind
  secondary : BootFind
  trained : Bool
  lpu : List (Fin 6)
  libSig : Bool
  setOk : Bool
  ldcSlots : List (Fin 6 × Fin 64)
deriving DecidableEq, Repr
/-- When a pending set takes effect (R598, R599). -/
inductive CommitDue where
  /-- at the block's next apply point -/
  | nextApply
  /-- at the first apply point at or after this device time (KIND 1) -/
  | atTime (t : Nat)
  /-- at the first apply point at or after the line reaches the angle above, or the one below, in units of 2^-32 cy (KIND 2): one of them for a line that moves, both for one that stands -/
  | atAngle (up down : Option Int)
deriving DecidableEq, Repr

/-- The summary of a mirrored slot in a MIRROR frame (R389): its state (R23), its commanded position, velocity and acceleration, COEF_SEQ and the sequence of its last commit. -/
structure XlkSum where
  slot : Fin 64
  st : Fin 8
  p : Int
  v : Int
  a : Int
  coefSeq : BitVec 32
  seq : BitVec 32
deriving DecidableEq, Repr

/-- A MIRROR frame as the standby takes it (R389): cycle number, T_n, the line's angle, velocity and acceleration, the summaries, each with whether the CRC-16 of the loop state agrees, the state blocks in it, and the offset that the frame measures, in ps. -/
structure MirrorIn where
  cycle : BitVec 32
  t : BitVec 64
  line : Int × Int × Int
  sums : List (XlkSum × Bool)
  blocks : List (Fin 64 × List Byte)
  ofs : Int
deriving DecidableEq, Repr

/-- What a device of a pair learns of its peer when the crosslink comes UP (R387): PAIR, whether it sends ACTIVE, its epoch, PREF. -/
structure XlkPeer where
  pair : Bool
  active : Bool
  epoch : BitVec 8
  pref : Bool
deriving DecidableEq, Repr


/-- A command: one constructor for each row of the table of operations and events. -/
inductive Instr where
  /-- REGISTER_WRITE (R3): A write to a register that has no row of its own stores or ignores the value by its access code. -/
  | registerWrite (r : Requester) (a : BitVec 33) (bytes : List Byte)
  /-- FIELD_DIE_WRITE_EFFECT (R8): A posted field-die write takes effect on the field die up to 220 ns after its issue. -/
  | fieldDieWriteEffect (r : Requester) (n : Fin 4)
  /-- BRIDGE_LOSS (R11): No valid bridge transfer for 2 µs: the field die turns everything off and the core die applies SAFE to every axis. -/
  | bridgeLoss
  /-- REFERENCE_LOSS (R13): The reference stops or leaves its ratio window, and the field die acts as on bridge loss. -/
  | referenceLoss
  /-- PLL_UNLOCK (R581): A PLL loses lock; the timebase, system or safety PLL acts as reference loss, the others stop their blocks. -/
  | pllUnlock (k : Fin 8)
  /-- COMMIT_WRITE (R598): A COMMIT write copies the page's shadow registers into its pending set and takes a sequence number. -/
  | commitWrite (r : Requester) (pg : BitVec 12) (v : W32)
  /-- COMMIT_AT_TIME (R599): A COMMIT_AT of kind device time copies the shadow and aims the set at a device time. -/
  | commitAtTime (r : Requester) (pg : BitVec 12) (target : BitVec 30)
  /-- COMMIT_AT_ANGLE (R599): A COMMIT_AT of kind line angle copies the shadow and aims the set at the next crossing of a fraction. -/
  | commitAtAngle (r : Requester) (pg : BitVec 12) (target : BitVec 30)
  /-- COMMIT_AT_CANCEL (R599): A COMMIT_AT of kind CANCEL withdraws a pending commit. -/
  | commitAtCancel (r : Requester) (pg : BitVec 12) (target : BitVec 30)
  /-- COMMIT_APPLY (R598): A pending set takes effect at the block's apply point. -/
  | commitApply (pg : BitVec 12)
  /-- LOCK (R593): LOCK_KEY with CMD 1 and the key locks the page's rwl registers. -/
  | lock (r : Requester) (pg : BitVec 12) (key : BitVec 16)
  /-- UNLOCK (R593): LOCK_KEY with CMD 2 and the key unlocks the page. -/
  | unlock (r : Requester) (pg : BitVec 12) (key : BitVec 16)
  /-- SOFT_RESET (R594): PAGE_CTL.SRST returns an idle page's body registers, counters and events to warm-reset values. -/
  | softReset (r : Requester) (pg : BitVec 12)
  /-- ERR_CAP_CLEAR (R596): A write of 0 to ERR_CAP clears the captured error and count. -/
  | errCapClear (r : Requester) (pg : BitVec 12) (v : W32)
  /-- EVT_PEND_CLEAR (R482): A w1c write to EVT_PEND clears pending bits, and a still-pending MSI-X source sends again. -/
  | evtPendClear (r : Requester) (pg : BitVec 12) (v : W32)
  /-- EVT_FORCE_WRITE (R595): A write of 1 to EVT_FORCE raises the event as the router sees it, without any fault reaction. -/
  | evtForceWrite (r : Requester) (pg : BitVec 12) (v : W32)
  /-- EXT_FLT_CLEAR (R479): A write of 1 to an EXT_FLT bit clears the external fault flag of a slot. -/
  | extFltClear (r : Requester) (hi : Bool) (v : W32)
  /-- PAIR_LO_READ (R601): A read of the LO half of a 64-bit pair latches the HI half and its snapshot group for the requester. -/
  | pairLoRead (r : Requester) (a : BitVec 33 × Fin 16)
  /-- PAIR_LO_WRITE (R601): A write of the LO half of a pair is staged for the requester. -/
  | pairLoWrite (r : Requester) (a : BitVec 26) (v : W32)
  /-- PAIR_HI_WRITE (R601): A write of the HI half stores it together with the staged LO as one unit. -/
  | pairHiWrite (r : Requester) (a : BitVec 26) (v : W32)
  /-- AXIS_ENABLE (R191): ENABLE aligns the commanded position, zeroes loop states and starts switching, taking the axis to CLOSED. -/
  | axisEnable (n : Fin 64) (codes : List (BitVec 12))
  /-- AXIS_DISABLE (R24): DISABLE returns the axis to READY. -/
  | axisDisable (n : Fin 64)
  /-- AXIS_OPEN (R24): OPEN takes a READY axis to the OPEN maintenance state. -/
  | axisOpen (n : Fin 64)
  /-- AXIS_CLOSE (R24): CLOSE returns an OPEN axis to READY. -/
  | axisClose (n : Fin 64)
  /-- AXIS_ACK (R642): ACK leaves FAULT for READY, or clears the HOLD latch, when no fault cause is active. -/
  | axisAck (n : Fin 64)
  /-- AXIS_STANDSTILL (R121): Standstill conditions have held for STILL_TIME, and a waiting transition completes. -/
  | axisStandstill (n : Fin 64)
  /-- AXIS_SAMPLE_INSTANT (R227): At an axis's sample instant the plans are evaluated, commits and requests apply, and a run becomes ready. -/
  | axisSampleInstant (n : Fin 64) (ds : List (Int × Int)) (codes : List (BitVec 12))
  /-- LOOP_RUN_START (R227): The LPU starts the ready run with the earliest apply instant. -/
  | loopRunStart (i : Fin 9) (cycles : BitVec 16)
  /-- APPLY_INSTANT (R192): At the apply instant the result is taken into the downlink, or the previous duties are held. -/
  | applyInstant (n : Fin 64)
  /-- IQ_EXT_WRITE (R198): A write of IQ_EXT sets the external current reference and restarts EXT_AGE. -/
  | iqExtWrite (n : Fin 64) (v : W32)
  /-- COEF_CONVERSION_DONE (R185): The background conversion of a committed coefficient area ends. -/
  | coefConversionDone (n : Fin 64)
  /-- RC_SAVE (R179): RC_CMD SAVE starts copying the repetitive table to MRAM. -/
  | rcSave (n : Fin 64)
  /-- RC_LOAD (R180): RC_CMD LOAD reads and checks an image into the repetitive table. -/
  | rcLoad (n : Fin 64)
  /-- RC_CLEAR (R179): RC_CMD CLEAR zeroises the repetitive table. -/
  | rcClear (n : Fin 64)
  /-- RC_CMD_DONE (R179): A repetitive-table command ends and RC_DONE is raised. -/
  | rcCmdDone (n : Fin 64)
  /-- SLOT_MIGRATION (R196): An axis moves to another LPU at its sample boundary. -/
  | slotMigration (late : Bool)
  /-- LTB_STEP (R43): At each LTB step the line state is integrated and predictions are refined. -/
  | ltbStep (ds : List (Int × Int))
  /-- VMG_START (R39): VMG command START reads target and limits and ramps the line. -/
  | vmgStart
  /-- VMG_STOP (R39): VMG command STOP ramps the line to 0 at VMG_DEC. -/
  | vmgStop
  /-- VMG_HOLD (R39): VMG command HOLD freezes a ramp. -/
  | vmgHold
  /-- VMG_RESUME (R39): VMG command RESUME ramps towards the stored target. -/
  | vmgResume
  /-- VMG_LINE_STOP (R39): VMG command LINE_STOP ramps the line to 0 at STOP_DEC. -/
  | vmgLineStop
  /-- LTB_SNAPSHOT (R31): A read of ANGLE_LO latches a coherent snapshot of the line state. -/
  | ltbSnapshot (r : Requester)
  /-- LINE_STATE_RECEIVED (R46): A valid published line state arrives at a follower. -/
  | lineStateReceived
  /-- LS_MISS (R49): A follower's receive window closes without a valid line state. -/
  | lsMiss
  /-- REJOIN_DONE (R51): The 8-cycle rejoin slew completes. -/
  | rejoinDone
  /-- LOSS_REJOIN (R52): A write of LOSS_CTL.REJOIN rejoins the published line after line loss. -/
  | lossRejoin
  /-- JOIN_DONE (R56): A waiting device-time step at a ring join is applied once slots and scheduler allow it. -/
  | joinDone
  /-- ASC_ARM (R73): An arm of a scheduler entry is taken at the next LTB step boundary. -/
  | ascArm
  /-- ASC_DISARM (R77): A write of ARMED 0 disarms an entry, or only after firing once its slot has frozen. -/
  | ascDisarm (e : Fin 4096) (v : W32)
  /-- SLOT_FREEZE (R77): A firing slot freezes 100 ns before its instant. -/
  | slotFreeze
  /-- ASC_FIRE (R74): A scheduler slot reaches its instant and the entry's action is executed. -/
  | ascFire
  /-- FCO_PULSE_END (R80): An FCO pulse width expires and the pin goes inactive. -/
  | fcoPulseEnd
  /-- FCO_SW_SET (R643): A write to FCO_SW_SET drives the selected pins active. -/
  | fcoSwSet (mask : BitVec 16)
  /-- FCO_SW_CLR (R643): A write to FCO_SW_CLR drives the selected pins inactive. -/
  | fcoSwClr (mask : BitVec 16)
  /-- FLI_EDGE (R83): A filtered edge at a latch input is timestamped. -/
  | fliEdge (k : Fin 16) (ball : Bool)
  /-- LATCH_RECORD_COMPLETE (R84): A latch record is completed after the bracketing sample and pushed to its silo. -/
  | latchRecordComplete (k : Fin 16)
  /-- GEAR_ENGAGE (R97): GEAR_CMD ENGAGE applies a gear or cam coupling by its engage mode. -/
  | gearEngage (n : Fin 64)
  /-- GEAR_DISENGAGE (R101): GEAR_CMD DISENGAGE releases the coupling by its disengage mode. -/
  | gearDisengage (n : Fin 64)
  /-- GEAR_SWITCH (R108): GEAR_CMD SWITCH replaces the cam table at the apply point. -/
  | gearSwitch (n : Fin 64)
  /-- ENGAGE_START (R97): The master crosses ENG_AT and a waiting engage starts. -/
  | engageStart (n : Fin 64)
  /-- DISENGAGE_START (R101): The master crosses DIS_AT and a waiting disengage starts. -/
  | disengageStart (n : Fin 64)
  /-- CAM_DESCRIPTOR_WRITE (R105): A write to a cam descriptor clears READY and may start a check. -/
  | camDescriptorWrite (t : Fin 256) (w : Fin 4) (v : W32)
  /-- CAM_CHECK_DONE (R105): A cam table check ends and sets CHK and READY. -/
  | camCheckDone (t : Fin 256)
  /-- REG_CTL_WRITE (R111): A REG_CTL write sets automatic registration or refuses its AUTO bit. -/
  | regCtlWrite (n : Fin 64) (v : W32)
  /-- MOVE_ABS (R131): START in mode ABS plans a jerk-limited move to an absolute position. -/
  | moveAbs (n : Fin 64)
  /-- MOVE_REL (R127): START in mode REL plans a move by a distance. -/
  | moveRel (n : Fin 64)
  /-- MOVE_VELOCITY (R129): START in mode VELOCITY ramps to VEL_TGT and runs. -/
  | moveVelocity (n : Fin 64)
  /-- MOVE_STREAM (R136): START in mode STREAM runs segments from the segment silo. -/
  | moveStream (n : Fin 64)
  /-- MOVE_HOME (R144): START in mode HOME runs the homing method. -/
  | moveHome (n : Fin 64)
  /-- MOVE_STOP (R130): STOP decelerates the axis at the move's own deceleration. -/
  | moveStop (n : Fin 64)
  /-- MOVE_RESUME (R141): RESUME returns a held stream to its last end point and continues. -/
  | moveResume (n : Fin 64)
  /-- STEP_EMIT (R149): The step timer expires, a step pulse is emitted and the next interval is predicted. -/
  | stepEmit (n : Fin 64)
  /-- NOP (R215): Compute operation that does nothing. -/
  | lpuNop (i : Fin 9) (last : Bool)
  /-- MOV (R215): Copies a register. -/
  | lpuMov (i : Fin 9) (cd ca : Fin 64) (last : Bool)
  /-- MVA (R218): Moves a scaled, rounded accumulator to a register. -/
  | lpuMva (i : Fin 9) (cd : Fin 64) (acc : Bool) (sh : BitVec 5) (last : Bool)
  /-- MVAP (R218): Moves both accumulators to a register pair. -/
  | lpuMvap (i : Fin 9) (cd : Fin 64) (sh : BitVec 5) (last : Bool)
  /-- LDACC (R215): Loads an accumulator from a register. -/
  | lpuLdacc (i : Fin 9) (ca : Fin 64) (acc last : Bool)
  /-- CLRA (R215): Clears an accumulator. -/
  | lpuClra (i : Fin 9) (acc last : Bool)
  /-- ADD (R215): Saturating add. -/
  | lpuAdd (i : Fin 9) (cd ca cb : Fin 64) (last : Bool)
  /-- SUB (R215): Saturating subtract. -/
  | lpuSub (i : Fin 9) (cd ca cb : Fin 64) (last : Bool)
  /-- NEG (R215): Negates a register. -/
  | lpuNeg (i : Fin 9) (cd ca : Fin 64) (last : Bool)
  /-- ABS (R215): Absolute value of a register. -/
  | lpuAbs (i : Fin 9) (cd ca : Fin 64) (last : Bool)
  /-- MIN (R215): Minimum of two registers. -/
  | lpuMin (i : Fin 9) (cd ca cb : Fin 64) (last : Bool)
  /-- MAX (R215): Maximum of two registers. -/
  | lpuMax (i : Fin 9) (cd ca cb : Fin 64) (last : Bool)
  /-- CLAMP (R215): Clamps a register to a symmetric bound. -/
  | lpuClamp (i : Fin 9) (cd ca cb : Fin 64) (last : Bool)
  /-- MUL (R217): Exact product into an accumulator. -/
  | lpuMul (i : Fin 9) (ca cb : Fin 64) (acc last : Bool)
  /-- MAC (R217): Multiply and accumulate. -/
  | lpuMac (i : Fin 9) (ca cb : Fin 64) (acc last : Bool)
  /-- MSU (R217): Multiply and subtract from an accumulator. -/
  | lpuMsu (i : Fin 9) (ca cb : Fin 64) (acc last : Bool)
  /-- DOT (R215): Two-term dot product into an accumulator. -/
  | lpuDot (i : Fin 9) (ca cb : Fin 64) (acc last : Bool)
  /-- DOTA (R215): Adds a two-term dot product to an accumulator. -/
  | lpuDota (i : Fin 9) (ca cb : Fin 64) (acc last : Bool)
  /-- MULP (R215): Multiply by the P-bus operand latch. -/
  | lpuMulp (i : Fin 9) (ca : Fin 64) (acc last : Bool)
  /-- MACP (R215): Multiply-accumulate with the P-bus operand latch. -/
  | lpuMacp (i : Fin 9) (ca : Fin 64) (acc last : Bool)
  /-- CMUL (R215): Complex multiply into the accumulator pair. -/
  | lpuCmul (i : Fin 9) (ca cb : Fin 64) (last : Bool)
  /-- CMAC (R215): Complex multiply-accumulate. -/
  | lpuCmac (i : Fin 9) (ca cb : Fin 64) (last : Bool)
  /-- CMULC (R215): Complex multiply by a conjugate. -/
  | lpuCmulc (i : Fin 9) (ca cb : Fin 64) (last : Bool)
  /-- CMACC (R215): Complex multiply-accumulate by a conjugate. -/
  | lpuCmacc (i : Fin 9) (ca cb : Fin 64) (last : Bool)
  /-- CMULP (R215): Complex multiply by the P-bus latch pair. -/
  | lpuCmulp (i : Fin 9) (ca : Fin 64) (last : Bool)
  /-- ADDA (R215): Adds the two accumulators. -/
  | lpuAdda (i : Fin 9) (acc last : Bool)
  /-- SHA (R215): Shifts an accumulator with saturation. -/
  | lpuSha (i : Fin 9) (acc : Bool) (sh : BitVec 5) (last : Bool)
  /-- ASH (R215): Arithmetic shift of a register. -/
  | lpuAsh (i : Fin 9) (cd ca cb : Fin 64) (last : Bool)
  /-- LSH (R215): Logical shift of a register. -/
  | lpuLsh (i : Fin 9) (cd ca cb : Fin 64) (last : Bool)
  /-- AND (R215): Bitwise AND. -/
  | lpuAnd (i : Fin 9) (cd ca cb : Fin 64) (last : Bool)
  /-- OR (R215): Bitwise OR. -/
  | lpuOr (i : Fin 9) (cd ca cb : Fin 64) (last : Bool)
  /-- XOR (R215): Bitwise XOR. -/
  | lpuXor (i : Fin 9) (cd ca cb : Fin 64) (last : Bool)
  /-- CMP (R215): Sets N and Z from a difference. -/
  | lpuCmp (i : Fin 9) (ca cb : Fin 64) (last : Bool)
  /-- SEL (R215): Selects one of two registers by N. -/
  | lpuSel (i : Fin 9) (cd ca cb : Fin 64) (last : Bool)
  /-- SINCOS (R215): Cosine and sine of an angle in turns. -/
  | lpuSincos (i : Fin 9) (cd ca : Fin 64) (last : Bool)
  /-- ATAN2 (R215): Four-quadrant arctangent in turns. -/
  | lpuAtan2 (i : Fin 9) (cd ca cb : Fin 64) (last : Bool)
  /-- RECIP (R215): Reciprocal of a register. -/
  | lpuRecip (i : Fin 9) (cd ca : Fin 64) (last : Bool)
  /-- RSQRT (R215): Reciprocal square root of a register. -/
  | lpuRsqrt (i : Fin 9) (cd ca : Fin 64) (last : Bool)
  /-- NORM (R215): Counts redundant sign bits. -/
  | lpuNorm (i : Fin 9) (cd ca : Fin 64) (last : Bool)
  /-- ADD64 (R215): Wrapping 64-bit pair add. -/
  | lpuAdd64 (i : Fin 9) (cd ca cb : Fin 64) (last : Bool)
  /-- SUB64 (R215): Wrapping 64-bit pair subtract. -/
  | lpuSub64 (i : Fin 9) (cd ca cb : Fin 64) (last : Bool)
  /-- MULFRAC (R215): Fraction of a 32.32 product plus an addend. -/
  | lpuMulfrac (i : Fin 9) (cd ca cb : Fin 64) (last : Bool)
  /-- CNOP (R216): Control operation that does nothing. -/
  | lpuCnop (i : Fin 9)
  /-- DO (R209): Sets up a hardware loop, optionally rotating. -/
  | lpuDo (i : Fin 9) (c ea sa : Fin 4096) (rot rstep2 : Bool) (sd1 : Fin 8)
  /-- DOR (R216): Sets up a hardware loop with its count from a register. -/
  | lpuDor (i : Fin 9) (cr : Fin 64) (ea sa : Fin 4096) (rot rstep2 : Bool) (sd1 : Fin 8)
  /-- BR (R216): Branches unconditionally. -/
  | lpuBr (i : Fin 9) (t : Fin 4096)
  /-- BRN (R216): Branches if N is set. -/
  | lpuBrn (i : Fin 9) (t : Fin 4096)
  /-- BRZ (R216): Branches if Z is set. -/
  | lpuBrz (i : Fin 9) (t : Fin 4096)
  /-- CALL (R216): Calls a subroutine. -/
  | lpuCall (i : Fin 9) (t : Fin 4096)
  /-- RET (R216): Returns from a subroutine. -/
  | lpuRet (i : Fin 9)
  /-- LDI (R216): Loads a sign-extended immediate. -/
  | lpuLdi (i : Fin 9) (cr : Fin 64) (imm : BitVec 24)
  /-- LDIH (R216): Loads the top byte of a register. -/
  | lpuLdih (i : Fin 9) (cr : Fin 64) (imm : BitVec 8)
  /-- SETA (R216): Sets an address, base, length or modify register. -/
  | lpuSeta (i : Fin 9) (k : Fin 8) (w : Fin 4) (v : BitVec 16)
  /-- SETSR (R216): Sets shift and block-scale fields of SR. -/
  | lpuSetsr (i : Fin 9) (v : BitVec 24)
  /-- BLK (R220): Ends a block-scale pass and adjusts BS and BEXP. -/
  | lpuBlk (i : Fin 9)
  /-- END (R216): Ends the run with its output ready and write-back complete. -/
  | lpuEnd (i : Fin 9)
  /-- LD (R214): Bus move loading a word into a register. -/
  | lpuLd (i : Fin 9) (y : Bool) (k : Fin 8) (d : Fin 64) (last : Bool)
  /-- LDP (R214): Bus move loading a word pair. -/
  | lpuLdp (i : Fin 9) (y : Bool) (k : Fin 8) (d : Fin 64) (last : Bool)
  /-- ST (R214): Bus move storing a scaled register. -/
  | lpuSt (i : Fin 9) (y : Bool) (k : Fin 8) (d : Fin 64) (last : Bool)
  /-- STP (R214): Bus move storing a register pair. -/
  | lpuStp (i : Fin 9) (y : Bool) (k : Fin 8) (d : Fin 64) (last : Bool)
  /-- STA (R214): Bus move storing a scaled, rounded accumulator. -/
  | lpuSta (i : Fin 9) (y : Bool) (k : Fin 8) (d : Fin 64) (last : Bool)
  /-- STAP (R214): Bus move storing both accumulators. -/
  | lpuStap (i : Fin 9) (y : Bool) (k : Fin 8) (last : Bool)
  /-- MOD (R214): Bus move that only advances an address register. -/
  | lpuMod (i : Fin 9) (k : Fin 8) (last : Bool)
  /-- P_FETCH (R213): Fetches a word pair over the P bus into the operand latches. -/
  | lpuPFetch (i : Fin 9) (k : Fin 8) (last : Bool)
  /-- LIB_LOAD (R224): ROT_CMD.LIB_LOAD checks a library image and loads it into every LPU. -/
  | libLoad (sig : Bool)
  /-- ROT_NOW (R229): ROT_CMD.NOW requests an immediate rotation. -/
  | rotNow
  /-- ROTATION_START (R229): The interval elapses or conditions clear and a fallow rotation starts. -/
  | rotationStart
  /-- FALLOW_END (R229): A fallow self-test and calibration end and the LPU becomes spare or retired. -/
  | fallowEnd (i : Fin 9) (unit : Fin 8) (slack : BitVec 16)
  /-- TEST_REQ_WRITE (R230): A TEST_REQ bit queues a self-test of an LPU. -/
  | testReqWrite (v : BitVec 9)
  /-- CAL_REQ_WRITE (R230): A CAL_REQ bit queues a calibration of an LPU. -/
  | calReqWrite (v : BitVec 9)
  /-- LPU_FAILURE (R231): An LPU detects an uncorrectable error, parity error or sequencer mismatch and stops. -/
  | lpuFailure (i : Fin 9) (bad : List (Fin 8))
  /-- LPU_DEBUG_HALT (R233): A debug halt stops a working LPU's runs. -/
  | lpuDebugHalt (i : Fin 9)
  /-- TRUMP_PROMOTION (R234): A requester's waiting time exceeds its trump limit and it is promoted for one grant. -/
  | trumpPromotion (arb : Fin 4) (inst : Fin 9) (r : Fin 8) (w : BitVec 32)
  /-- LINK_CTL_WRITE (R243): A write of LINK_CTL.EN enables or silences a stage link. -/
  | linkCtlWrite (k : Fin 32) (v : W32)
  /-- SYNC_ACQUIRED (R241): The receiver acquires code-group sync and the link enters ALIGN. -/
  | syncAcquired (k : Fin 35) (inv : Bool)
  /-- SYNC_LOST (R241): The receiver loses sync and the link enters DOWN. -/
  | syncLost (k : Fin 35)
  /-- DL_FRAME_SEND (R259): A downlink frame leaves on schedule with edges, sample instant, message and container. -/
  | dlFrameSend (k : Fin 32)
  /-- UL_FRAME_RECEIVED (R254): A valid uplink frame is accepted and its samples, status and messages are taken. -/
  | ulFrameReceived (k : Fin 32) (t4 : W32) (data : List Byte)
  /-- UL_FRAME_MISSING (R255): An expected uplink frame has not arrived by the next commanded sample instant. -/
  | ulFrameMissing (k : Fin 32)
  /-- LINK_CLEAR (R267): LINK_CMD.CLEAR sets CLR in the next downlink frame. -/
  | linkClear (k : Fin 32)
  /-- LINK_RETRAIN (R243): LINK_CMD.RETRAIN takes the link to DOWN. -/
  | linkRetrain (k : Fin 32)
  /-- LINK_IDENT_REQ (R264): LINK_CMD.IDENT_REQ sends IDENT_REQ to the stage. -/
  | linkIdentReq (k : Fin 32)
  /-- SLK_MSG_SEND (R263): MSG_TX with SEND starts sending a message to the stage. -/
  | slkMsgSend (k : Fin 32) (len : BitVec 10)
  /-- SLK_MSG_PUSH (R263): A complete received stage message is pushed to its silo once room exists. -/
  | slkMsgPush (k : Fin 32)
  /-- SLK_INJ_ARM (R270): INJ_CTL with ARM arms fault injection on a stage link. -/
  | slkInjArm (k : Fin 32) (v : W32)
  /-- PWM_RELOAD (R279): At a period boundary or mid-period reload the pending LDC set applies. -/
  | pwmReload (c : Fin 6) (codes : List (BitVec 12)) (bemf : Option (BitVec 16))
  /-- LDC_COMMIT_ARRIVAL (R280): A COMMIT arrives on the field die and forms the pending LDC set. -/
  | ldcCommitArrival (c : Fin 6) (at_ : Option (BitVec 64))
  /-- PWM_LEG_CHANGE (R276): A leg changes state: the outgoing switch turns off and the incoming turns on after dead time. -/
  | pwmLegChange (c : Fin 6) (leg : Fin 3) (meas : Option (BitVec 8)) (bst : BitVec 16) (overlap : Bool)
  /-- BST_PRE_END (R287): The bootstrap precharge time ends. -/
  | bstPreEnd (c : Fin 6)
  /-- DESAT (R290): Desaturation is declared and the protective turn-off starts. -/
  | desat (c sw : Fin 6)
  /-- HARD_SHORT (R290): A hard short is declared and the protective turn-off starts. -/
  | hardShort (c sw : Fin 6)
  /-- TRIP_INPUT (R291): A filtered trip input becomes active and latches the channel off. -/
  | tripInput (k : Fin 8)
  /-- GATE_UV (R293): The gate supply stays below 8.5 V for 1 µs. -/
  | gateUv (c : Fin 6) (mv : BitVec 16)
  /-- SOFT_OFF_END (R292): SOFT_T expires and the full sink is applied. -/
  | softOffEnd (c : Fin 6)
  /-- FLT_CLR (R295): A write of FLT_CLR clears every latch whose causes have gone. -/
  | fltClr (c : Fin 6)
  /-- CBC (R302): The shunt comparator fires and terminates the on high sides. -/
  | cbc (c : Fin 6)
  /-- COM_START (R309): COM_CMD START begins sensing or Hall running. -/
  | comStart (c : Fin 6) (codes : List (BitVec 12))
  /-- COM_STOP (R326): COM_CMD STOP puts the channel in COASTING. -/
  | comStop (c : Fin 6)
  /-- COM_ACK (R309): COM_CMD ACK returns a FAULT channel to OFF when no cause remains. -/
  | comAck (c : Fin 6)
  /-- COMMUTATION (R315): The commutation delay or forced instant expires and the step advances. -/
  | commutation (c : Fin 6)
  /-- HALL_COMMUTATION (R317): A Hall code change reaches the engine and it commutates to the mapped step. -/
  | hallCommutation (c : Fin 6) (code : Fin 8)
  /-- SENSING_DECISION (R318): After three crossings or LISTEN_T the engine decides catch, reverse wait or align. -/
  | sensingDecision (c : Fin 6) (found : Option (Bool × BitVec 32 × Fin 6))
  /-- REVERSE_WAIT_END (R320): The backward rotor slows below REV_F and ALIGNING starts. -/
  | reverseWaitEnd (c : Fin 6) (int : Option (BitVec 32))
  /-- REVERSE_WAIT_TIMEOUT (R320): REV_WAIT_T elapses and the start fails. -/
  | reverseWaitTimeout (c : Fin 6)
  /-- IPD_PULSE_END (R321): An IPD pulse reaches its threshold or TMAX. -/
  | ipdPulseEnd (c : Fin 6) (rise : Option (BitVec 16))
  /-- ALIGN_END (R323): ALIGN_T ends and the rotor angle is taken as 0°. -/
  | alignEnd (c : Fin 6)
  /-- START_TIMEOUT (R324): START_TMAX passes without hand-over and the start fails. -/
  | startTimeout (c : Fin 6)
  /-- RECATCH_WAIT_END (R328): RECATCH_WAIT ends and the channel senses again. -/
  | recatchWaitEnd (c : Fin 6)
  /-- COAST_STILL (R326): STILL_T passes without a crossing and the channel enters OFF. -/
  | coastStill (c : Fin 6)
  /-- RECATCH_RESET (R328): One second of RUNNING returns RECATCH to 0. -/
  | recatchReset (c : Fin 6)
  /-- INDEX_PULSE (R339): An index arrives and is checked against IDX_REF. -/
  | indexPulse (p : Fin 12) (d dB : Int)
  /-- QUAD_ERR (R338): Two quadrature edges come too close. -/
  | quadErr (p : Fin 12)
  /-- WIRE_BREAK (R338): A pair stays below 200 mV for 1 µs. -/
  | wireBreak (p : Fin 12) (k : Fin 3)
  /-- SERIAL_TRANSACTION (R336): A serial encoder transaction starts. -/
  | serialTransaction (p : Fin 12) (busy : Bool)
  /-- SERIAL_READING (R344): A serial reading completes and is checked. -/
  | serialReading (p : Fin 12) (start : Bool) (bits : List Bool)
  /-- HALL_CODE_CHANGE (R347): A filtered Hall code change moves the port count. -/
  | hallCodeChange (p : Fin 12) (code : Fin 8)
  /-- FB_CLEAR (R348): FB_CMD.CLEAR restores VALID when the cause has gone. -/
  | fbClear (p : Fin 12) (wires : Fin 8) (bad : Bool)
  /-- FB_RES_CAL (R346): FB_CMD.RES_CAL starts the resolver phase calibration. -/
  | fbResCal (p : Fin 12)
  /-- RES_CAL_DONE (R346): The resolver calibration ends. -/
  | resCalDone (p : Fin 12) (phase : W32)
  /-- FB_REF_RESET (R339): FB_CMD.REF_RESET makes the next index set IDX_REF. -/
  | fbRefReset (p : Fin 12)
  /-- EMU_EDGE (R350): An emulation output emits its next quadrature edge. -/
  | emuEdge (m : Fin 4)
  /-- CYCLE_FRAME_SEND (R363): The cycle master originates the cycle frame at T_n. -/
  | cycleFrameSend
  /-- CYCLE_FRAME_PASS (R366): A member passes a cycle frame, writing its slot, entries, line state and CORR. -/
  | cycleFramePass (p : Fin 2) (frac : BitVec 8) (data : List Byte) (abt : Bool)
  /-- DLY_SEND (R361): A port sends its DLY set. -/
  | dlySend (p : Fin 3) (frac : BitVec 8)
  /-- DLY_RECEIVED (R361): A DLY set arrives and yields a hop delay measurement. -/
  | dlyReceived (p : Fin 3) (tOut tIn : W32) (frac : BitVec 8)
  /-- DLY_TIMEOUT (R362): No valid DLY arrives in time and the port goes DOWN. -/
  | dlyTimeout (p : Fin 2)
  /-- UNWRAP (R377): The port is UP again and the node stops wrapping between cycle frames. -/
  | unwrap (p : Fin 2)
  /-- CRD_RECEIVED (R381): A CRD set returns message credit. -/
  | crdReceived (p : Fin 2) (c : Fin 8) (n : BitVec 16)
  /-- RING_MSG_RECEIVED (R380): A MSG frame arrives and is taken or forwarded. -/
  | ringMsgReceived (p : Fin 2) (data : List Byte)
  /-- RING_MSG_SEND (R382): A port starts a MSG frame when credit and the cycle gap allow. -/
  | ringMsgSend (p : Fin 2)
  /-- RING_MSG_PUSH (R383): A complete ring message is pushed to its silo. -/
  | ringMsgPush
  /-- RING_MSG_TX (R383): MSG_TX with SEND starts a ring message. -/
  | ringMsgTx (v : W32) (west : Bool)
  /-- FORMING_ENTRY (R374): 4 ms without a cycle frame puts the node in FORMING. -/
  | formingEntry
  /-- FORM_FRAME_SEND (R374): A forming node sends a FORM frame every 100 µs. -/
  | formFrameSend
  /-- FORM_FRAME_RECEIVED (R374): A FORM frame is forwarded with the node's entry or discarded. -/
  | formFrameReceived (p : Fin 2) (f : FormFrame)
  /-- CM_ELECTION (R374): The originator, unchallenged for 300 µs, becomes CM and sends START. -/
  | cmElection
  /-- START_FRAME_RECEIVED (R374): A START frame steps device time and makes the node a member at T_0. -/
  | startFrameReceived (f : FormFrame)
  /-- RING_JOIN (R376): A passive node joins a running ring. -/
  | ringJoin
  /-- CYC_LOST (R378): No valid cycle frame for 2 cycle times. -/
  | cycLost
  /-- RING_INJ_ARM (R385): INJ_CTL with ARM arms injection on a ring port or crosslink. -/
  | ringInjArm (p : Fin 3) (v : W32)
  /-- XLK_LANE_UP (R387): The crosslink comes up with both devices PAIR and the token is settled. -/
  | xlkLaneUp (peer : XlkPeer)
  /-- INITIAL_COPY_DONE (R388): The first full mirroring copy ends. -/
  | initialCopyDone (kib : BitVec 16) (copy : List (BitVec 33 × List Byte)) (sums : List (XlkSum × Bool))
  /-- MIRROR_FRAME_SEND (R389): The active device sends its MIRROR frame. -/
  | mirrorFrameSend (nb : Fin 65)
  /-- XLK_MIRROR_FRAME (R391): The standby takes a MIRROR frame and compares summaries. -/
  | xlkMirrorFrame (m : MirrorIn)
  /-- XLK_WRITE_RECORD (R389): The standby applies a forwarded write. -/
  | xlkWriteRecord (a : BitVec 33) (bytes : List Byte)
  /-- XLK_COMMIT_RECORD (R390): The standby takes a mirrored commit and acknowledges it. -/
  | xlkCommitRecord (pg : BitVec 12) (seq : BitVec 31) (due : CommitDue) (instant : BitVec 64)
  /-- XLK_REACT_RECORD (R390): The standby starts a mirrored reaction. -/
  | xlkReactRecord (n : Fin 64) (cls : Fin 6)
  /-- XLK_TOKEN_RECORD (R392): The standby takes a TOKEN record with its switch time. -/
  | xlkTokenRecord (e : BitVec 8) (t : BitVec 64)
  /-- XLK_ACK_RECORD (R391): An ACK record is received with SYNCED and FIT. -/
  | xlkAckRecord (pg : BitVec 12) (seq : BitVec 31) (synced fit : Bool)
  /-- XLK_ACK_SEND (R389): An ACK record is sent every 0.4 µs. -/
  | xlkAckSend
  /-- MIRROR_COMMIT_DEADLINE (R390): A mirrored commit reaches its 4 µs instant and applies on both devices or alone. -/
  | mirrorCommitDeadline
  /-- XLK_HANDOVER (R392): XLK_CMD.HANDOVER sends TOKEN with T_SW. -/
  | xlkHandover
  /-- TOKEN_SWITCH (R392): At T_SW the frames change ACTIVE and the token passes. -/
  | tokenSwitch
  /-- XLK_TAKE (R394): XLK_CMD.TAKE makes an orphan ACTIVE. -/
  | xlkTake
  /-- XLK_RESYNC (R388): XLK_CMD.RESYNC copies every region again. -/
  | xlkResync
  /-- CROSSLINK_LOSS (R393): Crosslink loss makes the standby take the token or the devices orphan. -/
  | crosslinkLoss
  /-- SAFETY_CYCLE (R405): At each 250 µs boundary each channel evaluates every function and applies its verdicts. -/
  | safetyCycle (inA inB : BitVec 16) (ex : BitVec 2) (rdA rdB : BitVec 4)
  /-- CONTAINER_LAPSE (R422): No valid container arrives within WD. -/
  | containerLapse (o : Fin 96)
  /-- TEST_PULSE (R413): An STO output is pulsed off and its readback checked. -/
  | testPulse (g : Fin 4) (ch : Fin 2) (low : Bool)
  /-- STO_A_KEEPALIVE_TIMEOUT (R412): The STO_A driver gets no fresh command for 500 µs and de-energises. -/
  | stoAKeepaliveTimeout
  /-- LOCKSTEP_MISMATCH (R400): A lockstep mismatch stops channel A. -/
  | lockstepMismatch
  /-- SAF_ACTIVATE (R426): SAF_CMD ACTIVATE checks, stores and activates the shadow safety set. -/
  | safActivate (v : W32) (stored : Bool)
  /-- SAF_RESET (R416): SAF_CMD RESET from the host energises groups whose causes have gone. -/
  | safReset (v : W32)
  /-- SAF_DEACTIVATE (R426): SAF_CMD DEACTIVATE de-energises all groups and clears RUN. -/
  | safDeactivate (v : W32)
  /-- SAFETY_RESET_INPUT (R416): A qualified falling edge on the reset input performs a safety reset. -/
  | safetyResetInput (k : Fin 16) (us : W32)
  /-- IN_CHG (R430): A field input level holds for DEB and IN_LVL changes. -/
  | inChg (k : Fin 16) (lvl : Bool)
  /-- DISCREPANCY (R431): One input of a pair is not followed within DISC. -/
  | discrepancy (p : Fin 8) (a b : Bool)
  /-- OUTPUT_OVERLOAD (R432): An output carries over 0.7 A for 100 µs and latches OVL. -/
  | outputOverload (k : Fin 8)
  /-- EDM_FAULT (R433): Contactor feedback misses EDM_T and the output latches EDM. -/
  | edmFault (k : Fin 8)
  /-- OUT_CLR (R433): OUT_CLR clears OVL and EDM latches. -/
  | outClr (v : W32)
  /-- FIELD_SUPPLY (R434): The field supply crosses a LOW or MISSING threshold. -/
  | fieldSupply (mv : BitVec 16)
  /-- ACQ_CMD_ARM (R452): ACQ_CMD ARM arms a capture unit or its dealer group. -/
  | acqCmdArm (u : Fin 4)
  /-- ACQ_ARM_EFFECT (R452): A local arm takes effect at the next LTB step boundary. -/
  | acqArmEffect
  /-- ACQ_CMD_FIRE (R453): ACQ_CMD FIRE fires a capture unit. -/
  | acqCmdFire (u : Fin 4)
  /-- ACQ_CMD_STOP (R452): ACQ_CMD STOP ends a capture with an END row. -/
  | acqCmdStop (u : Fin 4)
  /-- ACQ_CMD_RESET (R452): ACQ_CMD RESET returns a unit to IDLE. -/
  | acqCmdReset (u : Fin 4)
  /-- ACQ_SAMPLE (R446): A capture unit takes a sample row at its sample instant. -/
  | acqSample (u : Fin 4) (j : Int) (full : Bool)
  /-- RD_OFS_WRITE (R451): A write of RD_OFS frees stream rows. -/
  | rdOfsWrite (u : Fin 4) (v : W32)
  /-- ACQ_RING_ACT (R454): At T_ACT of a ring broadcast the group members arm or fire. -/
  | acqRingAct
  /-- REC_CMD_SHEAF (R462): REC_CMD SHEAF queues a host sheaf trigger. -/
  | recCmdSheaf (sheaf : Fin 16)
  /-- REC_CMD_FLUSH (R466): REC_CMD FLUSH triggers a host flush. -/
  | recCmdFlush
  /-- REC_CMD_CLEAR (R474): REC_CMD CLEAR with the key starts clearing the granary. -/
  | recCmdClear (key : BitVec 16)
  /-- SHEAF_TAKEN (R463): The recorder finishes reading a sheaf and writes its record. -/
  | sheafTaken
  /-- FLUSH_DONE (R469): A granary block is complete. -/
  | flushDone
  /-- PFAIL (R466): PFAIL_N stays low for FILT and a power-fail flush is triggered. -/
  | pfail
  /-- PFAIL_RECOVERY (R469): PFAIL_N has been high for 10 ms and recording resumes. -/
  | pfailRecovery
  /-- CLEAR_DONE (R474): The granary clear ends. -/
  | clearDone
  /-- OP_SEC_TICK (R465): OP_SEC counts a second and is written to MRAM. -/
  | opSecTick
  /-- ROUTER_ACTION (R483): The action queue releases one hardware action. -/
  | routerAction
  /-- EVR_EN_WRITE (R480): A write of EVR_CTL.EN stops or resumes routing. -/
  | evrEnWrite (v : W32)
  /-- ROUTE_WRITE (R485): A ROUTE write sets a source's target, subject to master and lock rules. -/
  | routeWrite (r : Requester) (e : Fin 512) (v : W32)
  /-- SILO_PUSH_STAGE (R490): A write to the push window stages words. -/
  | siloPushStage (i : Fin 96) (w : Fin 8) (vs : List W32)
  /-- SILO_PUSH (R487): A write including word 0x11C pushes the staged entry. -/
  | siloPush (i : Fin 96) (w : Fin 8) (vs : List W32)
  /-- SILO_POP (R491): A read including word 0x120 pops an entry or stalls. -/
  | siloPop (r : Requester) (i : Fin 96) (n : Fin 9)
  /-- SILO_PEEK (R490): A peek read returns the entry at RD without popping. -/
  | siloPeek (r : Requester) (i : Fin 96) (w : Fin 8) (n : Fin 9)
  /-- POP_STALL_SERVED (R491): An entry arrives and a stalled pop completes. -/
  | popStallServed (i : Fin 96)
  /-- POP_STALL_TIMEOUT (R491): STALL_LIM expires and the pop returns the empty pattern. -/
  | popStallTimeout (i : Fin 96)
  /-- SILO_MARK (R487): SIL_CMD MARK sets MARK to RD. -/
  | siloMark (i : Fin 96)
  /-- SILO_REWIND (R488): SIL_CMD REWIND sets RD to MARK or fails. -/
  | siloRewind (i : Fin 96)
  /-- SILO_FLUSH (R489): SIL_CMD FLUSH discards every entry. -/
  | siloFlush (i : Fin 96)
  /-- SILO_RELEASE (R487): SIL_CMD RELEASE frees n entries of storage. -/
  | siloRelease (i : Fin 96) (n : Fin 8192)
  /-- SENSOR_CONVERSION (R500): A temperature conversion updates the reading and the threshold bits. -/
  | sensorConversion (k : Fin 14) (v1 v2 : W32) (bad : Bool)
  /-- THERMAL_RESTART (R504): All sensors stay below RESTART for 1 s and the core die is released. -/
  | thermalRestart
  /-- THM_CLR_MAX (R515): THM_CMD CLR_MAX restarts every highest reading. -/
  | thmClrMax
  /-- AGE_MEASUREMENT (R507): The ageing block takes a periodic measurement and updates margins. -/
  | ageMeasurement (m : AgeMeas)
  /-- LEDGER_SUMMARY (R513): The ledger summary is rewritten every 10 min. -/
  | ledgerSummary
  /-- DAILY_RECORD (R514): A DAILY ledger record is written. -/
  | dailyRecord
  /-- MRAM_SCRUB (R511): A scrub pass reads every MRAM block and rewrites corrected ones. -/
  | mramScrub (n : BitVec 17)
  /-- AGE_SNAPSHOT (R517): AGE_CMD SNAPSHOT rewrites the summary now. -/
  | ageSnapshot
  /-- AGE_REF_LDC (R510): AGE_CMD REF_LDC takes new transition references for a channel. -/
  | ageRefLdc (c : Fin 8)
  /-- PERST (R565): PERST_N low resets only the endpoint, PCI and DMA pages. -/
  | perst
  /-- FLR (R523): A Function Level Reset resets PCI and DMA and aborts every channel. -/
  | flr
  /-- PCIE_LINK_DOWN (R523): A PCIe link-down aborts DMA as FLR does. -/
  | pcieLinkDown
  /-- DMA_START (R527): CH_CMD.START starts a channel or sets PEND. -/
  | dmaStart (c : Fin 8)
  /-- DMA_ABORT (R527): CH_CMD.ABORT stops a channel after the burst in progress. -/
  | dmaAbort (c : Fin 8) (n : BitVec 10) (data : List Byte)
  /-- DMA_DESCRIPTOR_DONE (R527): A descriptor's transfer completes and the chain advances or ends. -/
  | dmaDescriptorDone (c : Fin 8) (data : List Byte) (e : Fin 6) (n : BitVec 24)
  /-- ETH_RX_FRAME (R530): A received Ethernet frame is stored in a MAC-owned descriptor. -/
  | ethRxFrame (n : Fin 2) (data : List Byte) (crcOk : Bool)
  /-- ETH_TX_DONE (R530): A transmit frame is sent and its descriptor returned. -/
  | ethTxDone (n : Fin 2)
  /-- ETH_TAIL_WRITE (R530): A TAIL write hands descriptors to the MAC. -/
  | ethTailWrite (n : Fin 2) (v : W32)
  /-- PTP_COMMIT (R532): A write of PTP_T_HI commits a PTP offset measurement. -/
  | ptpCommit (n : Fin 2) (v : W32)
  /-- MDIO_GO (R529): MDIO.GO starts a PHY register access. -/
  | mdioGo (v : W32)
  /-- MDIO_DONE (R529): An MDIO access completes. -/
  | mdioDone (data : BitVec 16)
  /-- FL_READ (R536): FL_CMD READ reads flash into FL_BUF. -/
  | flRead (len : Fin 512)
  /-- FL_PROGRAM (R536): FL_CMD PROGRAM writes FL_BUF into flash. -/
  | flProgram (len : Fin 512)
  /-- FL_ERASE (R536): FL_CMD ERASE erases a flash unit. -/
  | flErase (len : Fin 512)
  /-- FL_DONE (R536): A flash command completes or ends with FL_ERR. -/
  | flDone (bad : Bool)
  /-- MW_WRITE (R537): MW_CMD.WRITE writes MW_BUF to a user MRAM block. -/
  | mwWrite
  /-- MW_DONE (R537): An MRAM block write completes. -/
  | mwDone
  /-- BYPASS (R539): JTAG instruction BYPASS. -/
  | bypass
  /-- IDCODE (R539): JTAG instruction IDCODE returns the identification code. -/
  | idcode
  /-- SAMPLE_PRELOAD (R539): JTAG instruction SAMPLE/PRELOAD. -/
  | samplePreload
  /-- EXTEST (R539): JTAG instruction EXTEST, subject to life cycle and idle motion. -/
  | extest
  /-- HIGHZ (R539): JTAG instruction HIGHZ. -/
  | highz
  /-- JTAG_CLAMP (R539): JTAG instruction CLAMP. -/
  | jtagClamp
  /-- DBG_ACCESS (R539): JTAG instruction DBG_ACCESS opens debug access. -/
  | dbgAccess
  /-- DEBUG_AUTH (R540): A signed debug response is checked and permissions granted or refused. -/
  | debugAuth (mask : BitVec 7) (sigOk : Bool)
  /-- DEBUG_HALT (R541): A debug halt request stops a processor, with timer freeze if permitted. -/
  | debugHalt (target : Fin 14) (freeze : Bool)
  /-- DEBUG_SESSION_END (R540): The command that ends a debug session. -/
  | debugSessionEnd
  /-- CAN_FRAME_RECEIVED (R552): A valid CAN frame is stored in its receive object or discarded. -/
  | canFrameReceived (c : Fin 2) (f : CanFrame) (sof : BitVec 64) (res : Bool)
  /-- CAN_TX_COMPLETE (R555): A CAN frame is sent without error. -/
  | canTxComplete (c : Fin 2) (tdcv : BitVec 8)
  /-- CAN_BUS_ERROR (R557): A bus error or lost arbitration updates the counters and retries. -/
  | canBusError (c : Fin 2) (code : Fin 7) (data tx dom exc : Bool)
  /-- CAN_OBJ_READ (R553): OBJ_CMD READ copies an object into BUF. -/
  | canObjRead (c : Fin 2) (o : Fin 128)
  /-- CAN_OBJ_WRITE (R553): OBJ_CMD WRITE copies BUF into a transmit object. -/
  | canObjWrite (c : Fin 2) (o : Fin 128)
  /-- CAN_OBJ_SEND (R553): OBJ_CMD SEND sets a transmit request. -/
  | canObjSend (c : Fin 2) (o : Fin 128)
  /-- CAN_OBJ_WRITE_SEND (R553): OBJ_CMD WRITE_SEND writes and requests transmission. -/
  | canObjWriteSend (c : Fin 2) (o : Fin 128)
  /-- CAN_OBJ_ABORT (R553): OBJ_CMD ABORT clears a pending request. -/
  | canObjAbort (c : Fin 2) (o : Fin 128)
  /-- CAN_OBJ_CONFIG (R551): A write of OBJ_ID or OBJ_CTL configures an object, subject to uniqueness. -/
  | canObjConfig (c : Fin 2) (o : Fin 128) (ctl : Bool) (v : W32)
  /-- CAN_RECOVER (R558): CAN_CMD.RECOVER starts bus-off recovery. -/
  | canRecover (c : Fin 2)
  /-- CAN_RECOVERED (R558): Bus-off recovery ends and the controller is error-active. -/
  | canRecovered (c : Fin 2)
  /-- CAN_MODE_WRITE (R556): A MODE write requests a mode change. -/
  | canModeWrite (c : Fin 2) (v : W32)
  /-- CAN_MODE_EFFECT (R556): A requested mode takes effect after recessive bits or at frame end. -/
  | canModeEffect (c : Fin 2)
  /-- CAN_INJ_ARM (R559): INJ_CTL with ARM arms CAN fault injection. -/
  | canInjArm (c : Fin 2) (v : W32)
  /-- POWER_UP (R563): Supplies, RESET_N and reference have been sound for 2 ms and the core die is released. -/
  | powerUp
  /-- CORE_SUPPLY_LOSS (R563): A core-die supply leaves its range for 10 µs. -/
  | coreSupplyLoss
  /-- RESET_N (R564): RESET_N held low causes a cold reset. -/
  | resetN
  /-- RST_CMD_WARM (R566): RST_CMD WARM with the key performs a warm reset. -/
  | rstCmdWarm (key : BitVec 16)
  /-- RST_CMD_COLD (R564): RST_CMD COLD with the key performs a cold reset. -/
  | rstCmdCold (key : BitVec 16)
  /-- WDT_EXPIRY (R579): The watchdog expires and raises WDT or warm-resets. -/
  | wdtExpiry
  /-- WDT_KICK (R579): WDT_KICK with the key restarts the watchdog. -/
  | wdtKick (v : W32)
  /-- BOOT_COMPLETE (R574): The boot sequence reaches READY or fails. -/
  | bootComplete (b : BootRun)
  /-- BOOT_LOAD_SRAM (R573): BOOT_CMD LOAD_SRAM checks a host-written recovery image. -/
  | bootLoadSram (v : W32) (f : BootFind)
  /-- LC_TRANSITION (R577): LC_CMD TRANSITION checks a token and changes the life-cycle state. -/
  | lcTransition (v : W32) (sig : Bool) (cut : Fin 3)
  /-- LC_ADVANCE_VER (R578): LC_CMD ADVANCE_VER raises MIN_VER to the running VERSION. -/
  | lcAdvanceVer (v : W32)
  /-- CORE_CTL_WRITE (R588): A CORE_CTL write releases or resets application cores 1 to 3. -/
  | coreCtlWrite (v : W32)
  /-- PLL_LOCK (R581): A PLL that had lost lock regains it, PAGE_CTL.EN returns to 1 and the blocks it clocks, with their links, recover by their own rules. -/
  | pllLock (k : Fin 8)
  /-- ANALOG_AMPLITUDE_LOSS (R345): A sin/cos or resolver signal radius lies outside its window in 4 consecutive field-die conversions and the port's VALID clears with CAUSE 3. -/
  | analogAmplitudeLoss (p : Fin 12) (mv : BitVec 16)
  /-- RESOLVER_TRACKING_ERROR (R346): The resolver tracking loop error exceeds 30° and the port's VALID clears with CAUSE 6. -/
  | resolverTrackingError (p : Fin 12)
  /-- GATE_SUPPLY_RECOVERY (R295): VGATE.n rises above 9.0 V, FLT_STAT.GATE_UV clears and the gate-supply cause of the latches has gone. -/
  | gateSupplyRecovery (c : Fin 6) (mv : BitVec 16)
  /-- TRIP_INPUT_RELEASE (R291): A filtered trip input returns to inactive, its LVL clears and its cause of the protection latches has gone. -/
  | tripInputRelease (k : Fin 8)
  /-- POWER_DOWN (R562): The supplies fall and every output takes its unpowered state, with the gates clamped passively. -/
  | powerDown
  /-- PCIE_LINK_UP (R547): The PCIe link trains up, LINK_STAT updates and LINK_UP is raised. -/
  | pcieLinkUp (speed : Fin 4) (width : Fin 16)
  /-- ETH_LINK_CHG (R529): An Ethernet lane's link or auto-negotiation state changes, ETH_STAT updates and LINK_CHG is raised. -/
  | ethLinkChg (n : Fin 2) (link : Bool) (speed : Fin 3) (an : Bool)
  /-- PROTOCOL_EXCEPTION_END (R548): After a protocol exception, 11 consecutive recessive bits end it, PEX clears and the controller takes part again. -/
  | protocolExceptionEnd (c : Fin 2)
  /-- REF_OUT (R583): The measured reference error against disciplined device time leaves ±50 ppm and REF_OUT is raised. -/
  | refOut (e : BitVec 16)
deriving DecidableEq, Repr

end Sys2Proof
end

