-- ==== Sys2Proof/Decode.lean ====
section
/-! DEFINITION. The words that spell commands: spec/opcode_table.json gives no row any bits, so there is none. -/

namespace Sys2Proof

/-- The command that a word spells by the table's bits: every row's list of fields is empty, so no word spells one. -/
def decodeTableWord (_nbits _w : Nat) : Option Instr := none

end Sys2Proof
end

