-- ==== Sys2Proof/Config.lean ====
section
/-! DEFINITION. The values the spec leaves open, as constants without a body: nothing in Lean can say which value they take.
The argument of a free value is the state's own counter `free`, which each use reads and advances, so that two uses may differ. -/

namespace Sys2Proof.Config

/-- A free 32-bit word (log 2). -/
opaque freeWord : Nat → W32

/-- A free integer, for an engine quantity whose value the spec does not state (log 2). -/
opaque freeInt : Nat → Int

/-- A free bit (log 2). -/
opaque freeBit : Nat → Bool

/-- The third-order tracking observer of R34: its bandwidth code, its previous velocity, acceleration and jerk, the measured step of the angle and the time it took. The spec gives its order and bandwidth and not its gains (log 9). -/
opaque observer : Nat → Int × Int × Int → Int → Int → Int × Int × Int

/-- The motion that a READY cam table gives whose knots no longer pass the checks of R104, by table and cam position: the manual does not define it (R105, log 10). -/
opaque camOpen : Nat → Int → Int × Int × Int

/-- The bin of the multicast hash for a destination address: the manual names 64 bins and no hash (R529, log 34). -/
opaque mcHash : Nat → Nat

/-- Vordal's JEP106 identity: the manual gives its place in IDCODE and not its value (R539, log 34). -/
opaque jep106 : Nat

/-- Vordal's PCI vendor identifier: the manual names it and gives no value (R521, log 44). -/
opaque vendorId : Nat

/-- The per-unit value of a gain in 16.16, by the gain's number, its register value, I_SCALE, V_SCALE and SAMPLE_HZ: the manual names the quantities the conversion uses and not the conversion (R184, log 40). -/
opaque perUnit : Nat → Nat → Nat → Nat → Nat → Nat

end Sys2Proof.Config
end

