-- ==== Sys2Proof/Machine/PlanTypes.lean ====
section
/-! DEFINITION. The data of the engines' plans (R123, R125, R138). -/

namespace Sys2Proof.Machine

/-- Position, velocity and acceleration, in units of 2^-64 (R125: 64 fraction bits). -/
structure Kin where
  p : Int
  v : Int
  a : Int
deriving DecidableEq, Repr

/-- The parts of a plan (R125), and the part that decelerates to a reversal point (R131). -/
inductive Part where
  | accel | cruise | decel | reversing
deriving DecidableEq, Repr

/-- One phase of constant jerk: its duration in units of 2^-16 tick, its jerk, an acceleration it steps to at its start (QUICK alone, R123), the plan's part. -/
structure Phase where
  dur : Int
  jerk : Int
  setA : Option Int
  part : Part
deriving DecidableEq, Repr

/-- The shape of a plan: phases of constant jerk, or a polynomial in the fraction of a duration in ticks (PVT and PVAT, R138). -/
inductive PlanShape where
  | phases (l : List Phase)
  | poly (c : List Int) (n : Int)
deriving DecidableEq, Repr

/-- A plan: its start time in units of 2^-16 tick, its start state, its shape and the exact state it ends in (R125). -/
structure Plan where
  t0 : Int
  start : Kin
  shape : PlanShape
  fin : Kin
deriving DecidableEq, Repr

/-- The limits a plan is built with (R122, R123). -/
structure Limits where
  vmax : Int
  acc : Int
  dec : Int
  jerk : Int
deriving DecidableEq, Repr

end Sys2Proof.Machine
end

