-- ==== Sys2Proof/Machine/RegNames.lean ====
section
/-! DEFINITION. The BAR0 byte address of every register of the pages, by the register's name in the spec (one name per row of a page's register table, R584, R586, R587).
The argument `n` is the page's instance, `k` the register's own index. -/

namespace Sys2Proof.Machine

/-- DIE_ID of the GLB page (R579). -/
def GLB_DIE_ID : Nat := 0x0 + 0x40

/-- BOOT_STAT of the GLB page (R579). -/
def GLB_BOOT_STAT : Nat := 0x0 + 0x44

/-- RST_CMD of the GLB page (R579). -/
def GLB_RST_CMD : Nat := 0x0 + 0x48

/-- RST_CAUSE of the GLB page (R579). -/
def GLB_RST_CAUSE : Nat := 0x0 + 0x4C

/-- BOOT_CMD of the GLB page (R579). -/
def GLB_BOOT_CMD : Nat := 0x0 + 0x50

/-- WDT_CTL of the GLB page (R579). -/
def GLB_WDT_CTL : Nat := 0x0 + 0x54

/-- WDT_KICK of the GLB page (R579). -/
def GLB_WDT_KICK : Nat := 0x0 + 0x58

/-- BRIDGE_STAT of the GLB page (R579). -/
def GLB_BRIDGE_STAT : Nat := 0x0 + 0x5C

/-- BRIDGE_CNT of the GLB page (R579). -/
def GLB_BRIDGE_CNT : Nat := 0x0 + 0x60

/-- REEN_SLK of the GLB page (R579). -/
def GLB_REEN_SLK : Nat := 0x0 + 0x64

/-- SCRATCH.0–3 of the GLB page (R579). -/
def GLB_SCRATCH (k : Nat) : Nat := 0x0 + 0x68 + 4 * k

/-- PLL_STAT of the CLK page (R580). -/
def CLK_PLL_STAT : Nat := 0x1000 + 0x40

/-- REF_STAT of the CLK page (R580). -/
def CLK_REF_STAT : Nat := 0x1000 + 0x44

/-- UNLOCK_CNT of the CLK page (R580). -/
def CLK_UNLOCK_CNT : Nat := 0x1000 + 0x48

/-- LC_STATE of the LCS page (R582). -/
def LCS_LC_STATE : Nat := 0x2000 + 0x40

/-- LC_CMD of the LCS page (R582). -/
def LCS_LC_CMD : Nat := 0x2000 + 0x44

/-- LC_RESULT of the LCS page (R582). -/
def LCS_LC_RESULT : Nat := 0x2000 + 0x48

/-- MIN_VER of the LCS page (R582). -/
def LCS_MIN_VER : Nat := 0x2000 + 0x4C

/-- DEV_UID.0–3 of the LCS page (R582). -/
def LCS_DEV_UID (k : Nat) : Nat := 0x2000 + 0x50 + 4 * k

/-- KEY_STAT of the LCS page (R582). -/
def LCS_KEY_STAT : Nat := 0x2000 + 0x60

/-- DBG_STAT of the LCS page (R582). -/
def LCS_DBG_STAT : Nat := 0x2000 + 0x64

/-- TOKEN of the LCS page (R582). -/
def LCS_TOKEN (k : Nat) : Nat := 0x2000 + 0x100 + 4 * k

/-- CORE_CTL of the APC page (R588). -/
def APC_CORE_CTL : Nat := 0x3000 + 0x40

/-- CORE_STAT of the APC page (R588). -/
def APC_CORE_STAT : Nat := 0x3000 + 0x44

/-- ENTRY_LO of the APC page (R588). -/
def APC_ENTRY_LO : Nat := 0x3000 + 0x48

/-- ENTRY_HI of the APC page (R588). -/
def APC_ENTRY_HI : Nat := 0x3000 + 0x4C

/-- L2_ECC of the APC page (R588). -/
def APC_L2_ECC : Nat := 0x3000 + 0x50

/-- EVR_CTL of the EVR page (R493). -/
def EVR_EVR_CTL : Nat := 0x5000 + 0x40

/-- EVR_STAT of the EVR page (R493). -/
def EVR_EVR_STAT : Nat := 0x5000 + 0x44

/-- CNT_EVR of the EVR page (R493). -/
def EVR_CNT_EVR : Nat := 0x5000 + 0x48

/-- ACT_ADDR.k of the EVR page (R493). -/
def EVR_ACT_ADDR (k : Nat) : Nat := 0x5000 + 0x60 + 4 * k

/-- CLAIM.c of the EVR page (R493). -/
def EVR_CLAIM (k : Nat) : Nat := 0x5000 + 0x80 + 4 * k

/-- SAF_CLAIM of the EVR page (R493). -/
def EVR_SAF_CLAIM : Nat := 0x5000 + 0x90

/-- LINE.c of the EVR page (R493). -/
def EVR_LINE (k : Nat) : Nat := 0x5000 + 0xA0 + 4 * k

/-- SAF_LINE of the EVR page (R493). -/
def EVR_SAF_LINE : Nat := 0x5000 + 0xB0

/-- SRC_PEND.w of the EVR page (R493). -/
def EVR_SRC_PEND (k : Nat) : Nat := 0x5000 + 0x100 + 4 * k

/-- EXT_FLT_LO of the EVR page (R493). -/
def EVR_EXT_FLT_LO : Nat := 0x5000 + 0x140

/-- EXT_FLT_HI of the EVR page (R493). -/
def EVR_EXT_FLT_HI : Nat := 0x5000 + 0x144

/-- ROUTE.e of the EVR page (R493). -/
def EVR_ROUTE (k : Nat) : Nat := 0x5000 + 0x800 + 4 * k

/-- THM_CTL of the THM page (R515). -/
def THM_THM_CTL : Nat := 0x6000 + 0x40

/-- THM_STAT of the THM page (R515). -/
def THM_THM_STAT : Nat := 0x6000 + 0x44

/-- WARN of the THM page (R515). -/
def THM_WARN : Nat := 0x6000 + 0x48

/-- THROT of the THM page (R515). -/
def THM_THROT : Nat := 0x6000 + 0x4C

/-- SNS_FAULT of the THM page (R515). -/
def THM_SNS_FAULT : Nat := 0x6000 + 0x50

/-- THR_FRAC_SET of the THM page (R515). -/
def THM_THR_FRAC_SET : Nat := 0x6000 + 0x54

/-- FAULT_CFG of the THM page (R515). -/
def THM_FAULT_CFG : Nat := 0x6000 + 0x58

/-- SD_REC of the THM page (R515). -/
def THM_SD_REC : Nat := 0x6000 + 0x5C

/-- SD_CNT of the THM page (R515). -/
def THM_SD_CNT : Nat := 0x6000 + 0x60

/-- THM_CMD of the THM page (R515). -/
def THM_THM_CMD : Nat := 0x6000 + 0x64

/-- SNS_CFG.s of the THM page (R515). -/
def THM_SNS_CFG (k : Nat) : Nat := 0x6000 + 0x100 + 16 * k

/-- SNS_THR.s of the THM page (R515). -/
def THM_SNS_THR (k : Nat) : Nat := 0x6000 + 0x104 + 16 * k

/-- SNS_TEMP.s of the THM page (R515). -/
def THM_SNS_TEMP (k : Nat) : Nat := 0x6000 + 0x108 + 16 * k

/-- SNS_CAL.s of the THM page (R515). -/
def THM_SNS_CAL (k : Nat) : Nat := 0x6000 + 0x10C + 16 * k

/-- AGE_CTL of the AGE page (R517). -/
def AGE_AGE_CTL : Nat := 0x7000 + 0x40

/-- MARGIN of the AGE page (R517). -/
def AGE_MARGIN : Nat := 0x7000 + 0x44

/-- FORECAST of the AGE page (R517). -/
def AGE_FORECAST : Nat := 0x7000 + 0x48

/-- CAPACITY of the AGE page (R517). -/
def AGE_CAPACITY : Nat := 0x7000 + 0x4C

/-- SLACK of the AGE page (R517). -/
def AGE_SLACK : Nat := 0x7000 + 0x50

/-- SLACK_THR of the AGE page (R517). -/
def AGE_SLACK_THR : Nat := 0x7000 + 0x54

/-- AVS of the AGE page (R517). -/
def AGE_AVS : Nat := 0x7000 + 0x58

/-- AVS_CFG of the AGE page (R517). -/
def AGE_AVS_CFG : Nat := 0x7000 + 0x5C

/-- CLK_APC of the AGE page (R517). -/
def AGE_CLK_APC : Nat := 0x7000 + 0x60

/-- DT_RAISE of the AGE page (R517). -/
def AGE_DT_RAISE : Nat := 0x7000 + 0x64

/-- SCRUB of the AGE page (R517). -/
def AGE_SCRUB : Nat := 0x7000 + 0x68

/-- WEAR of the AGE page (R517). -/
def AGE_WEAR : Nat := 0x7000 + 0x6C

/-- MARGIN_WARN of the AGE page (R517). -/
def AGE_MARGIN_WARN : Nat := 0x7000 + 0x70

/-- EYE_MIN of the AGE page (R517). -/
def AGE_EYE_MIN : Nat := 0x7000 + 0x74

/-- AGE_CMD of the AGE page (R517). -/
def AGE_AGE_CMD : Nat := 0x7000 + 0x78

/-- SRC_CTL of the LTB page (R60). -/
def LTB_SRC_CTL : Nat := 0x8000 + 0x40

/-- STATUS of the LTB page (R60). -/
def LTB_STATUS : Nat := 0x8000 + 0x44

/-- ANGLE_LO of the LTB page (R60). -/
def LTB_ANGLE_LO : Nat := 0x8000 + 0x48

/-- ANGLE_HI of the LTB page (R60). -/
def LTB_ANGLE_HI : Nat := 0x8000 + 0x4C

/-- VEL_LO of the LTB page (R60). -/
def LTB_VEL_LO : Nat := 0x8000 + 0x50

/-- VEL_HI of the LTB page (R60). -/
def LTB_VEL_HI : Nat := 0x8000 + 0x54

/-- ACC_LO of the LTB page (R60). -/
def LTB_ACC_LO : Nat := 0x8000 + 0x58

/-- ACC_HI of the LTB page (R60). -/
def LTB_ACC_HI : Nat := 0x8000 + 0x5C

/-- JERK_LO of the LTB page (R60). -/
def LTB_JERK_LO : Nat := 0x8000 + 0x60

/-- JERK_HI of the LTB page (R60). -/
def LTB_JERK_HI : Nat := 0x8000 + 0x64

/-- SNAP_T_LO of the LTB page (R60). -/
def LTB_SNAP_T_LO : Nat := 0x8000 + 0x68

/-- SNAP_T_HI of the LTB page (R60). -/
def LTB_SNAP_T_HI : Nat := 0x8000 + 0x6C

/-- DT_LO of the LTB page (R60). -/
def LTB_DT_LO : Nat := 0x8000 + 0x70

/-- DT_HI of the LTB page (R60). -/
def LTB_DT_HI : Nat := 0x8000 + 0x74

/-- VMG_CMD of the LTB page (R60). -/
def LTB_VMG_CMD : Nat := 0x8000 + 0x78

/-- LOSS_CTL of the LTB page (R60). -/
def LTB_LOSS_CTL : Nat := 0x8000 + 0x7C

/-- VMG_TGT_LO of the LTB page (R60). -/
def LTB_VMG_TGT_LO : Nat := 0x8000 + 0x80

/-- VMG_TGT_HI of the LTB page (R60). -/
def LTB_VMG_TGT_HI : Nat := 0x8000 + 0x84

/-- VMG_ACC_LO of the LTB page (R60). -/
def LTB_VMG_ACC_LO : Nat := 0x8000 + 0x88

/-- VMG_ACC_HI of the LTB page (R60). -/
def LTB_VMG_ACC_HI : Nat := 0x8000 + 0x8C

/-- VMG_DEC_LO of the LTB page (R60). -/
def LTB_VMG_DEC_LO : Nat := 0x8000 + 0x90

/-- VMG_DEC_HI of the LTB page (R60). -/
def LTB_VMG_DEC_HI : Nat := 0x8000 + 0x94

/-- VMG_JERK_LO of the LTB page (R60). -/
def LTB_VMG_JERK_LO : Nat := 0x8000 + 0x98

/-- VMG_JERK_HI of the LTB page (R60). -/
def LTB_VMG_JERK_HI : Nat := 0x8000 + 0x9C

/-- STOP_DEC_LO of the LTB page (R60). -/
def LTB_STOP_DEC_LO : Nat := 0x8000 + 0xA0

/-- STOP_DEC_HI of the LTB page (R60). -/
def LTB_STOP_DEC_HI : Nat := 0x8000 + 0xA4

/-- STOP_JERK_LO of the LTB page (R60). -/
def LTB_STOP_JERK_LO : Nat := 0x8000 + 0xA8

/-- STOP_JERK_HI of the LTB page (R60). -/
def LTB_STOP_JERK_HI : Nat := 0x8000 + 0xAC

/-- SCALE_NUM of the LTB page (R60). -/
def LTB_SCALE_NUM : Nat := 0x8000 + 0xB0

/-- SCALE_DEN of the LTB page (R60). -/
def LTB_SCALE_DEN : Nat := 0x8000 + 0xB4

/-- SRC_OFS_LO of the LTB page (R60). -/
def LTB_SRC_OFS_LO : Nat := 0x8000 + 0xB8

/-- SRC_OFS_HI of the LTB page (R60). -/
def LTB_SRC_OFS_HI : Nat := 0x8000 + 0xBC

/-- PRED_VMIN of the LTB page (R60). -/
def LTB_PRED_VMIN : Nat := 0x8000 + 0xC0

/-- PRED_ERR_MAX of the LTB page (R60). -/
def LTB_PRED_ERR_MAX : Nat := 0x8000 + 0xC4

/-- LS_MISS_CNT of the LTB page (R60). -/
def LTB_LS_MISS_CNT : Nat := 0x8000 + 0xC8

/-- JOIN_TOL of the LTB page (R60). -/
def LTB_JOIN_TOL : Nat := 0x8000 + 0xCC

/-- DISC_CTL of the LTB page (R60). -/
def LTB_DISC_CTL : Nat := 0x8000 + 0xD0

/-- DISC_RATE of the LTB page (R60). -/
def LTB_DISC_RATE : Nat := 0x8000 + 0xD4

/-- DISC_ERR of the LTB page (R60). -/
def LTB_DISC_ERR : Nat := 0x8000 + 0xD8

/-- UTC_OFS of the LTB page (R60). -/
def LTB_UTC_OFS : Nat := 0x8000 + 0xDC

/-- RTC_SEC_LO of the LTB page (R60). -/
def LTB_RTC_SEC_LO : Nat := 0x8000 + 0xE0

/-- RTC_SEC_HI of the LTB page (R60). -/
def LTB_RTC_SEC_HI : Nat := 0x8000 + 0xE4

/-- RTC_NS of the LTB page (R60). -/
def LTB_RTC_NS : Nat := 0x8000 + 0xE8

/-- RTC_SET_SEC_LO of the LTB page (R60). -/
def LTB_RTC_SET_SEC_LO : Nat := 0x8000 + 0xEC

/-- RTC_SET_SEC_HI of the LTB page (R60). -/
def LTB_RTC_SET_SEC_HI : Nat := 0x8000 + 0xF0

/-- RTC_SET_NS of the LTB page (R60). -/
def LTB_RTC_SET_NS : Nat := 0x8000 + 0xF4

/-- VMG_VMAX_LO of the LTB page (R60). -/
def LTB_VMG_VMAX_LO : Nat := 0x8000 + 0xF8

/-- VMG_VMAX_HI of the LTB page (R60). -/
def LTB_VMG_VMAX_HI : Nat := 0x8000 + 0xFC

/-- CTL of the ASC page (R88). -/
def ASC_CTL : Nat := 0x9000 + 0x40

/-- STATUS of the ASC page (R88). -/
def ASC_STATUS : Nat := 0x9000 + 0x44

/-- HORIZON of the ASC page (R88). -/
def ASC_HORIZON : Nat := 0x9000 + 0x48

/-- TABLE_BASE of the ASC page (R88). -/
def ASC_TABLE_BASE : Nat := 0x9000 + 0x4C

/-- FCO_LVL of the ASC page (R88). -/
def ASC_FCO_LVL : Nat := 0x9000 + 0x50

/-- FCO_SW_SET of the ASC page (R88). -/
def ASC_FCO_SW_SET : Nat := 0x9000 + 0x54

/-- FCO_SW_CLR of the ASC page (R88). -/
def ASC_FCO_SW_CLR : Nat := 0x9000 + 0x58

/-- FLI_LVL of the ASC page (R88). -/
def ASC_FLI_LVL : Nat := 0x9000 + 0x5C

/-- LANE_CFG.n of the ASC page (R88). -/
def ASC_LANE_CFG (k : Nat) : Nat := 0x9000 + 0x100 + 16 * k

/-- LANE_WIN.n of the ASC page (R88). -/
def ASC_LANE_WIN (k : Nat) : Nat := 0x9000 + 0x104 + 16 * k

/-- LANE_STAT.n of the ASC page (R88). -/
def ASC_LANE_STAT (k : Nat) : Nat := 0x9000 + 0x108 + 16 * k

/-- LANE_CNT.n of the ASC page (R88). -/
def ASC_LANE_CNT (k : Nat) : Nat := 0x9000 + 0x10C + 16 * k

/-- FCO_CTL.k of the ASC page (R88). -/
def ASC_FCO_CTL (k : Nat) : Nat := 0x9000 + 0x200 + 16 * k

/-- FCO_PULSE_W.k of the ASC page (R88). -/
def ASC_FCO_PULSE_W (k : Nat) : Nat := 0x9000 + 0x204 + 16 * k

/-- FCO_LEAD_ACT.k of the ASC page (R88). -/
def ASC_FCO_LEAD_ACT (k : Nat) : Nat := 0x9000 + 0x208 + 16 * k

/-- FCO_LEAD_INACT.k of the ASC page (R88). -/
def ASC_FCO_LEAD_INACT (k : Nat) : Nat := 0x9000 + 0x20C + 16 * k

/-- FLI_CTL.k of the ASC page (R88). -/
def ASC_FLI_CTL (k : Nat) : Nat := 0x9000 + 0x300 + 4 * k

/-- SAF_CTL of the SAF0 page (R437). -/
def SAF0_SAF_CTL : Nat := 0xC000 + 0x40

/-- SAF_STAT of the SAF0 page (R437). -/
def SAF0_SAF_STAT : Nat := 0xC000 + 0x44

/-- SAF_CMD of the SAF0 page (R437). -/
def SAF0_SAF_CMD : Nat := 0xC000 + 0x48

/-- SAF_SIG of the SAF0 page (R437). -/
def SAF0_SAF_SIG : Nat := 0xC000 + 0x4C

/-- SIG_A of the SAF0 page (R437). -/
def SAF0_SIG_A : Nat := 0xC000 + 0x50

/-- CONN_ID of the SAF0 page (R437). -/
def SAF0_CONN_ID : Nat := 0xC000 + 0x54

/-- RING_ID of the SAF0 page (R437). -/
def SAF0_RING_ID : Nat := 0xC000 + 0x58

/-- WD_CFG of the SAF0 page (R437). -/
def SAF0_WD_CFG : Nat := 0xC000 + 0x5C

/-- GRP_CFG.g of the SAF0 page (R437). -/
def SAF0_GRP_CFG (k : Nat) : Nat := 0xC000 + 0x60 + 4 * k

/-- GRP_MASK_LO.g of the SAF0 page (R437). -/
def SAF0_GRP_MASK_LO (k : Nat) : Nat := 0xC000 + 0x70 + 8 * k

/-- GRP_MASK_HI.g of the SAF0 page (R437). -/
def SAF0_GRP_MASK_HI (k : Nat) : Nat := 0xC000 + 0x74 + 8 * k

/-- DEM_REQ of the SAF0 page (R437). -/
def SAF0_DEM_REQ : Nat := 0xC000 + 0x90

/-- PT_CFG of the SAF0 page (R437). -/
def SAF0_PT_CFG : Nat := 0xC000 + 0x94

/-- CNT_SAF of the SAF0 page (R437). -/
def SAF0_CNT_SAF : Nat := 0xC000 + 0x98

/-- LAST_ERR of the SAF0 page (R437). -/
def SAF0_LAST_ERR : Nat := 0xC000 + 0x9C

/-- OUT_GATE of the SAF0 page (R437). -/
def SAF0_OUT_GATE : Nat := 0xC000 + 0xA0

/-- PAIR_CFG.p of the SAF0 page (R437). -/
def SAF0_PAIR_CFG (k : Nat) : Nat := 0xC000 + 0xA4 + 4 * k

/-- PAIR_STAT of the SAF0 page (R437). -/
def SAF0_PAIR_STAT : Nat := 0xC000 + 0xC4

/-- GA_CFG.g of the SAF0 page (R437). -/
def SAF0_GA_CFG (k : Nat) : Nat := 0xC000 + 0x400 + 64 * k

/-- GA_FUNC.g of the SAF0 page (R437). -/
def SAF0_GA_FUNC (k : Nat) : Nat := 0xC000 + 0x404 + 64 * k

/-- CPT_A.g of the SAF0 page (R437). -/
def SAF0_CPT_A (k : Nat) : Nat := 0xC000 + 0x408 + 64 * k

/-- CPT_B.g of the SAF0 page (R437). -/
def SAF0_CPT_B (k : Nat) : Nat := 0xC000 + 0x40C + 64 * k

/-- POS_TOL.g of the SAF0 page (R437). -/
def SAF0_POS_TOL (k : Nat) : Nat := 0xC000 + 0x410 + 64 * k

/-- VEL_TOL.g of the SAF0 page (R437). -/
def SAF0_VEL_TOL (k : Nat) : Nat := 0xC000 + 0x414 + 64 * k

/-- SLS_LIM.g of the SAF0 page (R437). -/
def SAF0_SLS_LIM (k : Nat) : Nat := 0xC000 + 0x418 + 64 * k

/-- SDI_TOL.g of the SAF0 page (R437). -/
def SAF0_SDI_TOL (k : Nat) : Nat := 0xC000 + 0x41C + 64 * k

/-- SLP_MIN.g of the SAF0 page (R437). -/
def SAF0_SLP_MIN (k : Nat) : Nat := 0xC000 + 0x420 + 64 * k

/-- SLP_MAX.g of the SAF0 page (R437). -/
def SAF0_SLP_MAX (k : Nat) : Nat := 0xC000 + 0x424 + 64 * k

/-- SLP_OFS.g of the SAF0 page (R437). -/
def SAF0_SLP_OFS (k : Nat) : Nat := 0xC000 + 0x428 + 64 * k

/-- SS1_DEC.g of the SAF0 page (R437). -/
def SAF0_SS1_DEC (k : Nat) : Nat := 0xC000 + 0x42C + 64 * k

/-- SS1_CFG.g of the SAF0 page (R437). -/
def SAF0_SS1_CFG (k : Nat) : Nat := 0xC000 + 0x430 + 64 * k

/-- SS_VEL.g of the SAF0 page (R437). -/
def SAF0_SS_VEL (k : Nat) : Nat := 0xC000 + 0x434 + 64 * k

/-- GA_STAT.g of the SAF0 page (R437). -/
def SAF0_GA_STAT (k : Nat) : Nat := 0xC000 + 0x438 + 64 * k

/-- GA_VEL.g of the SAF0 page (R437). -/
def SAF0_GA_VEL (k : Nat) : Nat := 0xC000 + 0x43C + 64 * k

/-- B_STAT of the SAF1 page (R440). -/
def SAF1_B_STAT : Nat := 0xD000 + 0x40

/-- SIG_B of the SAF1 page (R440). -/
def SAF1_SIG_B : Nat := 0xD000 + 0x44

/-- B_OUT of the SAF1 page (R440). -/
def SAF1_B_OUT : Nat := 0xD000 + 0x48

/-- B_PAIR of the SAF1 page (R440). -/
def SAF1_B_PAIR : Nat := 0xD000 + 0x4C

/-- GB_STAT.g of the SAF1 page (R440). -/
def SAF1_GB_STAT (k : Nat) : Nat := 0xD000 + 0x400 + 8 * k

/-- GB_VEL.g of the SAF1 page (R440). -/
def SAF1_GB_VEL (k : Nat) : Nat := 0xD000 + 0x404 + 8 * k

/-- IN_CFG.k of the FIO page (R442). -/
def FIO_IN_CFG (k : Nat) : Nat := 0xE000 + 0x40 + 4 * k

/-- IN_LVL of the FIO page (R442). -/
def FIO_IN_LVL : Nat := 0xE000 + 0x80

/-- SUP_STAT of the FIO page (R442). -/
def FIO_SUP_STAT : Nat := 0xE000 + 0x84

/-- OUT_SET of the FIO page (R442). -/
def FIO_OUT_SET : Nat := 0xE000 + 0x88

/-- OUT_STAT of the FIO page (R442). -/
def FIO_OUT_STAT : Nat := 0xE000 + 0x8C

/-- OUT_CLR of the FIO page (R442). -/
def FIO_OUT_CLR : Nat := 0xE000 + 0x90

/-- CNT_FIO of the FIO page (R442). -/
def FIO_CNT_FIO : Nat := 0xE000 + 0x94

/-- OUT_CFG.k of the FIO page (R442). -/
def FIO_OUT_CFG (k : Nat) : Nat := 0xE000 + 0xC0 + 4 * k

/-- ACQ_CTL of the ACQ page (R457). -/
def ACQ_ACQ_CTL (n : Nat) : Nat := 0x10000 + n * 0x1000 + 0x40

/-- ACQ_CMD of the ACQ page (R457). -/
def ACQ_ACQ_CMD (n : Nat) : Nat := 0x10000 + n * 0x1000 + 0x44

/-- ACQ_STAT of the ACQ page (R457). -/
def ACQ_ACQ_STAT (n : Nat) : Nat := 0x10000 + n * 0x1000 + 0x48

/-- INTERVAL of the ACQ page (R457). -/
def ACQ_INTERVAL (n : Nat) : Nat := 0x10000 + n * 0x1000 + 0x4C

/-- ANG_DIV of the ACQ page (R457). -/
def ACQ_ANG_DIV (n : Nat) : Nat := 0x10000 + n * 0x1000 + 0x50

/-- REGION of the ACQ page (R457). -/
def ACQ_REGION (n : Nat) : Nat := 0x10000 + n * 0x1000 + 0x54

/-- PRE of the ACQ page (R457). -/
def ACQ_PRE (n : Nat) : Nat := 0x10000 + n * 0x1000 + 0x58

/-- POST of the ACQ page (R457). -/
def ACQ_POST (n : Nat) : Nat := 0x10000 + n * 0x1000 + 0x5C

/-- TRIG_CFG of the ACQ page (R457). -/
def ACQ_TRIG_CFG (n : Nat) : Nat := 0x10000 + n * 0x1000 + 0x60

/-- TRIG_HI of the ACQ page (R457). -/
def ACQ_TRIG_HI (n : Nat) : Nat := 0x10000 + n * 0x1000 + 0x64

/-- TRIG_LO of the ACQ page (R457). -/
def ACQ_TRIG_LO (n : Nat) : Nat := 0x10000 + n * 0x1000 + 0x68

/-- TRIG_T1 of the ACQ page (R457). -/
def ACQ_TRIG_T1 (n : Nat) : Nat := 0x10000 + n * 0x1000 + 0x6C

/-- TRIG_T2 of the ACQ page (R457). -/
def ACQ_TRIG_T2 (n : Nat) : Nat := 0x10000 + n * 0x1000 + 0x70

/-- TRIG_T_LO of the ACQ page (R457). -/
def ACQ_TRIG_T_LO (n : Nat) : Nat := 0x10000 + n * 0x1000 + 0x74

/-- TRIG_T_HI of the ACQ page (R457). -/
def ACQ_TRIG_T_HI (n : Nat) : Nat := 0x10000 + n * 0x1000 + 0x78

/-- ORIG_T_LO of the ACQ page (R457). -/
def ACQ_ORIG_T_LO (n : Nat) : Nat := 0x10000 + n * 0x1000 + 0x7C

/-- ORIG_T_HI of the ACQ page (R457). -/
def ACQ_ORIG_T_HI (n : Nat) : Nat := 0x10000 + n * 0x1000 + 0x80

/-- TRIG_IDX of the ACQ page (R457). -/
def ACQ_TRIG_IDX (n : Nat) : Nat := 0x10000 + n * 0x1000 + 0x84

/-- FIRST_OFS of the ACQ page (R457). -/
def ACQ_FIRST_OFS (n : Nat) : Nat := 0x10000 + n * 0x1000 + 0x88

/-- TRIG_OFS of the ACQ page (R457). -/
def ACQ_TRIG_OFS (n : Nat) : Nat := 0x10000 + n * 0x1000 + 0x8C

/-- WR_OFS of the ACQ page (R457). -/
def ACQ_WR_OFS (n : Nat) : Nat := 0x10000 + n * 0x1000 + 0x90

/-- RD_OFS of the ACQ page (R457). -/
def ACQ_RD_OFS (n : Nat) : Nat := 0x10000 + n * 0x1000 + 0x94

/-- ROWS of the ACQ page (R457). -/
def ACQ_ROWS (n : Nat) : Nat := 0x10000 + n * 0x1000 + 0x98

/-- GAP_CNT of the ACQ page (R457). -/
def ACQ_GAP_CNT (n : Nat) : Nat := 0x10000 + n * 0x1000 + 0x9C

/-- CNT_EV of the ACQ page (R457). -/
def ACQ_CNT_EV (n : Nat) : Nat := 0x10000 + n * 0x1000 + 0xA0

/-- RING_LEAD of the ACQ page (R457). -/
def ACQ_RING_LEAD (n : Nat) : Nat := 0x10000 + n * 0x1000 + 0xA4

/-- ROW_BYTES of the ACQ page (R457). -/
def ACQ_ROW_BYTES (n : Nat) : Nat := 0x10000 + n * 0x1000 + 0xA8

/-- DEAL_CTL of the ACQ page (R457). -/
def ACQ_DEAL_CTL (n : Nat) : Nat := 0x10000 + n * 0x1000 + 0xAC

/-- MASK_CFG.m of the ACQ page (R457). -/
def ACQ_MASK_CFG (n : Nat) (k : Nat) : Nat := 0x10000 + n * 0x1000 + 0xC0 + 16 * k

/-- MASK_BASE.m of the ACQ page (R457). -/
def ACQ_MASK_BASE (n : Nat) (k : Nat) : Nat := 0x10000 + n * 0x1000 + 0xC4 + 16 * k

/-- MASK_LEN.m of the ACQ page (R457). -/
def ACQ_MASK_LEN (n : Nat) (k : Nat) : Nat := 0x10000 + n * 0x1000 + 0xC8 + 16 * k

/-- MASK_CNT.m of the ACQ page (R457). -/
def ACQ_MASK_CNT (n : Nat) (k : Nat) : Nat := 0x10000 + n * 0x1000 + 0xCC + 16 * k

/-- REG_ADDR.r of the ACQ page (R457). -/
def ACQ_REG_ADDR (n : Nat) (k : Nat) : Nat := 0x10000 + n * 0x1000 + 0x100 + 4 * k

/-- CH_CFG.c of the ACQ page (R457). -/
def ACQ_CH_CFG (n : Nat) (k : Nat) : Nat := 0x10000 + n * 0x1000 + 0x200 + 4 * k

/-- REC_CTL of the REC page (R475). -/
def REC_REC_CTL : Nat := 0x14000 + 0x40

/-- REC_STAT of the REC page (R475). -/
def REC_REC_STAT : Nat := 0x14000 + 0x44

/-- REC_CMD of the REC page (R475). -/
def REC_REC_CMD : Nat := 0x14000 + 0x48

/-- FLUSH_CFG of the REC page (R475). -/
def REC_FLUSH_CFG : Nat := 0x14000 + 0x4C

/-- WR_OFS of the REC page (R475). -/
def REC_WR_OFS : Nat := 0x14000 + 0x50

/-- SEQ of the REC page (R475). -/
def REC_SEQ : Nat := 0x14000 + 0x54

/-- FLUSHED_SEQ of the REC page (R475). -/
def REC_FLUSHED_SEQ : Nat := 0x14000 + 0x58

/-- GR_FILL of the REC page (R475). -/
def REC_GR_FILL : Nat := 0x14000 + 0x5C

/-- GR_BLOCKS of the REC page (R475). -/
def REC_GR_BLOCKS : Nat := 0x14000 + 0x60

/-- CNT_REC of the REC page (R475). -/
def REC_CNT_REC : Nat := 0x14000 + 0x64

/-- OP_SEC of the REC page (R475). -/
def REC_OP_SEC : Nat := 0x14000 + 0x68

/-- PWR_CYC of the REC page (R475). -/
def REC_PWR_CYC : Nat := 0x14000 + 0x6C

/-- RING_BASE of the REC page (R475). -/
def REC_RING_BASE : Nat := 0x14000 + 0x70

/-- PFAIL_CFG of the REC page (R475). -/
def REC_PFAIL_CFG : Nat := 0x14000 + 0x74

/-- SHEAF_CFG.s of the REC page (R475). -/
def REC_SHEAF_CFG (k : Nat) : Nat := 0x14000 + 0x80 + 4 * k

/-- SHEAF_ADDR.s.i of the REC page (R475). -/
def REC_SHEAF_ADDR (s i : Nat) : Nat := 0x14000 + 0x100 + 128 * s + 4 * i

/-- PCI_ID of the PCI page (R542). -/
def PCI_PCI_ID : Nat := 0x18000 + 0x40

/-- LINK_STAT of the PCI page (R542). -/
def PCI_LINK_STAT : Nat := 0x18000 + 0x44

/-- PCI_CTL of the PCI page (R542). -/
def PCI_PCI_CTL : Nat := 0x18000 + 0x48

/-- ERR_CNT of the PCI page (R542). -/
def PCI_ERR_CNT : Nat := 0x18000 + 0x4C

/-- MSIX_TABLE of the PCI page (R542). -/
def PCI_MSIX_TABLE (k : Nat) : Nat := 0x18000 + 0x800 + 4 * k

/-- MSIX_PBA of the PCI page (R542). -/
def PCI_MSIX_PBA (k : Nat) : Nat := 0x18000 + 0xC00 + 4 * k

/-- CH_CTL.c of the DMA page (R543). -/
def DMA_CH_CTL (k : Nat) : Nat := 0x19000 + 0x100 + 32 * k

/-- CH_CMD.c of the DMA page (R543). -/
def DMA_CH_CMD (k : Nat) : Nat := 0x19000 + 0x104 + 32 * k

/-- CH_STAT.c of the DMA page (R543). -/
def DMA_CH_STAT (k : Nat) : Nat := 0x19000 + 0x108 + 32 * k

/-- DESC_ADDR.c of the DMA page (R543). -/
def DMA_DESC_ADDR (k : Nat) : Nat := 0x19000 + 0x10C + 32 * k

/-- CUR_DESC.c of the DMA page (R543). -/
def DMA_CUR_DESC (k : Nat) : Nat := 0x19000 + 0x110 + 32 * k

/-- CNT.c of the DMA page (R543). -/
def DMA_CNT (k : Nat) : Nat := 0x19000 + 0x114 + 32 * k

/-- TRUMP.c of the DMA page (R543). -/
def DMA_TRUMP (k : Nat) : Nat := 0x19000 + 0x118 + 32 * k

/-- ETH_CTL of the ETH page (R544). -/
def ETH_ETH_CTL (n : Nat) : Nat := 0x1A000 + n * 0x1000 + 0x40

/-- ETH_STAT of the ETH page (R544). -/
def ETH_ETH_STAT (n : Nat) : Nat := 0x1A000 + n * 0x1000 + 0x44

/-- TX_BASE of the ETH page (R544). -/
def ETH_TX_BASE (n : Nat) : Nat := 0x1A000 + n * 0x1000 + 0x48

/-- RX_BASE of the ETH page (R544). -/
def ETH_RX_BASE (n : Nat) : Nat := 0x1A000 + n * 0x1000 + 0x4C

/-- RING_LEN of the ETH page (R544). -/
def ETH_RING_LEN (n : Nat) : Nat := 0x1A000 + n * 0x1000 + 0x50

/-- RX_BUF of the ETH page (R544). -/
def ETH_RX_BUF (n : Nat) : Nat := 0x1A000 + n * 0x1000 + 0x54

/-- TAIL of the ETH page (R544). -/
def ETH_TAIL (n : Nat) : Nat := 0x1A000 + n * 0x1000 + 0x58

/-- HEAD of the ETH page (R544). -/
def ETH_HEAD (n : Nat) : Nat := 0x1A000 + n * 0x1000 + 0x5C

/-- ADDR_LO.a of the ETH page (R544). -/
def ETH_ADDR_LO (n : Nat) (k : Nat) : Nat := 0x1A000 + n * 0x1000 + 0x60 + 8 * k

/-- ADDR_HI.a of the ETH page (R544). -/
def ETH_ADDR_HI (n : Nat) (k : Nat) : Nat := 0x1A000 + n * 0x1000 + 0x64 + 8 * k

/-- MC_HASH_LO of the ETH page (R544). -/
def ETH_MC_HASH_LO (n : Nat) : Nat := 0x1A000 + n * 0x1000 + 0x80

/-- MC_HASH_HI of the ETH page (R544). -/
def ETH_MC_HASH_HI (n : Nat) : Nat := 0x1A000 + n * 0x1000 + 0x84

/-- PTP_CTL of the ETH page (R544). -/
def ETH_PTP_CTL (n : Nat) : Nat := 0x1A000 + n * 0x1000 + 0x88

/-- TS_LAT of the ETH page (R544). -/
def ETH_TS_LAT (n : Nat) : Nat := 0x1A000 + n * 0x1000 + 0x8C

/-- PTP_MEAS of the ETH page (R544). -/
def ETH_PTP_MEAS (n : Nat) : Nat := 0x1A000 + n * 0x1000 + 0x90

/-- PTP_T_LO of the ETH page (R544). -/
def ETH_PTP_T_LO (n : Nat) : Nat := 0x1A000 + n * 0x1000 + 0x94

/-- PTP_T_HI of the ETH page (R544). -/
def ETH_PTP_T_HI (n : Nat) : Nat := 0x1A000 + n * 0x1000 + 0x98

/-- CNT_ERR of the ETH page (R544). -/
def ETH_CNT_ERR (n : Nat) : Nat := 0x1A000 + n * 0x1000 + 0x9C

/-- MDIO of the ETH page (R544). -/
def ETH_MDIO (n : Nat) : Nat := 0x1A000 + n * 0x1000 + 0xA0

/-- DRC_CFG of the DRC page (R545). -/
def DRC_DRC_CFG : Nat := 0x1C000 + 0x40

/-- DRC_STAT of the DRC page (R545). -/
def DRC_DRC_STAT : Nat := 0x1C000 + 0x44

/-- SIZE of the DRC page (R545). -/
def DRC_SIZE : Nat := 0x1C000 + 0x48

/-- ECC_CNT of the DRC page (R545). -/
def DRC_ECC_CNT : Nat := 0x1C000 + 0x4C

/-- ECC_ADDR of the DRC page (R545). -/
def DRC_ECC_ADDR : Nat := 0x1C000 + 0x50

/-- MEM_STAT of the MEM page (R546). -/
def MEM_MEM_STAT : Nat := 0x1D000 + 0x40

/-- SRAM_ECC of the MEM page (R546). -/
def MEM_SRAM_ECC : Nat := 0x1D000 + 0x44

/-- MRAM_ECC of the MEM page (R546). -/
def MEM_MRAM_ECC : Nat := 0x1D000 + 0x48

/-- MW_ADDR of the MEM page (R546). -/
def MEM_MW_ADDR : Nat := 0x1D000 + 0x4C

/-- MW_CMD of the MEM page (R546). -/
def MEM_MW_CMD : Nat := 0x1D000 + 0x50

/-- FL_ADDR of the MEM page (R546). -/
def MEM_FL_ADDR : Nat := 0x1D000 + 0x54

/-- FL_CMD of the MEM page (R546). -/
def MEM_FL_CMD : Nat := 0x1D000 + 0x58

/-- FL_INFO of the MEM page (R546). -/
def MEM_FL_INFO : Nat := 0x1D000 + 0x5C

/-- ARB_CFG.r of the MEM page (R546). -/
def MEM_ARB_CFG (k : Nat) : Nat := 0x1D000 + 0x100 + 4 * k

/-- ARB_TRUMP.r of the MEM page (R546). -/
def MEM_ARB_TRUMP (k : Nat) : Nat := 0x1D000 + 0x120 + 4 * k

/-- FL_BUF of the MEM page (R546). -/
def MEM_FL_BUF (k : Nat) : Nat := 0x1D000 + 0x800 + 4 * k

/-- MW_BUF of the MEM page (R546). -/
def MEM_MW_BUF (k : Nat) : Nat := 0x1D000 + 0x900 + 4 * k

/-- CAN_CTL of the CAN page (R560). -/
def CAN_CAN_CTL (n : Nat) : Nat := 0x1E000 + n * 0x1000 + 0x40

/-- CAN_STAT of the CAN page (R560). -/
def CAN_CAN_STAT (n : Nat) : Nat := 0x1E000 + n * 0x1000 + 0x44

/-- CAN_CMD of the CAN page (R560). -/
def CAN_CAN_CMD (n : Nat) : Nat := 0x1E000 + n * 0x1000 + 0x48

/-- NBT of the CAN page (R560). -/
def CAN_NBT (n : Nat) : Nat := 0x1E000 + n * 0x1000 + 0x4C

/-- DBT of the CAN page (R560). -/
def CAN_DBT (n : Nat) : Nat := 0x1E000 + n * 0x1000 + 0x50

/-- TDC of the CAN page (R560). -/
def CAN_TDC (n : Nat) : Nat := 0x1E000 + n * 0x1000 + 0x54

/-- ERR_CNT of the CAN page (R560). -/
def CAN_ERR_CNT (n : Nat) : Nat := 0x1E000 + n * 0x1000 + 0x58

/-- LEC of the CAN page (R560). -/
def CAN_LEC (n : Nat) : Nat := 0x1E000 + n * 0x1000 + 0x5C

/-- CNT_CAN of the CAN page (R560). -/
def CAN_CNT_CAN (n : Nat) : Nat := 0x1E000 + n * 0x1000 + 0x60

/-- OBJ_CMD of the CAN page (R560). -/
def CAN_OBJ_CMD (n : Nat) : Nat := 0x1E000 + n * 0x1000 + 0x64

/-- OBJ_STAT of the CAN page (R560). -/
def CAN_OBJ_STAT (n : Nat) : Nat := 0x1E000 + n * 0x1000 + 0x68

/-- RX_NEW.w of the CAN page (R560). -/
def CAN_RX_NEW (n : Nat) (k : Nat) : Nat := 0x1E000 + n * 0x1000 + 0x70 + 4 * k

/-- LOST.w of the CAN page (R560). -/
def CAN_LOST (n : Nat) (k : Nat) : Nat := 0x1E000 + n * 0x1000 + 0x80 + 4 * k

/-- TX_PEND.w of the CAN page (R560). -/
def CAN_TX_PEND (n : Nat) (k : Nat) : Nat := 0x1E000 + n * 0x1000 + 0x90 + 4 * k

/-- INJ_ARG of the CAN page (R560). -/
def CAN_INJ_ARG (n : Nat) : Nat := 0x1E000 + n * 0x1000 + 0xA0

/-- INJ_CNT of the CAN page (R560). -/
def CAN_INJ_CNT (n : Nat) : Nat := 0x1E000 + n * 0x1000 + 0xA4

/-- BUF_ID of the CAN page (R560). -/
def CAN_BUF_ID (n : Nat) : Nat := 0x1E000 + n * 0x1000 + 0x100

/-- BUF_FLAGS of the CAN page (R560). -/
def CAN_BUF_FLAGS (n : Nat) : Nat := 0x1E000 + n * 0x1000 + 0x104

/-- BUF_T_LO of the CAN page (R560). -/
def CAN_BUF_T_LO (n : Nat) : Nat := 0x1E000 + n * 0x1000 + 0x108

/-- BUF_T_HI of the CAN page (R560). -/
def CAN_BUF_T_HI (n : Nat) : Nat := 0x1E000 + n * 0x1000 + 0x10C

/-- BUF_DATA of the CAN page (R560). -/
def CAN_BUF_DATA (n : Nat) (k : Nat) : Nat := 0x1E000 + n * 0x1000 + 0x110 + 4 * k

/-- OBJ_ID.o of the CAN page (R560). -/
def CAN_OBJ_ID (n : Nat) (k : Nat) : Nat := 0x1E000 + n * 0x1000 + 0x400 + 8 * k

/-- OBJ_CTL.o of the CAN page (R560). -/
def CAN_OBJ_CTL (n : Nat) (k : Nat) : Nat := 0x1E000 + n * 0x1000 + 0x404 + 8 * k

/-- SIL_CFG of the SIL page (R495). -/
def SIL_SIL_CFG (n : Nat) : Nat := 0x40000 + n * 0x1000 + 0x40

/-- COUNT of the SIL page (R495). -/
def SIL_COUNT (n : Nat) : Nat := 0x40000 + n * 0x1000 + 0x44

/-- SIL_CMD of the SIL page (R495). -/
def SIL_SIL_CMD (n : Nat) : Nat := 0x40000 + n * 0x1000 + 0x48

/-- SIL_STAT of the SIL page (R495). -/
def SIL_SIL_STAT (n : Nat) : Nat := 0x40000 + n * 0x1000 + 0x4C

/-- STALL_LIM of the SIL page (R495). -/
def SIL_STALL_LIM (n : Nat) : Nat := 0x40000 + n * 0x1000 + 0x50

/-- SIL_CNT of the SIL page (R495). -/
def SIL_SIL_CNT (n : Nat) : Nat := 0x40000 + n * 0x1000 + 0x54

/-- PUSH of the SIL page (R495). -/
def SIL_PUSH (n : Nat) (k : Nat) : Nat := 0x40000 + n * 0x1000 + 0x100 + 4 * k

/-- POP of the SIL page (R495). -/
def SIL_POP (n : Nat) (k : Nat) : Nat := 0x40000 + n * 0x1000 + 0x120 + 4 * k

/-- PEEK of the SIL page (R495). -/
def SIL_PEEK (n : Nat) (k : Nat) : Nat := 0x40000 + n * 0x1000 + 0x140 + 4 * k

/-- LOOP_CTL of the AXL page (R199). -/
def AXL_LOOP_CTL (n : Nat) : Nat := 0x100000 + n * 0x4000 + 0x40

/-- AXIS_CMD of the AXL page (R199). -/
def AXL_AXIS_CMD (n : Nat) : Nat := 0x100000 + n * 0x4000 + 0x44

/-- LOOP_STAT of the AXL page (R199). -/
def AXL_LOOP_STAT (n : Nat) : Nat := 0x100000 + n * 0x4000 + 0x48

/-- DL_CFG of the AXL page (R199). -/
def AXL_DL_CFG (n : Nat) : Nat := 0x100000 + n * 0x4000 + 0x4C

/-- DL_CNT of the AXL page (R199). -/
def AXL_DL_CNT (n : Nat) : Nat := 0x100000 + n * 0x4000 + 0x50

/-- APPLY_OFS of the AXL page (R199). -/
def AXL_APPLY_OFS (n : Nat) : Nat := 0x100000 + n * 0x4000 + 0x54

/-- SAMPLE_HZ of the AXL page (R199). -/
def AXL_SAMPLE_HZ (n : Nat) : Nat := 0x100000 + n * 0x4000 + 0x58

/-- TUNE of the AXL page (R199). -/
def AXL_TUNE (n : Nat) : Nat := 0x100000 + n * 0x4000 + 0x5C

/-- EXT_CFG of the AXL page (R199). -/
def AXL_EXT_CFG (n : Nat) : Nat := 0x100000 + n * 0x4000 + 0x60

/-- I_SCALE of the AXL page (R199). -/
def AXL_I_SCALE (n : Nat) : Nat := 0x100000 + n * 0x4000 + 0x100

/-- V_SCALE of the AXL page (R199). -/
def AXL_V_SCALE (n : Nat) : Nat := 0x100000 + n * 0x4000 + 0x104

/-- I_PEAK of the AXL page (R199). -/
def AXL_I_PEAK (n : Nat) : Nat := 0x100000 + n * 0x4000 + 0x108

/-- POLE_PAIRS of the AXL page (R199). -/
def AXL_POLE_PAIRS (n : Nat) : Nat := 0x100000 + n * 0x4000 + 0x10C

/-- ELEC_OFS of the AXL page (R199). -/
def AXL_ELEC_OFS (n : Nat) : Nat := 0x100000 + n * 0x4000 + 0x110

/-- L_D of the AXL page (R199). -/
def AXL_L_D (n : Nat) : Nat := 0x100000 + n * 0x4000 + 0x114

/-- L_Q of the AXL page (R199). -/
def AXL_L_Q (n : Nat) : Nat := 0x100000 + n * 0x4000 + 0x118

/-- PSI of the AXL page (R199). -/
def AXL_PSI (n : Nat) : Nat := 0x100000 + n * 0x4000 + 0x11C

/-- VEL_FC of the AXL page (R199). -/
def AXL_VEL_FC (n : Nat) : Nat := 0x100000 + n * 0x4000 + 0x120

/-- MOD_MAX of the AXL page (R199). -/
def AXL_MOD_MAX (n : Nat) : Nat := 0x100000 + n * 0x4000 + 0x124

/-- DT_STAGE of the AXL page (R199). -/
def AXL_DT_STAGE (n : Nat) : Nat := 0x100000 + n * 0x4000 + 0x128

/-- MIN_PULSE of the AXL page (R199). -/
def AXL_MIN_PULSE (n : Nat) : Nat := 0x100000 + n * 0x4000 + 0x12C

/-- FE_LIM of the AXL page (R199). -/
def AXL_FE_LIM (n : Nat) : Nat := 0x100000 + n * 0x4000 + 0x130

/-- ANGLE_ADV of the AXL page (R199). -/
def AXL_ANGLE_ADV (n : Nat) : Nat := 0x100000 + n * 0x4000 + 0x134

/-- GS_CTL of the AXL page (R199). -/
def AXL_GS_CTL (n : Nat) : Nat := 0x100000 + n * 0x4000 + 0x138

/-- GS_HYST of the AXL page (R199). -/
def AXL_GS_HYST (n : Nat) : Nat := 0x100000 + n * 0x4000 + 0x13C

/-- GS_SPD_BP0–2 of the AXL page (R199). -/
def AXL_GS_SPD_BP (n : Nat) (k : Nat) : Nat := 0x100000 + n * 0x4000 + 0x140 + 4 * k

/-- GS_CUR_BP of the AXL page (R199). -/
def AXL_GS_CUR_BP (n : Nat) : Nat := 0x100000 + n * 0x4000 + 0x14C

/-- RC_CTL of the AXL page (R199). -/
def AXL_RC_CTL (n : Nat) : Nat := 0x100000 + n * 0x4000 + 0x150

/-- RC_GAIN of the AXL page (R199). -/
def AXL_RC_GAIN (n : Nat) : Nat := 0x100000 + n * 0x4000 + 0x154

/-- RC_VMIN of the AXL page (R199). -/
def AXL_RC_VMIN (n : Nat) : Nat := 0x100000 + n * 0x4000 + 0x158

/-- RC_VMAX of the AXL page (R199). -/
def AXL_RC_VMAX (n : Nat) : Nat := 0x100000 + n * 0x4000 + 0x15C

/-- RC_AMAX of the AXL page (R199). -/
def AXL_RC_AMAX (n : Nat) : Nat := 0x100000 + n * 0x4000 + 0x160

/-- RC_LIM of the AXL page (R199). -/
def AXL_RC_LIM (n : Nat) : Nat := 0x100000 + n * 0x4000 + 0x164

/-- SET.r.KP_POS of the AXL page (R199). -/
def AXL_SET_KP_POS (n : Nat) (k : Nat) : Nat := 0x100000 + n * 0x4000 + 0x180 + 32 * k

/-- SET.r.KV_FF of the AXL page (R199). -/
def AXL_SET_KV_FF (n : Nat) (k : Nat) : Nat := 0x100000 + n * 0x4000 + 0x184 + 32 * k

/-- SET.r.KA_FF of the AXL page (R199). -/
def AXL_SET_KA_FF (n : Nat) (k : Nat) : Nat := 0x100000 + n * 0x4000 + 0x188 + 32 * k

/-- SET.r.KP_VEL of the AXL page (R199). -/
def AXL_SET_KP_VEL (n : Nat) (k : Nat) : Nat := 0x100000 + n * 0x4000 + 0x18C + 32 * k

/-- SET.r.KI_VEL of the AXL page (R199). -/
def AXL_SET_KI_VEL (n : Nat) (k : Nat) : Nat := 0x100000 + n * 0x4000 + 0x190 + 32 * k

/-- SET.r.KP_CUR of the AXL page (R199). -/
def AXL_SET_KP_CUR (n : Nat) (k : Nat) : Nat := 0x100000 + n * 0x4000 + 0x194 + 32 * k

/-- SET.r.KI_CUR of the AXL page (R199). -/
def AXL_SET_KI_CUR (n : Nat) (k : Nat) : Nat := 0x100000 + n * 0x4000 + 0x198 + 32 * k

/-- NF_F0.k of the AXL page (R199). -/
def AXL_NF_F0 (n : Nat) (k : Nat) : Nat := 0x100000 + n * 0x4000 + 0x280 + 16 * k

/-- NF_WIDTH.k of the AXL page (R199). -/
def AXL_NF_WIDTH (n : Nat) (k : Nat) : Nat := 0x100000 + n * 0x4000 + 0x284 + 16 * k

/-- NF_CFG.k of the AXL page (R199). -/
def AXL_NF_CFG (n : Nat) (k : Nat) : Nat := 0x100000 + n * 0x4000 + 0x288 + 16 * k

/-- NF_HARM.k of the AXL page (R199). -/
def AXL_NF_HARM (n : Nat) (k : Nat) : Nat := 0x100000 + n * 0x4000 + 0x28C + 16 * k

/-- I_LIM of the AXL page (R199). -/
def AXL_I_LIM (n : Nat) : Nat := 0x100000 + n * 0x4000 + 0x300

/-- ID_REF of the AXL page (R199). -/
def AXL_ID_REF (n : Nat) : Nat := 0x100000 + n * 0x4000 + 0x304

/-- IQ_EXT of the AXL page (R199). -/
def AXL_IQ_EXT (n : Nat) : Nat := 0x100000 + n * 0x4000 + 0x308

/-- RC_CMD of the AXL page (R199). -/
def AXL_RC_CMD (n : Nat) : Nat := 0x100000 + n * 0x4000 + 0x30C

/-- RC_MRAM_ADDR of the AXL page (R199). -/
def AXL_RC_MRAM_ADDR (n : Nat) : Nat := 0x100000 + n * 0x4000 + 0x310

/-- RC_STAT of the AXL page (R199). -/
def AXL_RC_STAT (n : Nat) : Nat := 0x100000 + n * 0x4000 + 0x314

/-- RC_TABLE of the AXL page (R199). -/
def AXL_RC_TABLE (n : Nat) : Nat := 0x100000 + n * 0x4000 + 0x318

/-- COEF_SEQ of the AXL page (R199). -/
def AXL_COEF_SEQ (n : Nat) : Nat := 0x100000 + n * 0x4000 + 0x31C

/-- MON_IQ_REF of the AXL page (R199). -/
def AXL_MON_IQ_REF (n : Nat) : Nat := 0x100000 + n * 0x4000 + 0x320

/-- MON_IQ of the AXL page (R199). -/
def AXL_MON_IQ (n : Nat) : Nat := 0x100000 + n * 0x4000 + 0x324

/-- MON_ID of the AXL page (R199). -/
def AXL_MON_ID (n : Nat) : Nat := 0x100000 + n * 0x4000 + 0x328

/-- MON_VQ of the AXL page (R199). -/
def AXL_MON_VQ (n : Nat) : Nat := 0x100000 + n * 0x4000 + 0x32C

/-- MON_VD of the AXL page (R199). -/
def AXL_MON_VD (n : Nat) : Nat := 0x100000 + n * 0x4000 + 0x330

/-- MON_VEL of the AXL page (R199). -/
def AXL_MON_VEL (n : Nat) : Nat := 0x100000 + n * 0x4000 + 0x334

/-- MON_FE of the AXL page (R199). -/
def AXL_MON_FE (n : Nat) : Nat := 0x100000 + n * 0x4000 + 0x338

/-- MON_VBUS of the AXL page (R199). -/
def AXL_MON_VBUS (n : Nat) : Nat := 0x100000 + n * 0x4000 + 0x33C

/-- MON_RC of the AXL page (R199). -/
def AXL_MON_RC (n : Nat) : Nat := 0x100000 + n * 0x4000 + 0x340

/-- LAT_LAST of the AXL page (R199). -/
def AXL_LAT_LAST (n : Nat) : Nat := 0x100000 + n * 0x4000 + 0x344

/-- LAT_MAX of the AXL page (R199). -/
def AXL_LAT_MAX (n : Nat) : Nat := 0x100000 + n * 0x4000 + 0x348

/-- EXT_AGE of the AXL page (R199). -/
def AXL_EXT_AGE (n : Nat) : Nat := 0x100000 + n * 0x4000 + 0x34C

/-- MOVE_CTL of the AXP page (R155). -/
def AXP_MOVE_CTL (n : Nat) : Nat := 0x101000 + n * 0x4000 + 0x40

/-- PROF_STAT of the AXP page (R155). -/
def AXP_PROF_STAT (n : Nat) : Nat := 0x101000 + n * 0x4000 + 0x44

/-- TGT_LO of the AXP page (R155). -/
def AXP_TGT_LO (n : Nat) : Nat := 0x101000 + n * 0x4000 + 0x48

/-- TGT_HI of the AXP page (R155). -/
def AXP_TGT_HI (n : Nat) : Nat := 0x101000 + n * 0x4000 + 0x4C

/-- VEL_TGT of the AXP page (R155). -/
def AXP_VEL_TGT (n : Nat) : Nat := 0x101000 + n * 0x4000 + 0x50

/-- VMAX of the AXP page (R155). -/
def AXP_VMAX (n : Nat) : Nat := 0x101000 + n * 0x4000 + 0x54

/-- ACC of the AXP page (R155). -/
def AXP_ACC (n : Nat) : Nat := 0x101000 + n * 0x4000 + 0x58

/-- DEC of the AXP page (R155). -/
def AXP_DEC (n : Nat) : Nat := 0x101000 + n * 0x4000 + 0x5C

/-- JERK of the AXP page (R155). -/
def AXP_JERK (n : Nat) : Nat := 0x101000 + n * 0x4000 + 0x60

/-- FAULT_DEC of the AXP page (R155). -/
def AXP_FAULT_DEC (n : Nat) : Nat := 0x101000 + n * 0x4000 + 0x64

/-- QSTOP_DEC of the AXP page (R155). -/
def AXP_QSTOP_DEC (n : Nat) : Nat := 0x101000 + n * 0x4000 + 0x68

/-- STARVE_DEC of the AXP page (R155). -/
def AXP_STARVE_DEC (n : Nat) : Nat := 0x101000 + n * 0x4000 + 0x6C

/-- VLIM of the AXP page (R155). -/
def AXP_VLIM (n : Nat) : Nat := 0x101000 + n * 0x4000 + 0x70

/-- MOD_LO of the AXP page (R155). -/
def AXP_MOD_LO (n : Nat) : Nat := 0x101000 + n * 0x4000 + 0x74

/-- MOD_HI of the AXP page (R155). -/
def AXP_MOD_HI (n : Nat) : Nat := 0x101000 + n * 0x4000 + 0x78

/-- LIM_CTL of the AXP page (R155). -/
def AXP_LIM_CTL (n : Nat) : Nat := 0x101000 + n * 0x4000 + 0x7C

/-- SWLIM_POS_LO of the AXP page (R155). -/
def AXP_SWLIM_POS_LO (n : Nat) : Nat := 0x101000 + n * 0x4000 + 0x80

/-- SWLIM_POS_HI of the AXP page (R155). -/
def AXP_SWLIM_POS_HI (n : Nat) : Nat := 0x101000 + n * 0x4000 + 0x84

/-- SWLIM_NEG_LO of the AXP page (R155). -/
def AXP_SWLIM_NEG_LO (n : Nat) : Nat := 0x101000 + n * 0x4000 + 0x88

/-- SWLIM_NEG_HI of the AXP page (R155). -/
def AXP_SWLIM_NEG_HI (n : Nat) : Nat := 0x101000 + n * 0x4000 + 0x8C

/-- CMD_POS_LO of the AXP page (R155). -/
def AXP_CMD_POS_LO (n : Nat) : Nat := 0x101000 + n * 0x4000 + 0x90

/-- CMD_POS_HI of the AXP page (R155). -/
def AXP_CMD_POS_HI (n : Nat) : Nat := 0x101000 + n * 0x4000 + 0x94

/-- CMD_VEL of the AXP page (R155). -/
def AXP_CMD_VEL (n : Nat) : Nat := 0x101000 + n * 0x4000 + 0x98

/-- CMD_ACC of the AXP page (R155). -/
def AXP_CMD_ACC (n : Nat) : Nat := 0x101000 + n * 0x4000 + 0x9C

/-- ACT_POS_LO of the AXP page (R155). -/
def AXP_ACT_POS_LO (n : Nat) : Nat := 0x101000 + n * 0x4000 + 0xA0

/-- ACT_POS_HI of the AXP page (R155). -/
def AXP_ACT_POS_HI (n : Nat) : Nat := 0x101000 + n * 0x4000 + 0xA4

/-- MOD_POS of the AXP page (R155). -/
def AXP_MOD_POS (n : Nat) : Nat := 0x101000 + n * 0x4000 + 0xA8

/-- STILL_VEL of the AXP page (R155). -/
def AXP_STILL_VEL (n : Nat) : Nat := 0x101000 + n * 0x4000 + 0xAC

/-- STILL_TIME of the AXP page (R155). -/
def AXP_STILL_TIME (n : Nat) : Nat := 0x101000 + n * 0x4000 + 0xB0

/-- SEG_TAG of the AXP page (R155). -/
def AXP_SEG_TAG (n : Nat) : Nat := 0x101000 + n * 0x4000 + 0xB4

/-- SEG_DONE of the AXP page (R155). -/
def AXP_SEG_DONE (n : Nat) : Nat := 0x101000 + n * 0x4000 + 0xB8

/-- STARVE_CNT of the AXP page (R155). -/
def AXP_STARVE_CNT (n : Nat) : Nat := 0x101000 + n * 0x4000 + 0xBC

/-- HOME_CTL of the AXP page (R155). -/
def AXP_HOME_CTL (n : Nat) : Nat := 0x101000 + n * 0x4000 + 0xC0

/-- HOME_VFAST of the AXP page (R155). -/
def AXP_HOME_VFAST (n : Nat) : Nat := 0x101000 + n * 0x4000 + 0xC4

/-- HOME_VSLOW of the AXP page (R155). -/
def AXP_HOME_VSLOW (n : Nat) : Nat := 0x101000 + n * 0x4000 + 0xC8

/-- HOME_DIST of the AXP page (R155). -/
def AXP_HOME_DIST (n : Nat) : Nat := 0x101000 + n * 0x4000 + 0xCC

/-- HOME_POS_LO of the AXP page (R155). -/
def AXP_HOME_POS_LO (n : Nat) : Nat := 0x101000 + n * 0x4000 + 0xD0

/-- HOME_POS_HI of the AXP page (R155). -/
def AXP_HOME_POS_HI (n : Nat) : Nat := 0x101000 + n * 0x4000 + 0xD4

/-- HOME_TGT_LO of the AXP page (R155). -/
def AXP_HOME_TGT_LO (n : Nat) : Nat := 0x101000 + n * 0x4000 + 0xD8

/-- HOME_TGT_HI of the AXP page (R155). -/
def AXP_HOME_TGT_HI (n : Nat) : Nat := 0x101000 + n * 0x4000 + 0xDC

/-- HOME_I of the AXP page (R155). -/
def AXP_HOME_I (n : Nat) : Nat := 0x101000 + n * 0x4000 + 0xE0

/-- HOME_TDET of the AXP page (R155). -/
def AXP_HOME_TDET (n : Nat) : Nat := 0x101000 + n * 0x4000 + 0xE4

/-- HOME_BACKOFF of the AXP page (R155). -/
def AXP_HOME_BACKOFF (n : Nat) : Nat := 0x101000 + n * 0x4000 + 0xE8

/-- STEP_CTL of the AXP page (R155). -/
def AXP_STEP_CTL (n : Nat) : Nat := 0x101000 + n * 0x4000 + 0xF0

/-- STEP_NUM of the AXP page (R155). -/
def AXP_STEP_NUM (n : Nat) : Nat := 0x101000 + n * 0x4000 + 0xF4

/-- STEP_TIMING of the AXP page (R155). -/
def AXP_STEP_TIMING (n : Nat) : Nat := 0x101000 + n * 0x4000 + 0xF8

/-- STEP_LAG_MAX of the AXP page (R155). -/
def AXP_STEP_LAG_MAX (n : Nat) : Nat := 0x101000 + n * 0x4000 + 0xFC

/-- STEP_STAT of the AXP page (R155). -/
def AXP_STEP_STAT (n : Nat) : Nat := 0x101000 + n * 0x4000 + 0x100

/-- STEP_CNT of the AXP page (R155). -/
def AXP_STEP_CNT (n : Nat) : Nat := 0x101000 + n * 0x4000 + 0x104

/-- STALL_CTL of the AXP page (R155). -/
def AXP_STALL_CTL (n : Nat) : Nat := 0x101000 + n * 0x4000 + 0x108

/-- STALL_RL of the AXP page (R155). -/
def AXP_STALL_RL (n : Nat) : Nat := 0x101000 + n * 0x4000 + 0x10C

/-- STALL_KE of the AXP page (R155). -/
def AXP_STALL_KE (n : Nat) : Nat := 0x101000 + n * 0x4000 + 0x110

/-- STALL_VMIN of the AXP page (R155). -/
def AXP_STALL_VMIN (n : Nat) : Nat := 0x101000 + n * 0x4000 + 0x114

/-- STALL_COLLAPSE of the AXP page (R155). -/
def AXP_STALL_COLLAPSE (n : Nat) : Nat := 0x101000 + n * 0x4000 + 0x118

/-- STALL_EST of the AXP page (R155). -/
def AXP_STALL_EST (n : Nat) : Nat := 0x101000 + n * 0x4000 + 0x11C

/-- FAULT_CFG of the AXP page (R155). -/
def AXP_FAULT_CFG (n : Nat) : Nat := 0x101000 + n * 0x4000 + 0x120

/-- GEAR_CTL of the AXG page (R115). -/
def AXG_GEAR_CTL (n : Nat) : Nat := 0x102000 + n * 0x4000 + 0x40

/-- GEAR_CMD of the AXG page (R115). -/
def AXG_GEAR_CMD (n : Nat) : Nat := 0x102000 + n * 0x4000 + 0x44

/-- GEAR_STAT of the AXG page (R115). -/
def AXG_GEAR_STAT (n : Nat) : Nat := 0x102000 + n * 0x4000 + 0x48

/-- RATIO_NUM of the AXG page (R115). -/
def AXG_RATIO_NUM (n : Nat) : Nat := 0x102000 + n * 0x4000 + 0x4C

/-- RATIO_DEN of the AXG page (R115). -/
def AXG_RATIO_DEN (n : Nat) : Nat := 0x102000 + n * 0x4000 + 0x50

/-- ORG_LO of the AXG page (R115). -/
def AXG_ORG_LO (n : Nat) : Nat := 0x102000 + n * 0x4000 + 0x54

/-- ORG_HI of the AXG page (R115). -/
def AXG_ORG_HI (n : Nat) : Nat := 0x102000 + n * 0x4000 + 0x58

/-- OFS_LO of the AXG page (R115). -/
def AXG_OFS_LO (n : Nat) : Nat := 0x102000 + n * 0x4000 + 0x5C

/-- OFS_HI of the AXG page (R115). -/
def AXG_OFS_HI (n : Nat) : Nat := 0x102000 + n * 0x4000 + 0x60

/-- ENG_AT_LO of the AXG page (R115). -/
def AXG_ENG_AT_LO (n : Nat) : Nat := 0x102000 + n * 0x4000 + 0x64

/-- ENG_AT_HI of the AXG page (R115). -/
def AXG_ENG_AT_HI (n : Nat) : Nat := 0x102000 + n * 0x4000 + 0x68

/-- ENG_DIST of the AXG page (R115). -/
def AXG_ENG_DIST (n : Nat) : Nat := 0x102000 + n * 0x4000 + 0x6C

/-- DIS_AT_LO of the AXG page (R115). -/
def AXG_DIS_AT_LO (n : Nat) : Nat := 0x102000 + n * 0x4000 + 0x70

/-- DIS_AT_HI of the AXG page (R115). -/
def AXG_DIS_AT_HI (n : Nat) : Nat := 0x102000 + n * 0x4000 + 0x74

/-- DIS_DIST of the AXG page (R115). -/
def AXG_DIS_DIST (n : Nat) : Nat := 0x102000 + n * 0x4000 + 0x78

/-- SW_RAMP of the AXG page (R115). -/
def AXG_SW_RAMP (n : Nat) : Nat := 0x102000 + n * 0x4000 + 0x7C

/-- ORG_ACT_LO of the AXG page (R115). -/
def AXG_ORG_ACT_LO (n : Nat) : Nat := 0x102000 + n * 0x4000 + 0x80

/-- ORG_ACT_HI of the AXG page (R115). -/
def AXG_ORG_ACT_HI (n : Nat) : Nat := 0x102000 + n * 0x4000 + 0x84

/-- OFS_ACT_LO of the AXG page (R115). -/
def AXG_OFS_ACT_LO (n : Nat) : Nat := 0x102000 + n * 0x4000 + 0x88

/-- OFS_ACT_HI of the AXG page (R115). -/
def AXG_OFS_ACT_HI (n : Nat) : Nat := 0x102000 + n * 0x4000 + 0x8C

/-- PHASE_OFS_LO of the AXG page (R115). -/
def AXG_PHASE_OFS_LO (n : Nat) : Nat := 0x102000 + n * 0x4000 + 0x90

/-- PHASE_OFS_HI of the AXG page (R115). -/
def AXG_PHASE_OFS_HI (n : Nat) : Nat := 0x102000 + n * 0x4000 + 0x94

/-- SW_DELTA_LO of the AXG page (R115). -/
def AXG_SW_DELTA_LO (n : Nat) : Nat := 0x102000 + n * 0x4000 + 0x98

/-- SW_DELTA_HI of the AXG page (R115). -/
def AXG_SW_DELTA_HI (n : Nat) : Nat := 0x102000 + n * 0x4000 + 0x9C

/-- REG_CTL of the AXG page (R115). -/
def AXG_REG_CTL (n : Nat) : Nat := 0x102000 + n * 0x4000 + 0xA0

/-- REG_DEADBAND of the AXG page (R115). -/
def AXG_REG_DEADBAND (n : Nat) : Nat := 0x102000 + n * 0x4000 + 0xA4

/-- REG_MAX of the AXG page (R115). -/
def AXG_REG_MAX (n : Nat) : Nat := 0x102000 + n * 0x4000 + 0xA8

/-- REG_RAMP of the AXG page (R115). -/
def AXG_REG_RAMP (n : Nat) : Nat := 0x102000 + n * 0x4000 + 0xAC

/-- REG_STEP_LO of the AXG page (R115). -/
def AXG_REG_STEP_LO (n : Nat) : Nat := 0x102000 + n * 0x4000 + 0xB0

/-- REG_STEP_HI of the AXG page (R115). -/
def AXG_REG_STEP_HI (n : Nat) : Nat := 0x102000 + n * 0x4000 + 0xB4

/-- REG_CNT of the AXG page (R115). -/
def AXG_REG_CNT (n : Nat) : Nat := 0x102000 + n * 0x4000 + 0xB8

/-- FAULT_CFG of the AXG page (R115). -/
def AXG_FAULT_CFG (n : Nat) : Nat := 0x102000 + n * 0x4000 + 0xBC

/-- WIN0_CTL of the AXC page (R89). -/
def AXC_WIN0_CTL (n : Nat) : Nat := 0x103000 + n * 0x4000 + 0x40

/-- WIN0_START of the AXC page (R89). -/
def AXC_WIN0_START (n : Nat) : Nat := 0x103000 + n * 0x4000 + 0x44

/-- WIN0_END of the AXC page (R89). -/
def AXC_WIN0_END (n : Nat) : Nat := 0x103000 + n * 0x4000 + 0x48

/-- WIN0_NOMINAL of the AXC page (R89). -/
def AXC_WIN0_NOMINAL (n : Nat) : Nat := 0x103000 + n * 0x4000 + 0x4C

/-- WIN0_REG_ERR of the AXC page (R89). -/
def AXC_WIN0_REG_ERR (n : Nat) : Nat := 0x103000 + n * 0x4000 + 0x50

/-- WIN0_CNT of the AXC page (R89). -/
def AXC_WIN0_CNT (n : Nat) : Nat := 0x103000 + n * 0x4000 + 0x54

/-- WIN0_LAT_T_LO of the AXC page (R89). -/
def AXC_WIN0_LAT_T_LO (n : Nat) : Nat := 0x103000 + n * 0x4000 + 0x58

/-- WIN0_LAT_T_HI of the AXC page (R89). -/
def AXC_WIN0_LAT_T_HI (n : Nat) : Nat := 0x103000 + n * 0x4000 + 0x5C

/-- WIN0_LAT_LINE_LO of the AXC page (R89). -/
def AXC_WIN0_LAT_LINE_LO (n : Nat) : Nat := 0x103000 + n * 0x4000 + 0x60

/-- WIN0_LAT_LINE_HI of the AXC page (R89). -/
def AXC_WIN0_LAT_LINE_HI (n : Nat) : Nat := 0x103000 + n * 0x4000 + 0x64

/-- WIN0_LAT_POS_LO of the AXC page (R89). -/
def AXC_WIN0_LAT_POS_LO (n : Nat) : Nat := 0x103000 + n * 0x4000 + 0x68

/-- WIN0_LAT_POS_HI of the AXC page (R89). -/
def AXC_WIN0_LAT_POS_HI (n : Nat) : Nat := 0x103000 + n * 0x4000 + 0x6C

/-- WIN1_CTL of the AXC page (R89). -/
def AXC_WIN1_CTL (n : Nat) : Nat := 0x103000 + n * 0x4000 + 0x70

/-- WIN1_START of the AXC page (R89). -/
def AXC_WIN1_START (n : Nat) : Nat := 0x103000 + n * 0x4000 + 0x74

/-- WIN1_END of the AXC page (R89). -/
def AXC_WIN1_END (n : Nat) : Nat := 0x103000 + n * 0x4000 + 0x78

/-- WIN1_NOMINAL of the AXC page (R89). -/
def AXC_WIN1_NOMINAL (n : Nat) : Nat := 0x103000 + n * 0x4000 + 0x7C

/-- WIN1_REG_ERR of the AXC page (R89). -/
def AXC_WIN1_REG_ERR (n : Nat) : Nat := 0x103000 + n * 0x4000 + 0x80

/-- WIN1_CNT of the AXC page (R89). -/
def AXC_WIN1_CNT (n : Nat) : Nat := 0x103000 + n * 0x4000 + 0x84

/-- WIN1_LAT_T_LO of the AXC page (R89). -/
def AXC_WIN1_LAT_T_LO (n : Nat) : Nat := 0x103000 + n * 0x4000 + 0x88

/-- WIN1_LAT_T_HI of the AXC page (R89). -/
def AXC_WIN1_LAT_T_HI (n : Nat) : Nat := 0x103000 + n * 0x4000 + 0x8C

/-- WIN1_LAT_LINE_LO of the AXC page (R89). -/
def AXC_WIN1_LAT_LINE_LO (n : Nat) : Nat := 0x103000 + n * 0x4000 + 0x90

/-- WIN1_LAT_LINE_HI of the AXC page (R89). -/
def AXC_WIN1_LAT_LINE_HI (n : Nat) : Nat := 0x103000 + n * 0x4000 + 0x94

/-- WIN1_LAT_POS_LO of the AXC page (R89). -/
def AXC_WIN1_LAT_POS_LO (n : Nat) : Nat := 0x103000 + n * 0x4000 + 0x98

/-- WIN1_LAT_POS_HI of the AXC page (R89). -/
def AXC_WIN1_LAT_POS_HI (n : Nat) : Nat := 0x103000 + n * 0x4000 + 0x9C

/-- LINK_CTL of the SLK page (R271). -/
def SLK_LINK_CTL (n : Nat) : Nat := 0x200000 + n * 0x1000 + 0x40

/-- LINK_STAT of the SLK page (R271). -/
def SLK_LINK_STAT (n : Nat) : Nat := 0x200000 + n * 0x1000 + 0x44

/-- LINK_CMD of the SLK page (R271). -/
def SLK_LINK_CMD (n : Nat) : Nat := 0x200000 + n * 0x1000 + 0x48

/-- BIND of the SLK page (R271). -/
def SLK_BIND (n : Nat) : Nat := 0x200000 + n * 0x1000 + 0x4C

/-- DELAY of the SLK page (R271). -/
def SLK_DELAY (n : Nat) : Nat := 0x200000 + n * 0x1000 + 0x50

/-- RTT of the SLK page (R271). -/
def SLK_RTT (n : Nat) : Nat := 0x200000 + n * 0x1000 + 0x54

/-- DELAY_ASYM of the SLK page (R271). -/
def SLK_DELAY_ASYM (n : Nat) : Nat := 0x200000 + n * 0x1000 + 0x58

/-- CNT_FRM of the SLK page (R271). -/
def SLK_CNT_FRM (n : Nat) : Nat := 0x200000 + n * 0x1000 + 0x5C

/-- CNT_ERR of the SLK page (R271). -/
def SLK_CNT_ERR (n : Nat) : Nat := 0x200000 + n * 0x1000 + 0x60

/-- CNT_STG of the SLK page (R271). -/
def SLK_CNT_STG (n : Nat) : Nat := 0x200000 + n * 0x1000 + 0x64

/-- STAGE_STAT of the SLK page (R271). -/
def SLK_STAGE_STAT (n : Nat) : Nat := 0x200000 + n * 0x1000 + 0x68

/-- TRIP_LATCH of the SLK page (R271). -/
def SLK_TRIP_LATCH (n : Nat) : Nat := 0x200000 + n * 0x1000 + 0x6C

/-- VBUS of the SLK page (R271). -/
def SLK_VBUS (n : Nat) : Nat := 0x200000 + n * 0x1000 + 0x70

/-- TEMP of the SLK page (R271). -/
def SLK_TEMP (n : Nat) : Nat := 0x200000 + n * 0x1000 + 0x74

/-- INJ_ARG of the SLK page (R271). -/
def SLK_INJ_ARG (n : Nat) : Nat := 0x200000 + n * 0x1000 + 0x78

/-- INJ_DLY of the SLK page (R271). -/
def SLK_INJ_DLY (n : Nat) : Nat := 0x200000 + n * 0x1000 + 0x7C

/-- INJ_CNT of the SLK page (R271). -/
def SLK_INJ_CNT (n : Nat) : Nat := 0x200000 + n * 0x1000 + 0x80

/-- STAGE_ID of the SLK page (R271). -/
def SLK_STAGE_ID (n : Nat) : Nat := 0x200000 + n * 0x1000 + 0x84

/-- STAGE_CAPS of the SLK page (R271). -/
def SLK_STAGE_CAPS (n : Nat) : Nat := 0x200000 + n * 0x1000 + 0x88

/-- STAGE_IFS of the SLK page (R271). -/
def SLK_STAGE_IFS (n : Nat) : Nat := 0x200000 + n * 0x1000 + 0x8C

/-- STAGE_VFS of the SLK page (R271). -/
def SLK_STAGE_VFS (n : Nat) : Nat := 0x200000 + n * 0x1000 + 0x90

/-- MSG_CTL of the SLK page (R271). -/
def SLK_MSG_CTL (n : Nat) : Nat := 0x200000 + n * 0x1000 + 0x94

/-- MSG_TX of the SLK page (R271). -/
def SLK_MSG_TX (n : Nat) : Nat := 0x200000 + n * 0x1000 + 0x98

/-- MSG_STAT of the SLK page (R271). -/
def SLK_MSG_STAT (n : Nat) : Nat := 0x200000 + n * 0x1000 + 0x9C

/-- MSG_TX_BUF of the SLK page (R271). -/
def SLK_MSG_TX_BUF (n : Nat) (k : Nat) : Nat := 0x200000 + n * 0x1000 + 0x800 + 4 * k

/-- PWM_CTL of the LDC page (R303). -/
def LDC_PWM_CTL (n : Nat) : Nat := 0x220000 + n * 0x1000 + 0x40

/-- PERIOD of the LDC page (R303). -/
def LDC_PERIOD (n : Nat) : Nat := 0x220000 + n * 0x1000 + 0x44

/-- DUTY_A of the LDC page (R303). -/
def LDC_DUTY_A (n : Nat) : Nat := 0x220000 + n * 0x1000 + 0x48

/-- DUTY_B of the LDC page (R303). -/
def LDC_DUTY_B (n : Nat) : Nat := 0x220000 + n * 0x1000 + 0x4C

/-- DUTY_C of the LDC page (R303). -/
def LDC_DUTY_C (n : Nat) : Nat := 0x220000 + n * 0x1000 + 0x50

/-- LEG_CTL of the LDC page (R303). -/
def LDC_LEG_CTL (n : Nat) : Nat := 0x220000 + n * 0x1000 + 0x54

/-- SYNC_OFS of the LDC page (R303). -/
def LDC_SYNC_OFS (n : Nat) : Nat := 0x220000 + n * 0x1000 + 0x58

/-- SMP_AT0 of the LDC page (R303). -/
def LDC_SMP_AT0 (n : Nat) : Nat := 0x220000 + n * 0x1000 + 0x5C

/-- SMP_AT1 of the LDC page (R303). -/
def LDC_SMP_AT1 (n : Nat) : Nat := 0x220000 + n * 0x1000 + 0x60

/-- CS_CTL of the LDC page (R303). -/
def LDC_CS_CTL (n : Nat) : Nat := 0x220000 + n * 0x1000 + 0x64

/-- SHUNT of the LDC page (R303). -/
def LDC_SHUNT (n : Nat) : Nat := 0x220000 + n * 0x1000 + 0x68

/-- DT_CTL of the LDC page (R303). -/
def LDC_DT_CTL (n : Nat) : Nat := 0x220000 + n * 0x1000 + 0x6C

/-- DT_MIN of the LDC page (R303). -/
def LDC_DT_MIN (n : Nat) : Nat := 0x220000 + n * 0x1000 + 0x70

/-- DT_FLOOR of the LDC page (R303). -/
def LDC_DT_FLOOR (n : Nat) : Nat := 0x220000 + n * 0x1000 + 0x74

/-- DT_ACT.x of the LDC page (R303). -/
def LDC_DT_ACT (n : Nat) (k : Nat) : Nat := 0x220000 + n * 0x1000 + 0x78 + 4 * k

/-- CBC_CTL of the LDC page (R303). -/
def LDC_CBC_CTL (n : Nat) : Nat := 0x220000 + n * 0x1000 + 0x84

/-- CBC_CNT of the LDC page (R303). -/
def LDC_CBC_CNT (n : Nat) : Nat := 0x220000 + n * 0x1000 + 0x88

/-- THR_FRAC of the LDC page (R303). -/
def LDC_THR_FRAC (n : Nat) : Nat := 0x220000 + n * 0x1000 + 0x8C

/-- CS_OFS of the LDC page (R303). -/
def LDC_CS_OFS (n : Nat) : Nat := 0x220000 + n * 0x1000 + 0x90

/-- I_SMP0 of the LDC page (R303). -/
def LDC_I_SMP0 (n : Nat) : Nat := 0x220000 + n * 0x1000 + 0x94

/-- I_SMP1 of the LDC page (R303). -/
def LDC_I_SMP1 (n : Nat) : Nat := 0x220000 + n * 0x1000 + 0x98

/-- I_PH_A of the LDC page (R303). -/
def LDC_I_PH_A (n : Nat) : Nat := 0x220000 + n * 0x1000 + 0x9C

/-- I_PH_B of the LDC page (R303). -/
def LDC_I_PH_B (n : Nat) : Nat := 0x220000 + n * 0x1000 + 0xA0

/-- I_PH_C of the LDC page (R303). -/
def LDC_I_PH_C (n : Nat) : Nat := 0x220000 + n * 0x1000 + 0xA4

/-- SMP_STAT of the LDC page (R303). -/
def LDC_SMP_STAT (n : Nat) : Nat := 0x220000 + n * 0x1000 + 0xA8

/-- PSTART_LO of the LDC page (R303). -/
def LDC_PSTART_LO (n : Nat) : Nat := 0x220000 + n * 0x1000 + 0xAC

/-- PSTART_HI of the LDC page (R303). -/
def LDC_PSTART_HI (n : Nat) : Nat := 0x220000 + n * 0x1000 + 0xB0

/-- COM_CTL of the LDC page (R329). -/
def LDC_COM_CTL (n : Nat) : Nat := 0x220000 + n * 0x1000 + 0x100

/-- COM_CMD of the LDC page (R329). -/
def LDC_COM_CMD (n : Nat) : Nat := 0x220000 + n * 0x1000 + 0x104

/-- COM_STAT of the LDC page (R329). -/
def LDC_COM_STAT (n : Nat) : Nat := 0x220000 + n * 0x1000 + 0x108

/-- COM_FREQ of the LDC page (R329). -/
def LDC_COM_FREQ (n : Nat) : Nat := 0x220000 + n * 0x1000 + 0x10C

/-- ZC_INT of the LDC page (R329). -/
def LDC_ZC_INT (n : Nat) : Nat := 0x220000 + n * 0x1000 + 0x110

/-- SPD_TGT of the LDC page (R329). -/
def LDC_SPD_TGT (n : Nat) : Nat := 0x220000 + n * 0x1000 + 0x114

/-- SPD_RAMP of the LDC page (R329). -/
def LDC_SPD_RAMP (n : Nat) : Nat := 0x220000 + n * 0x1000 + 0x118

/-- SPD_KP of the LDC page (R329). -/
def LDC_SPD_KP (n : Nat) : Nat := 0x220000 + n * 0x1000 + 0x11C

/-- SPD_KI of the LDC page (R329). -/
def LDC_SPD_KI (n : Nat) : Nat := 0x220000 + n * 0x1000 + 0x120

/-- DUTY_LIM of the LDC page (R329). -/
def LDC_DUTY_LIM (n : Nat) : Nat := 0x220000 + n * 0x1000 + 0x124

/-- COM_DELAY of the LDC page (R329). -/
def LDC_COM_DELAY (n : Nat) : Nat := 0x220000 + n * 0x1000 + 0x128

/-- ZC_CFG of the LDC page (R329). -/
def LDC_ZC_CFG (n : Nat) : Nat := 0x220000 + n * 0x1000 + 0x12C

/-- PLAUS of the LDC page (R329). -/
def LDC_PLAUS (n : Nat) : Nat := 0x220000 + n * 0x1000 + 0x130

/-- JUMP_MAX of the LDC page (R329). -/
def LDC_JUMP_MAX (n : Nat) : Nat := 0x220000 + n * 0x1000 + 0x134

/-- LISTEN of the LDC page (R329). -/
def LDC_LISTEN (n : Nat) : Nat := 0x220000 + n * 0x1000 + 0x138

/-- CATCH_F of the LDC page (R329). -/
def LDC_CATCH_F (n : Nat) : Nat := 0x220000 + n * 0x1000 + 0x13C

/-- REV_F of the LDC page (R329). -/
def LDC_REV_F (n : Nat) : Nat := 0x220000 + n * 0x1000 + 0x140

/-- IPD_CFG of the LDC page (R329). -/
def LDC_IPD_CFG (n : Nat) : Nat := 0x220000 + n * 0x1000 + 0x144

/-- IPD_ITH of the LDC page (R329). -/
def LDC_IPD_ITH (n : Nat) : Nat := 0x220000 + n * 0x1000 + 0x148

/-- IPD_RISE.j of the LDC page (R329). -/
def LDC_IPD_RISE (n : Nat) (k : Nat) : Nat := 0x220000 + n * 0x1000 + 0x14C + 4 * k

/-- ALIGN_CFG of the LDC page (R329). -/
def LDC_ALIGN_CFG (n : Nat) : Nat := 0x220000 + n * 0x1000 + 0x164

/-- START_F0 of the LDC page (R329). -/
def LDC_START_F0 (n : Nat) : Nat := 0x220000 + n * 0x1000 + 0x168

/-- START_RATE of the LDC page (R329). -/
def LDC_START_RATE (n : Nat) : Nat := 0x220000 + n * 0x1000 + 0x16C

/-- HANDOVER_F of the LDC page (R329). -/
def LDC_HANDOVER_F (n : Nat) : Nat := 0x220000 + n * 0x1000 + 0x170

/-- START_V of the LDC page (R329). -/
def LDC_START_V (n : Nat) : Nat := 0x220000 + n * 0x1000 + 0x174

/-- START_HO of the LDC page (R329). -/
def LDC_START_HO (n : Nat) : Nat := 0x220000 + n * 0x1000 + 0x178

/-- KE of the LDC page (R329). -/
def LDC_KE (n : Nat) : Nat := 0x220000 + n * 0x1000 + 0x17C

/-- RECATCH_WAIT of the LDC page (R329). -/
def LDC_RECATCH_WAIT (n : Nat) : Nat := 0x220000 + n * 0x1000 + 0x180

/-- STILL_T of the LDC page (R329). -/
def LDC_STILL_T (n : Nat) : Nat := 0x220000 + n * 0x1000 + 0x184

/-- COM_CNT of the LDC page (R329). -/
def LDC_COM_CNT (n : Nat) : Nat := 0x220000 + n * 0x1000 + 0x188

/-- STEP_CNT of the LDC page (R329). -/
def LDC_STEP_CNT (n : Nat) : Nat := 0x220000 + n * 0x1000 + 0x18C

/-- HALL_MAP of the LDC page (R329). -/
def LDC_HALL_MAP (n : Nat) : Nat := 0x220000 + n * 0x1000 + 0x190

/-- FREQ_MAX of the LDC page (R329). -/
def LDC_FREQ_MAX (n : Nat) : Nat := 0x220000 + n * 0x1000 + 0x194

/-- VBUS of the LDC page (R329). -/
def LDC_VBUS (n : Nat) : Nat := 0x220000 + n * 0x1000 + 0x198

/-- DRV_CTL of the GDV page (R305). -/
def GDV_DRV_CTL (n : Nat) : Nat := 0x230000 + n * 0x1000 + 0x40

/-- DRV_BAND of the GDV page (R305). -/
def GDV_DRV_BAND (n : Nat) : Nat := 0x230000 + n * 0x1000 + 0x44

/-- DESAT_CFG of the GDV page (R305). -/
def GDV_DESAT_CFG (n : Nat) : Nat := 0x230000 + n * 0x1000 + 0x48

/-- SOFT_CFG of the GDV page (R305). -/
def GDV_SOFT_CFG (n : Nat) : Nat := 0x230000 + n * 0x1000 + 0x4C

/-- TRIP_EN of the GDV page (R305). -/
def GDV_TRIP_EN (n : Nat) : Nat := 0x230000 + n * 0x1000 + 0x50

/-- BST_PRE of the GDV page (R305). -/
def GDV_BST_PRE (n : Nat) : Nat := 0x230000 + n * 0x1000 + 0x54

/-- FLT_STAT of the GDV page (R305). -/
def GDV_FLT_STAT (n : Nat) : Nat := 0x230000 + n * 0x1000 + 0x58

/-- FLT_CAUSE of the GDV page (R305). -/
def GDV_FLT_CAUSE (n : Nat) : Nat := 0x230000 + n * 0x1000 + 0x5C

/-- FLT_CLR of the GDV page (R305). -/
def GDV_FLT_CLR (n : Nat) : Nat := 0x230000 + n * 0x1000 + 0x60

/-- FLT_NREC of the GDV page (R305). -/
def GDV_FLT_NREC (n : Nat) : Nat := 0x230000 + n * 0x1000 + 0x64

/-- FLT_REC.k of the GDV page (R305). -/
def GDV_FLT_REC (n : Nat) (k : Nat) : Nat := 0x230000 + n * 0x1000 + 0x68 + 8 * k

/-- FLT_T.k of the GDV page (R305). -/
def GDV_FLT_T (n : Nat) (k : Nat) : Nat := 0x230000 + n * 0x1000 + 0x6C + 8 * k

/-- CNT_PROT of the GDV page (R305). -/
def GDV_CNT_PROT (n : Nat) : Nat := 0x230000 + n * 0x1000 + 0x88

/-- VGATE of the GDV page (R305). -/
def GDV_VGATE (n : Nat) : Nat := 0x230000 + n * 0x1000 + 0x8C

/-- FAULT_CFG of the GDV page (R305). -/
def GDV_FAULT_CFG (n : Nat) : Nat := 0x230000 + n * 0x1000 + 0x90

/-- OVR of the GDV page (R305). -/
def GDV_OVR (n : Nat) : Nat := 0x230000 + n * 0x1000 + 0x94

/-- TRIP_CFG.k of the GDV page (R305). -/
def GDV_TRIP_CFG (n : Nat) (k : Nat) : Nat := 0x230000 + n * 0x1000 + 0xC0 + 4 * k

/-- FB_CTL of the FBP page (R353). -/
def FBP_FB_CTL (n : Nat) : Nat := 0x240000 + n * 0x1000 + 0x40

/-- FB_STAT of the FBP page (R353). -/
def FBP_FB_STAT (n : Nat) : Nat := 0x240000 + n * 0x1000 + 0x44

/-- FB_CMD of the FBP page (R353). -/
def FBP_FB_CMD (n : Nat) : Nat := 0x240000 + n * 0x1000 + 0x48

/-- CPT of the FBP page (R353). -/
def FBP_CPT (n : Nat) : Nat := 0x240000 + n * 0x1000 + 0x4C

/-- BIND of the FBP page (R353). -/
def FBP_BIND (n : Nat) : Nat := 0x240000 + n * 0x1000 + 0x50

/-- COUNT of the FBP page (R353). -/
def FBP_COUNT (n : Nat) : Nat := 0x240000 + n * 0x1000 + 0x54

/-- POS_LO of the FBP page (R353). -/
def FBP_POS_LO (n : Nat) : Nat := 0x240000 + n * 0x1000 + 0x58

/-- POS_HI of the FBP page (R353). -/
def FBP_POS_HI (n : Nat) : Nat := 0x240000 + n * 0x1000 + 0x5C

/-- VEL of the FBP page (R353). -/
def FBP_VEL (n : Nat) : Nat := 0x240000 + n * 0x1000 + 0x60

/-- SMP_T_LO of the FBP page (R353). -/
def FBP_SMP_T_LO (n : Nat) : Nat := 0x240000 + n * 0x1000 + 0x64

/-- SMP_T_HI of the FBP page (R353). -/
def FBP_SMP_T_HI (n : Nat) : Nat := 0x240000 + n * 0x1000 + 0x68

/-- IDX_CFG of the FBP page (R353). -/
def FBP_IDX_CFG (n : Nat) : Nat := 0x240000 + n * 0x1000 + 0x6C

/-- INDEX_PER of the FBP page (R353). -/
def FBP_INDEX_PER (n : Nat) : Nat := 0x240000 + n * 0x1000 + 0x70

/-- IDX_ERR of the FBP page (R353). -/
def FBP_IDX_ERR (n : Nat) : Nat := 0x240000 + n * 0x1000 + 0x74

/-- IDX_CNT of the FBP page (R353). -/
def FBP_IDX_CNT (n : Nat) : Nat := 0x240000 + n * 0x1000 + 0x78

/-- DIR_HYST of the FBP page (R353). -/
def FBP_DIR_HYST (n : Nat) : Nat := 0x240000 + n * 0x1000 + 0x7C

/-- SER_CFG of the FBP page (R353). -/
def FBP_SER_CFG (n : Nat) : Nat := 0x240000 + n * 0x1000 + 0x80

/-- SER_TIME of the FBP page (R353). -/
def FBP_SER_TIME (n : Nat) : Nat := 0x240000 + n * 0x1000 + 0x84

/-- SER_LEAD of the FBP page (R353). -/
def FBP_SER_LEAD (n : Nat) : Nat := 0x240000 + n * 0x1000 + 0x88

/-- SER_PER of the FBP page (R353). -/
def FBP_SER_PER (n : Nat) : Nat := 0x240000 + n * 0x1000 + 0x8C

/-- SER_TLAT of the FBP page (R353). -/
def FBP_SER_TLAT (n : Nat) : Nat := 0x240000 + n * 0x1000 + 0x90

/-- SER_CNT of the FBP page (R353). -/
def FBP_SER_CNT (n : Nat) : Nat := 0x240000 + n * 0x1000 + 0x94

/-- SER_RAW_LO of the FBP page (R353). -/
def FBP_SER_RAW_LO (n : Nat) : Nat := 0x240000 + n * 0x1000 + 0x98

/-- SER_RAW_HI of the FBP page (R353). -/
def FBP_SER_RAW_HI (n : Nat) : Nat := 0x240000 + n * 0x1000 + 0x9C

/-- SC_CFG of the FBP page (R353). -/
def FBP_SC_CFG (n : Nat) : Nat := 0x240000 + n * 0x1000 + 0xA0

/-- SC_OFS of the FBP page (R353). -/
def FBP_SC_OFS (n : Nat) : Nat := 0x240000 + n * 0x1000 + 0xA4

/-- SC_GAIN of the FBP page (R353). -/
def FBP_SC_GAIN (n : Nat) : Nat := 0x240000 + n * 0x1000 + 0xA8

/-- SC_AMP of the FBP page (R353). -/
def FBP_SC_AMP (n : Nat) : Nat := 0x240000 + n * 0x1000 + 0xAC

/-- RES_CFG of the FBP page (R353). -/
def FBP_RES_CFG (n : Nat) : Nat := 0x240000 + n * 0x1000 + 0xB0

/-- RES_PHASE of the FBP page (R353). -/
def FBP_RES_PHASE (n : Nat) : Nat := 0x240000 + n * 0x1000 + 0xB4

/-- EXC_CFG of the FBP page (R353). -/
def FBP_EXC_CFG (n : Nat) : Nat := 0x240000 + n * 0x1000 + 0xB8

/-- HALL_CFG of the FBP page (R353). -/
def FBP_HALL_CFG (n : Nat) : Nat := 0x240000 + n * 0x1000 + 0xBC

/-- POSB of the FBP page (R353). -/
def FBP_POSB (n : Nat) : Nat := 0x240000 + n * 0x1000 + 0xC0

/-- FAULT_CFG of the FBP page (R353). -/
def FBP_FAULT_CFG (n : Nat) : Nat := 0x240000 + n * 0x1000 + 0xC4

/-- EMU_CTL of the EMU page (R356). -/
def EMU_EMU_CTL (n : Nat) : Nat := 0x250000 + n * 0x1000 + 0x40

/-- LINES of the EMU page (R356). -/
def EMU_LINES (n : Nat) : Nat := 0x250000 + n * 0x1000 + 0x44

/-- Z_POS of the EMU page (R356). -/
def EMU_Z_POS (n : Nat) : Nat := 0x250000 + n * 0x1000 + 0x48

/-- EDGE_MIN of the EMU page (R356). -/
def EMU_EDGE_MIN (n : Nat) : Nat := 0x250000 + n * 0x1000 + 0x4C

/-- EMU_STAT of the EMU page (R356). -/
def EMU_EMU_STAT (n : Nat) : Nat := 0x250000 + n * 0x1000 + 0x50

/-- EMU_CNT of the EMU page (R356). -/
def EMU_EMU_CNT (n : Nat) : Nat := 0x250000 + n * 0x1000 + 0x54

/-- LAG_MAX of the EMU page (R356). -/
def EMU_LAG_MAX (n : Nat) : Nat := 0x250000 + n * 0x1000 + 0x58

/-- PORT_CTL of the FRB page (R395). -/
def FRB_PORT_CTL (n : Nat) : Nat := 0x260000 + n * 0x1000 + 0x40

/-- PORT_STAT of the FRB page (R395). -/
def FRB_PORT_STAT (n : Nat) : Nat := 0x260000 + n * 0x1000 + 0x44

/-- HOP_DLY of the FRB page (R395). -/
def FRB_HOP_DLY (n : Nat) : Nat := 0x260000 + n * 0x1000 + 0x48

/-- HOP_ASYM of the FRB page (R395). -/
def FRB_HOP_ASYM (n : Nat) : Nat := 0x260000 + n * 0x1000 + 0x4C

/-- CNT_FRM of the FRB page (R395). -/
def FRB_CNT_FRM (n : Nat) : Nat := 0x260000 + n * 0x1000 + 0x50

/-- CNT_ERR of the FRB page (R395). -/
def FRB_CNT_ERR (n : Nat) : Nat := 0x260000 + n * 0x1000 + 0x54

/-- INJ_ARG of the FRB page (R395). -/
def FRB_INJ_ARG (n : Nat) : Nat := 0x260000 + n * 0x1000 + 0x58

/-- INJ_DLY of the FRB page (R395). -/
def FRB_INJ_DLY (n : Nat) : Nat := 0x260000 + n * 0x1000 + 0x5C

/-- INJ_CNT of the FRB page (R395). -/
def FRB_INJ_CNT (n : Nat) : Nat := 0x260000 + n * 0x1000 + 0x60

/-- CH_CFG.c of the FRB page (R395). -/
def FRB_CH_CFG (n : Nat) (k : Nat) : Nat := 0x260000 + n * 0x1000 + 0x80 + 4 * k

/-- CH_TRUMP.c of the FRB page (R395). -/
def FRB_CH_TRUMP (n : Nat) (k : Nat) : Nat := 0x260000 + n * 0x1000 + 0xA0 + 4 * k

/-- CH_STAT.c of the FRB page (R395). -/
def FRB_CH_STAT (n : Nat) (k : Nat) : Nat := 0x260000 + n * 0x1000 + 0xC0 + 4 * k

/-- RING_CTL of the FRB page (R395). -/
def FRB_RING_CTL (n : Nat) : Nat := 0x260000 + n * 0x1000 + 0x100

/-- RING_STAT of the FRB page (R395). -/
def FRB_RING_STAT (n : Nat) : Nat := 0x260000 + n * 0x1000 + 0x104

/-- CYC_CFG of the FRB page (R395). -/
def FRB_CYC_CFG (n : Nat) : Nat := 0x260000 + n * 0x1000 + 0x108

/-- FRAME_CFG of the FRB page (R395). -/
def FRB_FRAME_CFG (n : Nat) : Nat := 0x260000 + n * 0x1000 + 0x10C

/-- CYC_CNT of the FRB page (R395). -/
def FRB_CYC_CNT (n : Nat) : Nat := 0x260000 + n * 0x1000 + 0x110

/-- MEMBERS of the FRB page (R395). -/
def FRB_MEMBERS (n : Nat) : Nat := 0x260000 + n * 0x1000 + 0x114

/-- TOPO of the FRB page (R395). -/
def FRB_TOPO (n : Nat) : Nat := 0x260000 + n * 0x1000 + 0x118

/-- RX_BASE of the FRB page (R395). -/
def FRB_RX_BASE (n : Nat) : Nat := 0x260000 + n * 0x1000 + 0x11C

/-- RX_LAST of the FRB page (R395). -/
def FRB_RX_LAST (n : Nat) : Nat := 0x260000 + n * 0x1000 + 0x120

/-- SC_OWN of the FRB page (R395). -/
def FRB_SC_OWN (n : Nat) : Nat := 0x260000 + n * 0x1000 + 0x124

/-- CNT_RING of the FRB page (R395). -/
def FRB_CNT_RING (n : Nat) : Nat := 0x260000 + n * 0x1000 + 0x128

/-- MSG_CTL of the FRB page (R395). -/
def FRB_MSG_CTL (n : Nat) : Nat := 0x260000 + n * 0x1000 + 0x12C

/-- MSG_TX of the FRB page (R395). -/
def FRB_MSG_TX (n : Nat) : Nat := 0x260000 + n * 0x1000 + 0x130

/-- SLOT_TX of the FRB page (R395). -/
def FRB_SLOT_TX (n : Nat) (k : Nat) : Nat := 0x260000 + n * 0x1000 + 0x800 + 4 * k

/-- MSG_TX_BUF of the FRB page (R395). -/
def FRB_MSG_TX_BUF (n : Nat) (k : Nat) : Nat := 0x260000 + n * 0x1000 + 0xA00 + 4 * k

/-- XLK_CTL of the XLK page (R397). -/
def XLK_XLK_CTL : Nat := 0x262000 + 0x40

/-- XLK_STAT of the XLK page (R397). -/
def XLK_XLK_STAT : Nat := 0x262000 + 0x44

/-- XLK_CMD of the XLK page (R397). -/
def XLK_XLK_CMD : Nat := 0x262000 + 0x48

/-- MIRROR_MASK_LO of the XLK page (R397). -/
def XLK_MIRROR_MASK_LO : Nat := 0x262000 + 0x4C

/-- MIRROR_MASK_HI of the XLK page (R397). -/
def XLK_MIRROR_MASK_HI : Nat := 0x262000 + 0x50

/-- XLK_DLY of the XLK page (R397). -/
def XLK_XLK_DLY : Nat := 0x262000 + 0x54

/-- HO_LEAD of the XLK page (R397). -/
def XLK_HO_LEAD : Nat := 0x262000 + 0x58

/-- CNT_XLK of the XLK page (R397). -/
def XLK_CNT_XLK : Nat := 0x262000 + 0x5C

/-- LAST_SEQ of the XLK page (R397). -/
def XLK_LAST_SEQ : Nat := 0x262000 + 0x60

/-- SW_T_LO of the XLK page (R397). -/
def XLK_SW_T_LO : Nat := 0x262000 + 0x64

/-- SW_T_HI of the XLK page (R397). -/
def XLK_SW_T_HI : Nat := 0x262000 + 0x68

/-- SYNC_PROG of the XLK page (R397). -/
def XLK_SYNC_PROG : Nat := 0x262000 + 0x6C

/-- INJ_ARG of the XLK page (R397). -/
def XLK_INJ_ARG : Nat := 0x262000 + 0x70

/-- INJ_DLY of the XLK page (R397). -/
def XLK_INJ_DLY : Nat := 0x262000 + 0x74

/-- INJ_CNT of the XLK page (R397). -/
def XLK_INJ_CNT : Nat := 0x262000 + 0x78

/-- ROLE of the LPU page (R235). -/
def LPU_ROLE (n : Nat) : Nat := 0x300000 + n * 0x1000 + 0x40

/-- LOAD of the LPU page (R235). -/
def LPU_LOAD (n : Nat) : Nat := 0x300000 + n * 0x1000 + 0x44

/-- UTIL of the LPU page (R235). -/
def LPU_UTIL (n : Nat) : Nat := 0x300000 + n * 0x1000 + 0x48

/-- RUN_MAX of the LPU page (R235). -/
def LPU_RUN_MAX (n : Nat) : Nat := 0x300000 + n * 0x1000 + 0x4C

/-- ERR_CNT of the LPU page (R235). -/
def LPU_ERR_CNT (n : Nat) : Nat := 0x300000 + n * 0x1000 + 0x50

/-- PFAULT of the LPU page (R235). -/
def LPU_PFAULT (n : Nat) : Nat := 0x300000 + n * 0x1000 + 0x54

/-- TEST_RES of the LPU page (R235). -/
def LPU_TEST_RES (n : Nat) : Nat := 0x300000 + n * 0x1000 + 0x58

/-- TEST_CNT of the LPU page (R235). -/
def LPU_TEST_CNT (n : Nat) : Nat := 0x300000 + n * 0x1000 + 0x5C

/-- TEST_T_LO of the LPU page (R235). -/
def LPU_TEST_T_LO (n : Nat) : Nat := 0x300000 + n * 0x1000 + 0x60

/-- TEST_T_HI of the LPU page (R235). -/
def LPU_TEST_T_HI (n : Nat) : Nat := 0x300000 + n * 0x1000 + 0x64

/-- ASSIGN.p of the LPU page (R235). -/
def LPU_ASSIGN (n : Nat) (k : Nat) : Nat := 0x300000 + n * 0x1000 + 0x80 + 4 * k

/-- BG_TRUMP.b of the LPU page (R235). -/
def LPU_BG_TRUMP (n : Nat) (k : Nat) : Nat := 0x300000 + n * 0x1000 + 0x100 + 4 * k

/-- ROT_CTL of the LPU page (R235). -/
def LPU_ROT_CTL (n : Nat) : Nat := 0x300000 + n * 0x1000 + 0x200

/-- ROT_CMD of the LPU page (R235). -/
def LPU_ROT_CMD (n : Nat) : Nat := 0x300000 + n * 0x1000 + 0x204

/-- SCHED_STAT of the LPU page (R235). -/
def LPU_SCHED_STAT (n : Nat) : Nat := 0x300000 + n * 0x1000 + 0x208

/-- TEST_REQ of the LPU page (R235). -/
def LPU_TEST_REQ (n : Nat) : Nat := 0x300000 + n * 0x1000 + 0x20C

/-- CAL_REQ of the LPU page (R235). -/
def LPU_CAL_REQ (n : Nat) : Nat := 0x300000 + n * 0x1000 + 0x210

/-- REQ_STAT of the LPU page (R235). -/
def LPU_REQ_STAT (n : Nat) : Nat := 0x300000 + n * 0x1000 + 0x214

/-- RETIRED of the LPU page (R235). -/
def LPU_RETIRED (n : Nat) : Nat := 0x300000 + n * 0x1000 + 0x218

/-- MIG_CNT of the LPU page (R235). -/
def LPU_MIG_CNT (n : Nat) : Nat := 0x300000 + n * 0x1000 + 0x21C

/-- FAULT_CFG of the LPU page (R235). -/
def LPU_FAULT_CFG (n : Nat) : Nat := 0x300000 + n * 0x1000 + 0x220

/-- LIB_ADDR of the LPU page (R235). -/
def LPU_LIB_ADDR (n : Nat) : Nat := 0x300000 + n * 0x1000 + 0x224

/-- LIB_INFO of the LPU page (R235). -/
def LPU_LIB_INFO (n : Nat) : Nat := 0x300000 + n * 0x1000 + 0x228

/-- BG_CFG.b of the LPU page (R235). -/
def LPU_BG_CFG (n : Nat) (k : Nat) : Nat := 0x300000 + n * 0x1000 + 0x230 + 4 * k

end Sys2Proof.Machine
end

