-- ==== Sys2Proof/Machine/RegMap.lean ====
section
/-! DEFINITION. The register map of spec/21_register_map.md: the pages (R586, R587), and for every page the rows of its register table
(offset, access code of R3, shadowed or not, reset values of R4, the bits that are not reserved or read-only, the command fields of R598). -/

namespace Sys2Proof.Machine

/-- The page templates of R586 and R587. SAF.0 and SAF.1 are two templates. -/
inductive PageKind where
  | glb | clk | lcs | apc | evr | thm | age | ltb | asc | saf0 | saf1 | fio | acq | recorder | pci | dma | eth | drc | mem | can | sil | axl | axp | axg | axc | slk | ldc | gdv | fbp | emu | frb | xlk | lpu
deriving DecidableEq, Repr

/-- The access codes of R3. -/
inductive RegAccess where
  | ro | rw | wo | w1c | w1s | rwl | rws
deriving DecidableEq, Repr

/-- Whether a register is the low or the high half of a 64-bit pair (R601). -/
inductive PairHalf where
  | none | lo | hi
deriving DecidableEq, Repr

/-- One row of a page's register table: `count` registers from offset `off`, `stride` apart. -/
structure RegRow where
  off : Nat
  stride : Nat
  count : Nat
  acc : RegAccess
  /-- the register is shadowed (R598) -/
  shadowed : Bool
  /-- cold reset value (R4) -/
  cold : Nat
  /-- a warm reset leaves the value unchanged (R4) -/
  kept : Bool
  /-- the bits software can store: not reserved, not ro -/
  mask : Nat
  /-- the wo command fields of a shadowed or rw register (R598) -/
  wo : Nat
  half : PairHalf
deriving DecidableEq, Repr

/-- A page: its template and its instance number. -/
structure PageRef where
  kind : PageKind
  inst : Nat
deriving DecidableEq, Repr

/-- One line of the page index: base, stride, instances, BLOCK and DIE of PAGE_ID (R586, R587, R591). -/
structure PageTempl where
  base : Nat
  stride : Nat
  insts : Nat
  block : Nat
  die : Nat
deriving DecidableEq, Repr

/-- The page index (R586, R587, R591). -/
def pageTempl : PageKind → PageTempl
  | .glb => ⟨0x0, 0x0, 1, 0x1, 0⟩
  | .clk => ⟨0x1000, 0x0, 1, 0x2, 0⟩
  | .lcs => ⟨0x2000, 0x0, 1, 0x3, 0⟩
  | .apc => ⟨0x3000, 0x0, 1, 0x1A, 0⟩
  | .evr => ⟨0x5000, 0x0, 1, 0x4, 0⟩
  | .thm => ⟨0x6000, 0x0, 1, 0x5, 2⟩
  | .age => ⟨0x7000, 0x0, 1, 0x6, 0⟩
  | .ltb => ⟨0x8000, 0x0, 1, 0x7, 0⟩
  | .asc => ⟨0x9000, 0x0, 1, 0x8, 0⟩
  | .saf0 => ⟨0xC000, 0x0, 1, 0x14, 0⟩
  | .saf1 => ⟨0xD000, 0x0, 1, 0x14, 1⟩
  | .fio => ⟨0xE000, 0x0, 1, 0x15, 1⟩
  | .acq => ⟨0x10000, 0x1000, 4, 0x16, 0⟩
  | .recorder => ⟨0x14000, 0x0, 1, 0x17, 0⟩
  | .pci => ⟨0x18000, 0x0, 1, 0x1C, 0⟩
  | .dma => ⟨0x19000, 0x0, 1, 0x1B, 0⟩
  | .eth => ⟨0x1A000, 0x1000, 2, 0x1D, 0⟩
  | .drc => ⟨0x1C000, 0x0, 1, 0x20, 0⟩
  | .mem => ⟨0x1D000, 0x0, 1, 0x1F, 0⟩
  | .can => ⟨0x1E000, 0x1000, 2, 0x1E, 0⟩
  | .sil => ⟨0x40000, 0x1000, 96, 0x18, 0⟩
  | .axl => ⟨0x100000, 0x4000, 64, 0x9, 0⟩
  | .axp => ⟨0x101000, 0x4000, 64, 0xA, 0⟩
  | .axg => ⟨0x102000, 0x4000, 64, 0xB, 0⟩
  | .axc => ⟨0x103000, 0x4000, 64, 0xC, 0⟩
  | .slk => ⟨0x200000, 0x1000, 32, 0xD, 0⟩
  | .ldc => ⟨0x220000, 0x1000, 6, 0xE, 1⟩
  | .gdv => ⟨0x230000, 0x1000, 6, 0xF, 1⟩
  | .fbp => ⟨0x240000, 0x1000, 12, 0x10, 2⟩
  | .emu => ⟨0x250000, 0x1000, 4, 0x11, 0⟩
  | .frb => ⟨0x260000, 0x1000, 2, 0x12, 0⟩
  | .xlk => ⟨0x262000, 0x0, 1, 0x13, 0⟩
  | .lpu => ⟨0x300000, 0x1000, 9, 0x19, 0⟩

/-- Every page template, in the order of the addresses. -/
def allKinds : List PageKind :=
  [.glb, .clk, .lcs, .apc, .evr, .thm, .age, .ltb, .asc, .saf0, .saf1, .fio, .acq, .recorder, .pci, .dma, .eth, .drc, .mem, .can, .sil, .axl, .axp, .axg, .axc, .slk, .ldc, .gdv, .fbp, .emu, .frb, .xlk, .lpu]

/-- Register rows of the GLB page. -/
def rowsGLB : List RegRow :=
  [ ⟨0x40, 4, 1, .ro, false, 0x6480B0C1, false, 0x0, 0x0, .none⟩,
    ⟨0x44, 4, 1, .ro, false, 0x0, false, 0x0, 0x0, .none⟩,
    ⟨0x48, 4, 1, .wo, false, 0x0, false, 0xFFFF0003, 0x0, .none⟩,
    ⟨0x4C, 4, 1, .ro, false, 0x0, false, 0x0, 0x0, .none⟩,
    ⟨0x50, 4, 1, .wo, false, 0x0, false, 0xFFFF0001, 0x0, .none⟩,
    ⟨0x54, 4, 1, .rw, false, 0x3E800, false, 0xFFFFFF03, 0x0, .none⟩,
    ⟨0x58, 4, 1, .wo, false, 0x0, false, 0xFFFF0000, 0x0, .none⟩,
    ⟨0x5C, 4, 1, .ro, false, 0x0, false, 0x0, 0x0, .none⟩,
    ⟨0x60, 4, 1, .rws, false, 0x0, true, 0xFFFF, 0x0, .none⟩,
    ⟨0x64, 4, 1, .rws, false, 0x0, true, 0xFFFFFFFF, 0x0, .none⟩,
    ⟨0x68, 4, 4, .rws, false, 0x0, true, 0xFFFFFFFF, 0x0, .none⟩ ]

/-- Register rows of the CLK page. -/
def rowsCLK : List RegRow :=
  [ ⟨0x40, 4, 1, .ro, false, 0x0, false, 0x0, 0x0, .none⟩,
    ⟨0x44, 4, 1, .ro, false, 0x0, false, 0x0, 0x0, .none⟩,
    ⟨0x48, 4, 1, .rw, false, 0x0, false, 0xFF, 0x0, .none⟩ ]

/-- Register rows of the LCS page. -/
def rowsLCS : List RegRow :=
  [ ⟨0x40, 4, 1, .ro, false, 0x0, true, 0x0, 0x0, .none⟩,
    ⟨0x44, 4, 1, .wo, false, 0x0, false, 0xFFFF0003, 0x0, .none⟩,
    ⟨0x48, 4, 1, .ro, false, 0x0, true, 0x0, 0x0, .none⟩,
    ⟨0x4C, 4, 1, .ro, false, 0x0, true, 0x0, 0x0, .none⟩,
    ⟨0x50, 4, 4, .ro, false, 0x0, true, 0x0, 0x0, .none⟩,
    ⟨0x60, 4, 1, .ro, false, 0x0, true, 0x0, 0x0, .none⟩,
    ⟨0x64, 4, 1, .ro, false, 0x0, false, 0x0, 0x0, .none⟩,
    ⟨0x100, 4, 128, .rw, false, 0x0, false, 0xFFFFFFFF, 0x0, .none⟩ ]

/-- Register rows of the APC page. -/
def rowsAPC : List RegRow :=
  [ ⟨0x40, 4, 1, .rw, false, 0x1, false, 0xE, 0x0, .none⟩,
    ⟨0x44, 4, 1, .ro, false, 0x1, false, 0x0, 0x0, .none⟩,
    ⟨0x48, 4, 1, .rw, false, 0x0, false, 0xFFFFFFFF, 0x0, .lo⟩,
    ⟨0x4C, 4, 1, .rw, false, 0x0, false, 0x1, 0x0, .hi⟩,
    ⟨0x50, 4, 1, .rw, false, 0x0, false, 0xFFFFFFFF, 0x0, .none⟩ ]

/-- Register rows of the EVR page. -/
def rowsEVR : List RegRow :=
  [ ⟨0x40, 4, 1, .rw, false, 0x1, false, 0x1, 0x0, .none⟩,
    ⟨0x44, 4, 1, .ro, false, 0x0, false, 0x0, 0x0, .none⟩,
    ⟨0x48, 4, 1, .rw, false, 0x0, false, 0xFFFF, 0x0, .none⟩,
    ⟨0x60, 4, 8, .rw, false, 0x0, false, 0xFFFFFFFF, 0x0, .none⟩,
    ⟨0x80, 4, 4, .ro, false, 0x0, false, 0x0, 0x0, .none⟩,
    ⟨0x90, 4, 1, .ro, false, 0x0, false, 0x0, 0x0, .none⟩,
    ⟨0xA0, 4, 4, .ro, false, 0x0, false, 0x0, 0x0, .none⟩,
    ⟨0xB0, 4, 1, .ro, false, 0x0, false, 0x0, 0x0, .none⟩,
    ⟨0x100, 4, 16, .ro, false, 0x0, false, 0x0, 0x0, .none⟩,
    ⟨0x140, 4, 1, .w1c, false, 0x0, false, 0xFFFFFFFF, 0x0, .none⟩,
    ⟨0x144, 4, 1, .w1c, false, 0x0, false, 0xFFFFFFFF, 0x0, .none⟩,
    ⟨0x800, 4, 512, .rwl, false, 0x0, true, 0xFF077F07, 0x0, .none⟩ ]

/-- Register rows of the THM page. -/
def rowsTHM : List RegRow :=
  [ ⟨0x40, 4, 1, .rw, false, 0x1, true, 0x1, 0x0, .none⟩,
    ⟨0x44, 4, 1, .ro, false, 0x0, false, 0x0, 0x0, .none⟩,
    ⟨0x48, 4, 1, .ro, false, 0x0, false, 0x0, 0x0, .none⟩,
    ⟨0x4C, 4, 1, .ro, false, 0x0, false, 0x0, 0x0, .none⟩,
    ⟨0x50, 4, 1, .ro, false, 0x0, false, 0x0, 0x0, .none⟩,
    ⟨0x54, 4, 1, .rw, false, 0xC000, true, 0x1FFFF, 0x0, .none⟩,
    ⟨0x58, 4, 1, .rw, false, 0x0, true, 0x7, 0x0, .none⟩,
    ⟨0x5C, 4, 1, .ro, false, 0x0, true, 0x0, 0x0, .none⟩,
    ⟨0x60, 4, 1, .ro, false, 0x0, true, 0x0, 0x0, .none⟩,
    ⟨0x64, 4, 1, .wo, false, 0x0, false, 0x1, 0x0, .none⟩,
    ⟨0x100, 16, 14, .rw, false, 0x507, true, 0xFFF, 0x0, .none⟩,
    ⟨0x104, 16, 14, .rw, false, 0x9FC0B6AE, true, 0xFFFFFFFF, 0x0, .none⟩,
    ⟨0x108, 16, 14, .ro, false, 0x0, false, 0x0, 0x0, .none⟩,
    ⟨0x10C, 16, 14, .rw, false, 0x4083, true, 0xFFFFFFFF, 0x0, .none⟩ ]

/-- Register rows of the AGE page. -/
def rowsAGE : List RegRow :=
  [ ⟨0x40, 4, 1, .rw, false, 0x3, true, 0x3, 0x0, .none⟩,
    ⟨0x44, 4, 1, .ro, false, 0x0, true, 0x0, 0x0, .none⟩,
    ⟨0x48, 4, 1, .ro, false, 0x0, true, 0x0, 0x0, .none⟩,
    ⟨0x4C, 4, 1, .ro, false, 0x40, true, 0x0, 0x0, .none⟩,
    ⟨0x50, 4, 1, .ro, false, 0x0, false, 0x0, 0x0, .none⟩,
    ⟨0x54, 4, 1, .rw, false, 0x1E003C, true, 0xFFFFFFFF, 0x0, .none⟩,
    ⟨0x58, 4, 1, .ro, false, 0x0, true, 0x0, 0x0, .none⟩,
    ⟨0x5C, 4, 1, .rw, false, 0x370, true, 0xFFFF, 0x0, .none⟩,
    ⟨0x60, 4, 1, .ro, false, 0x640, true, 0x0, 0x0, .none⟩,
    ⟨0x64, 4, 1, .ro, false, 0x0, true, 0x0, 0x0, .none⟩,
    ⟨0x68, 4, 1, .ro, false, 0x0, true, 0x0, 0x0, .none⟩,
    ⟨0x6C, 4, 1, .ro, false, 0x0, true, 0x0, 0x0, .none⟩,
    ⟨0x70, 4, 1, .rw, false, 0x36C0014, true, 0xFFFF00FF, 0x0, .none⟩,
    ⟨0x74, 4, 1, .ro, false, 0x0, false, 0x0, 0x0, .none⟩,
    ⟨0x78, 4, 1, .wo, false, 0x0, false, 0x1F, 0x0, .none⟩ ]

/-- Register rows of the LTB page, part 0. -/
def rowsLTB0 : List RegRow :=
  [ ⟨0x40, 4, 1, .rw, true, 0x5000000, true, 0xF033F03, 0x0, .none⟩,
    ⟨0x44, 4, 1, .ro, false, 0x0, false, 0x0, 0x0, .none⟩,
    ⟨0x48, 4, 1, .ro, false, 0x0, true, 0x0, 0x0, .lo⟩,
    ⟨0x4C, 4, 1, .ro, false, 0x0, true, 0x0, 0x0, .hi⟩,
    ⟨0x50, 4, 1, .ro, false, 0x0, false, 0x0, 0x0, .lo⟩,
    ⟨0x54, 4, 1, .ro, false, 0x0, false, 0x0, 0x0, .hi⟩,
    ⟨0x58, 4, 1, .ro, false, 0x0, false, 0x0, 0x0, .lo⟩,
    ⟨0x5C, 4, 1, .ro, false, 0x0, false, 0x0, 0x0, .hi⟩,
    ⟨0x60, 4, 1, .ro, false, 0x0, false, 0x0, 0x0, .lo⟩,
    ⟨0x64, 4, 1, .ro, false, 0x0, false, 0x0, 0x0, .hi⟩,
    ⟨0x68, 4, 1, .ro, false, 0x0, true, 0x0, 0x0, .lo⟩,
    ⟨0x6C, 4, 1, .ro, false, 0x0, true, 0x0, 0x0, .hi⟩,
    ⟨0x70, 4, 1, .ro, false, 0x0, false, 0x0, 0x0, .lo⟩,
    ⟨0x74, 4, 1, .ro, false, 0x0, false, 0x0, 0x0, .hi⟩,
    ⟨0x78, 4, 1, .wo, false, 0x0, false, 0x7, 0x0, .none⟩,
    ⟨0x7C, 4, 1, .rw, false, 0x4, false, 0x8000000F, 0x80000000, .none⟩ ]

/-- Register rows of the LTB page, part 1. -/
def rowsLTB1 : List RegRow :=
  [ ⟨0x80, 4, 1, .rw, false, 0x0, false, 0xFFFFFFFF, 0x0, .lo⟩,
    ⟨0x84, 4, 1, .rw, false, 0x0, false, 0xFFFFFFFF, 0x0, .hi⟩,
    ⟨0x88, 4, 1, .rw, false, 0x0, false, 0xFFFFFFFF, 0x0, .lo⟩,
    ⟨0x8C, 4, 1, .rw, false, 0x1, false, 0xFFFFFFFF, 0x0, .hi⟩,
    ⟨0x90, 4, 1, .rw, false, 0x0, false, 0xFFFFFFFF, 0x0, .lo⟩,
    ⟨0x94, 4, 1, .rw, false, 0x1, false, 0xFFFFFFFF, 0x0, .hi⟩,
    ⟨0x98, 4, 1, .rw, false, 0x0, false, 0xFFFFFFFF, 0x0, .lo⟩,
    ⟨0x9C, 4, 1, .rw, false, 0xA, false, 0xFFFFFFFF, 0x0, .hi⟩,
    ⟨0xA0, 4, 1, .rw, false, 0x0, false, 0xFFFFFFFF, 0x0, .lo⟩,
    ⟨0xA4, 4, 1, .rw, false, 0xA, false, 0xFFFFFFFF, 0x0, .hi⟩,
    ⟨0xA8, 4, 1, .rw, false, 0x0, false, 0xFFFFFFFF, 0x0, .lo⟩,
    ⟨0xAC, 4, 1, .rw, false, 0x64, false, 0xFFFFFFFF, 0x0, .hi⟩,
    ⟨0xB0, 4, 1, .rw, true, 0x1, true, 0xFFFFFFFF, 0x0, .none⟩,
    ⟨0xB4, 4, 1, .rw, true, 0x1, true, 0xFFFFFFFF, 0x0, .none⟩,
    ⟨0xB8, 4, 1, .rw, true, 0x0, true, 0xFFFFFFFF, 0x0, .lo⟩,
    ⟨0xBC, 4, 1, .rw, true, 0x0, true, 0xFFFFFFFF, 0x0, .hi⟩ ]

/-- Register rows of the LTB page, part 2. -/
def rowsLTB2 : List RegRow :=
  [ ⟨0xC0, 4, 1, .rw, false, 0x40, false, 0xFFFFFFFF, 0x0, .none⟩,
    ⟨0xC4, 4, 1, .rw, false, 0x0, true, 0xFFFFFFFF, 0x0, .none⟩,
    ⟨0xC8, 4, 1, .rw, false, 0x0, true, 0xFFFFFFFF, 0x0, .none⟩,
    ⟨0xCC, 4, 1, .rw, false, 0x1000, false, 0xFFFFFFFF, 0x0, .none⟩,
    ⟨0xD0, 4, 1, .rw, false, 0xC800, true, 0x1FF03, 0x0, .none⟩,
    ⟨0xD4, 4, 1, .ro, false, 0x0, true, 0x0, 0x0, .none⟩,
    ⟨0xD8, 4, 1, .ro, false, 0x0, true, 0x0, 0x0, .none⟩,
    ⟨0xDC, 4, 1, .rw, false, 0x0, true, 0xFFFFFFFF, 0x0, .none⟩,
    ⟨0xE0, 4, 1, .ro, false, 0x0, false, 0x0, 0x0, .lo⟩,
    ⟨0xE4, 4, 1, .ro, false, 0x0, false, 0x0, 0x0, .hi⟩,
    ⟨0xE8, 4, 1, .ro, false, 0x0, false, 0x0, 0x0, .none⟩,
    ⟨0xEC, 4, 1, .rw, true, 0x0, false, 0xFFFFFFFF, 0x0, .lo⟩,
    ⟨0xF0, 4, 1, .rw, true, 0x0, false, 0xFFFFFFFF, 0x0, .hi⟩,
    ⟨0xF4, 4, 1, .rw, true, 0x0, false, 0xFFFFFFFF, 0x0, .none⟩,
    ⟨0xF8, 4, 1, .rw, false, 0x0, false, 0xFFFFFFFF, 0x0, .lo⟩,
    ⟨0xFC, 4, 1, .rw, false, 0x64, false, 0xFFFFFFFF, 0x0, .hi⟩ ]

/-- The register rows of the LTB page. -/
def rowsLTB : List RegRow := rowsLTB0 ++ rowsLTB1 ++ rowsLTB2

/-- Register rows of the ASC page, part 0. -/
def rowsASC0 : List RegRow :=
  [ ⟨0x40, 4, 1, .rw, false, 0x0, false, 0x1, 0x0, .none⟩,
    ⟨0x44, 4, 1, .ro, false, 0x0, false, 0x0, 0x0, .none⟩,
    ⟨0x48, 4, 1, .rw, false, 0x3D090, false, 0xFFFFFFFF, 0x0, .none⟩,
    ⟨0x4C, 4, 1, .ro, false, 0x27F0000, false, 0x0, 0x0, .none⟩,
    ⟨0x50, 4, 1, .ro, false, 0x0, false, 0x0, 0x0, .none⟩,
    ⟨0x54, 4, 1, .wo, false, 0x0, false, 0xFFFF, 0x0, .none⟩,
    ⟨0x58, 4, 1, .wo, false, 0x0, false, 0xFFFF, 0x0, .none⟩,
    ⟨0x5C, 4, 1, .ro, false, 0x0, false, 0x0, 0x0, .none⟩,
    ⟨0x100, 16, 16, .rw, true, 0x0, false, 0x3F07, 0x0, .none⟩,
    ⟨0x104, 16, 16, .rw, true, 0x0, false, 0x1FFF0FFF, 0x0, .none⟩,
    ⟨0x108, 16, 16, .ro, false, 0x0, false, 0x0, 0x0, .none⟩,
    ⟨0x10C, 16, 16, .rw, false, 0x0, false, 0xFFFFFFFF, 0x0, .none⟩,
    ⟨0x200, 16, 16, .rw, false, 0x0, false, 0x7, 0x0, .none⟩,
    ⟨0x204, 16, 16, .rw, false, 0xFA0, false, 0xFFFFFF, 0x0, .none⟩,
    ⟨0x208, 16, 16, .rw, false, 0x0, false, 0xFFFFFF, 0x0, .none⟩,
    ⟨0x20C, 16, 16, .rw, false, 0x0, false, 0xFFFFFF, 0x0, .none⟩ ]

/-- Register rows of the ASC page, part 1. -/
def rowsASC1 : List RegRow :=
  [ ⟨0x300, 4, 16, .rw, false, 0x0, false, 0x7FFFF, 0x0, .none⟩ ]

/-- The register rows of the ASC page. -/
def rowsASC : List RegRow := rowsASC0 ++ rowsASC1

/-- Register rows of the SAF0 page, part 0. -/
def rowsSAF00 : List RegRow :=
  [ ⟨0x40, 4, 1, .rwl, false, 0x4, true, 0x1F1F, 0x0, .none⟩,
    ⟨0x44, 4, 1, .ro, false, 0x3C, false, 0x0, 0x0, .none⟩,
    ⟨0x48, 4, 1, .wo, false, 0x0, false, 0xFFFF0003, 0x0, .none⟩,
    ⟨0x4C, 4, 1, .rwl, false, 0x0, true, 0xFFFFFFFF, 0x0, .none⟩,
    ⟨0x50, 4, 1, .ro, false, 0x0, false, 0x0, 0x0, .none⟩,
    ⟨0x54, 4, 1, .rwl, false, 0x0, true, 0xFFFFFFFF, 0x0, .none⟩,
    ⟨0x58, 4, 1, .rwl, false, 0x0, true, 0xFFFFFFFF, 0x0, .none⟩,
    ⟨0x5C, 4, 1, .rwl, false, 0x3E80032, true, 0xFFFFFFFF, 0x0, .none⟩,
    ⟨0x60, 4, 4, .rwl, false, 0x40, true, 0xFDFFFF, 0x0, .none⟩,
    ⟨0x70, 8, 4, .rwl, false, 0x0, true, 0xFFFFFFFF, 0x0, .lo⟩,
    ⟨0x74, 8, 4, .rwl, false, 0x0, true, 0xFFFFFFFF, 0x0, .hi⟩,
    ⟨0x90, 4, 1, .rw, false, 0x0, false, 0xFF, 0x0, .none⟩,
    ⟨0x94, 4, 1, .rwl, false, 0x64012C, true, 0xFFFF03FF, 0x0, .none⟩,
    ⟨0x98, 4, 1, .rw, false, 0x0, true, 0xFFFFFFFF, 0x0, .none⟩,
    ⟨0x9C, 4, 1, .ro, false, 0x0, true, 0x0, 0x0, .none⟩,
    ⟨0xA0, 4, 1, .rwl, false, 0x0, true, 0xFFFFFF, 0x0, .none⟩ ]

/-- Register rows of the SAF0 page, part 1. -/
def rowsSAF01 : List RegRow :=
  [ ⟨0xA4, 4, 8, .rwl, false, 0x1F40064, true, 0xFFFF3FFF, 0x0, .none⟩,
    ⟨0xC4, 4, 1, .ro, false, 0x0, false, 0x0, 0x0, .none⟩,
    ⟨0x400, 64, 16, .rwl, false, 0x0, true, 0xFFFF, 0x0, .none⟩,
    ⟨0x404, 64, 16, .rwl, false, 0x0, true, 0x7FF, 0x0, .none⟩,
    ⟨0x408, 64, 16, .rwl, false, 0x10000, true, 0xFFFFFFFF, 0x0, .none⟩,
    ⟨0x40C, 64, 16, .rwl, false, 0x10000, true, 0xFFFFFFFF, 0x0, .none⟩,
    ⟨0x410, 64, 16, .rwl, false, 0x1000, true, 0xFFFFFFFF, 0x0, .none⟩,
    ⟨0x414, 64, 16, .rwl, false, 0x8000, true, 0xFFFFFFFF, 0x0, .none⟩,
    ⟨0x418, 64, 16, .rwl, false, 0xA0000, true, 0xFFFFFFFF, 0x0, .none⟩,
    ⟨0x41C, 64, 16, .rwl, false, 0xCCD, true, 0xFFFFFFFF, 0x0, .none⟩,
    ⟨0x420, 64, 16, .rwl, false, 0x0, true, 0xFFFFFFFF, 0x0, .none⟩,
    ⟨0x424, 64, 16, .rwl, false, 0x0, true, 0xFFFFFFFF, 0x0, .none⟩,
    ⟨0x428, 64, 16, .rwl, false, 0x0, true, 0xFFFFFFFF, 0x0, .none⟩,
    ⟨0x42C, 64, 16, .rwl, false, 0x6400, true, 0xFFFFFFFF, 0x0, .none⟩,
    ⟨0x430, 64, 16, .rwl, false, 0xA03E8, true, 0xFFFFFF, 0x0, .none⟩,
    ⟨0x434, 64, 16, .rwl, false, 0x199A, true, 0xFFFFFFFF, 0x0, .none⟩ ]

/-- Register rows of the SAF0 page, part 2. -/
def rowsSAF02 : List RegRow :=
  [ ⟨0x438, 64, 16, .ro, false, 0x0, false, 0x0, 0x0, .none⟩,
    ⟨0x43C, 64, 16, .ro, false, 0x0, false, 0x0, 0x0, .none⟩ ]

/-- The register rows of the SAF0 page. -/
def rowsSAF0 : List RegRow := rowsSAF00 ++ rowsSAF01 ++ rowsSAF02

/-- Register rows of the SAF1 page. -/
def rowsSAF1 : List RegRow :=
  [ ⟨0x40, 4, 1, .ro, false, 0x3C, false, 0x0, 0x0, .none⟩,
    ⟨0x44, 4, 1, .ro, false, 0x0, false, 0x0, 0x0, .none⟩,
    ⟨0x48, 4, 1, .ro, false, 0x0, false, 0x0, 0x0, .none⟩,
    ⟨0x4C, 4, 1, .ro, false, 0x0, false, 0x0, 0x0, .none⟩,
    ⟨0x400, 8, 16, .ro, false, 0x0, false, 0x0, 0x0, .none⟩,
    ⟨0x404, 8, 16, .ro, false, 0x0, false, 0x0, 0x0, .none⟩ ]

/-- Register rows of the FIO page. -/
def rowsFIO : List RegRow :=
  [ ⟨0x40, 4, 16, .rw, false, 0x1F401, false, 0xFFFF07, 0x0, .none⟩,
    ⟨0x80, 4, 1, .ro, false, 0x0, false, 0x0, 0x0, .none⟩,
    ⟨0x84, 4, 1, .ro, false, 0x0, false, 0x0, 0x0, .none⟩,
    ⟨0x88, 4, 1, .rw, false, 0x0, false, 0xFF, 0x0, .none⟩,
    ⟨0x8C, 4, 1, .ro, false, 0x0, false, 0x0, 0x0, .none⟩,
    ⟨0x90, 4, 1, .wo, false, 0x0, false, 0xFF, 0x0, .none⟩,
    ⟨0x94, 4, 1, .rw, false, 0x0, false, 0xFFFFFFFF, 0x0, .none⟩,
    ⟨0xC0, 4, 8, .rw, false, 0x320000, false, 0xFF003F, 0x0, .none⟩ ]

/-- Register rows of the ACQ page, part 0. -/
def rowsACQ0 : List RegRow :=
  [ ⟨0x40, 4, 1, .rw, false, 0x10000, false, 0xFFFF03FF, 0x0, .none⟩,
    ⟨0x44, 4, 1, .wo, false, 0x0, false, 0x7, 0x0, .none⟩,
    ⟨0x48, 4, 1, .ro, false, 0x0, false, 0x0, 0x0, .none⟩,
    ⟨0x4C, 4, 1, .rw, false, 0x9C40, false, 0xFFFFFFFF, 0x0, .none⟩,
    ⟨0x50, 4, 1, .rw, false, 0x400, false, 0x1FFFF, 0x0, .none⟩,
    ⟨0x54, 4, 1, .rw, false, 0x2000, false, 0xFFFF, 0x0, .none⟩,
    ⟨0x58, 4, 1, .rw, false, 0x400, false, 0xFFFFFFFF, 0x0, .none⟩,
    ⟨0x5C, 4, 1, .rw, false, 0x400, false, 0xFFFFFFFF, 0x0, .none⟩,
    ⟨0x60, 4, 1, .rw, false, 0x0, false, 0xFFFFF, 0x0, .none⟩,
    ⟨0x64, 4, 1, .rw, false, 0x0, false, 0xFFFFFFFF, 0x0, .none⟩,
    ⟨0x68, 4, 1, .rw, false, 0x0, false, 0xFFFFFFFF, 0x0, .none⟩,
    ⟨0x6C, 4, 1, .rw, false, 0x0, false, 0xFFFFFFFF, 0x0, .none⟩,
    ⟨0x70, 4, 1, .rw, false, 0x0, false, 0xFFFFFFFF, 0x0, .none⟩,
    ⟨0x74, 4, 1, .ro, false, 0x0, false, 0x0, 0x0, .lo⟩,
    ⟨0x78, 4, 1, .ro, false, 0x0, false, 0x0, 0x0, .hi⟩,
    ⟨0x7C, 4, 1, .ro, false, 0x0, false, 0x0, 0x0, .lo⟩ ]

/-- Register rows of the ACQ page, part 1. -/
def rowsACQ1 : List RegRow :=
  [ ⟨0x80, 4, 1, .ro, false, 0x0, false, 0x0, 0x0, .hi⟩,
    ⟨0x84, 4, 1, .ro, false, 0x0, false, 0x0, 0x0, .none⟩,
    ⟨0x88, 4, 1, .ro, false, 0x0, false, 0x0, 0x0, .none⟩,
    ⟨0x8C, 4, 1, .ro, false, 0x0, false, 0x0, 0x0, .none⟩,
    ⟨0x90, 4, 1, .ro, false, 0x0, false, 0x0, 0x0, .none⟩,
    ⟨0x94, 4, 1, .rw, false, 0x0, false, 0xFFFFFFFF, 0x0, .none⟩,
    ⟨0x98, 4, 1, .ro, false, 0x0, false, 0x0, 0x0, .none⟩,
    ⟨0x9C, 4, 1, .rw, false, 0x0, false, 0xFFFFFFFF, 0x0, .none⟩,
    ⟨0xA0, 4, 1, .rw, false, 0x0, false, 0xFFFFFFFF, 0x0, .none⟩,
    ⟨0xA4, 4, 1, .rw, false, 0x0, false, 0xFFFFFFFF, 0x0, .none⟩,
    ⟨0xA8, 4, 1, .ro, false, 0x0, false, 0x0, 0x0, .none⟩,
    ⟨0xAC, 4, 1, .rw, false, 0x0, false, 0x3F7, 0x0, .none⟩,
    ⟨0xC0, 16, 4, .rw, false, 0x0, false, 0x3FF, 0x0, .none⟩,
    ⟨0xC4, 16, 4, .rw, false, 0x0, false, 0xFFFFFFFF, 0x0, .none⟩,
    ⟨0xC8, 16, 4, .rw, false, 0x1, false, 0x1FFFF, 0x0, .none⟩,
    ⟨0xCC, 16, 4, .rw, false, 0x0, false, 0xFFFF, 0x0, .none⟩ ]

/-- Register rows of the ACQ page, part 2. -/
def rowsACQ2 : List RegRow :=
  [ ⟨0x100, 4, 8, .rw, false, 0x0, false, 0xFFFFFFFF, 0x0, .none⟩,
    ⟨0x200, 4, 64, .rw, false, 0x0, false, 0xFFF7, 0x0, .none⟩ ]

/-- The register rows of the ACQ page. -/
def rowsACQ : List RegRow := rowsACQ0 ++ rowsACQ1 ++ rowsACQ2

/-- Register rows of the REC page. -/
def rowsREC : List RegRow :=
  [ ⟨0x40, 4, 1, .rw, false, 0x1, false, 0x3, 0x0, .none⟩,
    ⟨0x44, 4, 1, .ro, false, 0x0, false, 0x0, 0x0, .none⟩,
    ⟨0x48, 4, 1, .wo, false, 0x0, false, 0xFFFF00F3, 0x0, .none⟩,
    ⟨0x4C, 4, 1, .rw, false, 0x3B20, false, 0x3F7F, 0x0, .none⟩,
    ⟨0x50, 4, 1, .ro, false, 0x0, false, 0x0, 0x0, .none⟩,
    ⟨0x54, 4, 1, .ro, false, 0x0, false, 0x0, 0x0, .none⟩,
    ⟨0x58, 4, 1, .ro, false, 0xFFFFFFFF, false, 0x0, 0x0, .none⟩,
    ⟨0x5C, 4, 1, .ro, false, 0x0, false, 0x0, 0x0, .none⟩,
    ⟨0x60, 4, 1, .ro, false, 0x0, false, 0x0, 0x0, .none⟩,
    ⟨0x64, 4, 1, .rw, false, 0x0, false, 0xFFFFFFFF, 0x0, .none⟩,
    ⟨0x68, 4, 1, .ro, false, 0x0, true, 0x0, 0x0, .none⟩,
    ⟨0x6C, 4, 1, .ro, false, 0x0, true, 0x0, 0x0, .none⟩,
    ⟨0x70, 4, 1, .ro, false, 0x1800000, false, 0x0, 0x0, .none⟩,
    ⟨0x74, 4, 1, .rw, false, 0x2, false, 0xFF, 0x0, .none⟩,
    ⟨0x80, 4, 16, .rw, false, 0x0, false, 0xFF, 0x0, .none⟩,
    ⟨0x100, 4, 512, .rw, false, 0x0, false, 0x3FFFFFD, 0x0, .none⟩ ]

/-- Register rows of the PCI page. -/
def rowsPCI : List RegRow :=
  [ ⟨0x40, 4, 1, .ro, false, 0x0, true, 0x0, 0x0, .none⟩,
    ⟨0x44, 4, 1, .ro, false, 0x0, true, 0x0, 0x0, .none⟩,
    ⟨0x48, 4, 1, .rw, false, 0x3E8, true, 0x3FF, 0x0, .none⟩,
    ⟨0x4C, 4, 1, .rw, false, 0x0, false, 0xFFFFFFFF, 0x0, .none⟩,
    ⟨0x800, 4, 256, .rw, false, 0x0, true, 0xFFFFFFFF, 0x0, .none⟩,
    ⟨0xC00, 4, 2, .ro, false, 0x0, true, 0x0, 0x0, .none⟩ ]

/-- Register rows of the DMA page. -/
def rowsDMA : List RegRow :=
  [ ⟨0x100, 32, 8, .rw, false, 0x640002, false, 0xFFFF000F, 0x0, .none⟩,
    ⟨0x104, 32, 8, .wo, false, 0x0, false, 0x3, 0x0, .none⟩,
    ⟨0x108, 32, 8, .ro, false, 0x0, false, 0x0, 0x0, .none⟩,
    ⟨0x10C, 32, 8, .rw, false, 0x0, false, 0xFFFFFFF, 0x0, .none⟩,
    ⟨0x110, 32, 8, .ro, false, 0x0, false, 0x0, 0x0, .none⟩,
    ⟨0x114, 32, 8, .rw, false, 0x0, false, 0xFFFFFFFF, 0x0, .none⟩,
    ⟨0x118, 32, 8, .rw, false, 0x0, false, 0xFFFF, 0x0, .none⟩ ]

/-- Register rows of the ETH page, part 0. -/
def rowsETH0 : List RegRow :=
  [ ⟨0x40, 4, 1, .rw, false, 0x5EE0004, false, 0xFFFF001F, 0x0, .none⟩,
    ⟨0x44, 4, 1, .ro, false, 0x0, false, 0x0, 0x0, .none⟩,
    ⟨0x48, 4, 1, .rw, false, 0x0, false, 0xFFFFFFF, 0x0, .none⟩,
    ⟨0x4C, 4, 1, .rw, false, 0x0, false, 0xFFFFFFF, 0x0, .none⟩,
    ⟨0x50, 4, 1, .rw, false, 0x400040, false, 0xFFF0FFF, 0x0, .none⟩,
    ⟨0x54, 4, 1, .rw, false, 0x600, false, 0x3FFF, 0x0, .none⟩,
    ⟨0x58, 4, 1, .rw, false, 0x0, false, 0xFFF0FFF, 0x0, .none⟩,
    ⟨0x5C, 4, 1, .ro, false, 0x0, false, 0x0, 0x0, .none⟩,
    ⟨0x60, 8, 4, .rw, false, 0x0, true, 0xFFFFFFFF, 0x0, .lo⟩,
    ⟨0x64, 8, 4, .rw, false, 0x0, true, 0x8000FFFF, 0x0, .hi⟩,
    ⟨0x80, 4, 1, .rw, false, 0x0, true, 0xFFFFFFFF, 0x0, .lo⟩,
    ⟨0x84, 4, 1, .rw, false, 0x0, true, 0xFFFFFFFF, 0x0, .hi⟩,
    ⟨0x88, 4, 1, .rw, false, 0xE, true, 0x3F, 0x0, .none⟩,
    ⟨0x8C, 4, 1, .rw, false, 0x0, true, 0xFFFFFFFF, 0x0, .none⟩,
    ⟨0x90, 4, 1, .rw, false, 0x0, false, 0xFFFFFFFF, 0x0, .none⟩,
    ⟨0x94, 4, 1, .rw, false, 0x0, false, 0xFFFFFFFF, 0x0, .lo⟩ ]

/-- Register rows of the ETH page, part 1. -/
def rowsETH1 : List RegRow :=
  [ ⟨0x98, 4, 1, .rw, false, 0x0, false, 0xFFFFFFFF, 0x0, .hi⟩,
    ⟨0x9C, 4, 1, .rw, false, 0x0, false, 0xFFFFFFFF, 0x0, .none⟩,
    ⟨0xA0, 4, 1, .rw, false, 0x0, false, 0xFFFF0FFF, 0x0, .none⟩ ]

/-- The register rows of the ETH page. -/
def rowsETH : List RegRow := rowsETH0 ++ rowsETH1

/-- Register rows of the DRC page. -/
def rowsDRC : List RegRow :=
  [ ⟨0x40, 4, 1, .ro, false, 0x0, true, 0x0, 0x0, .none⟩,
    ⟨0x44, 4, 1, .ro, false, 0x0, true, 0x0, 0x0, .none⟩,
    ⟨0x48, 4, 1, .ro, false, 0x0, true, 0x0, 0x0, .none⟩,
    ⟨0x4C, 4, 1, .rw, false, 0x0, true, 0xFFFFFFFF, 0x0, .none⟩,
    ⟨0x50, 4, 1, .ro, false, 0x0, true, 0x0, 0x0, .none⟩ ]

/-- Register rows of the MEM page. -/
def rowsMEM : List RegRow :=
  [ ⟨0x40, 4, 1, .ro, false, 0x0, false, 0x0, 0x0, .none⟩,
    ⟨0x44, 4, 1, .rw, false, 0x0, false, 0xFFFFFFFF, 0x0, .none⟩,
    ⟨0x48, 4, 1, .rw, false, 0x0, false, 0xFFFFFFFF, 0x0, .none⟩,
    ⟨0x4C, 4, 1, .rw, false, 0x0, false, 0x7FFFC0, 0x0, .none⟩,
    ⟨0x50, 4, 1, .wo, false, 0x0, false, 0x1, 0x0, .none⟩,
    ⟨0x54, 4, 1, .rw, false, 0x0, false, 0x1FFFFFFF, 0x0, .none⟩,
    ⟨0x58, 4, 1, .wo, false, 0x0, false, 0x1FF0003, 0x0, .none⟩,
    ⟨0x5C, 4, 1, .ro, false, 0x0, true, 0x0, 0x0, .none⟩,
    ⟨0x100, 4, 8, .rw, false, 0x0, true, 0xFFFF0007, 0x0, .none⟩,
    ⟨0x120, 4, 8, .rw, false, 0x0, false, 0xFFFF, 0x0, .none⟩,
    ⟨0x800, 4, 64, .rw, false, 0x0, false, 0xFFFFFFFF, 0x0, .none⟩,
    ⟨0x900, 4, 16, .rw, false, 0x0, false, 0xFFFFFFFF, 0x0, .none⟩ ]

/-- Register rows of the CAN page, part 0. -/
def rowsCAN0 : List RegRow :=
  [ ⟨0x40, 4, 1, .rw, false, 0x0, false, 0x3F, 0x0, .none⟩,
    ⟨0x44, 4, 1, .ro, false, 0x0, false, 0x0, 0x0, .none⟩,
    ⟨0x48, 4, 1, .wo, false, 0x0, false, 0x1, 0x0, .none⟩,
    ⟨0x4C, 4, 1, .rw, false, 0x1F1F7E00, false, 0x7F7FFFFF, 0x0, .none⟩,
    ⟨0x50, 4, 1, .rw, false, 0x7071E00, false, 0xF0F1F1F, 0x0, .none⟩,
    ⟨0x54, 4, 1, .rw, false, 0x20, false, 0x7F, 0x0, .none⟩,
    ⟨0x58, 4, 1, .ro, false, 0x0, false, 0x0, 0x0, .none⟩,
    ⟨0x5C, 4, 1, .ro, false, 0x0, false, 0x0, 0x0, .none⟩,
    ⟨0x60, 4, 1, .rw, false, 0x0, false, 0xFFFFFFFF, 0x0, .none⟩,
    ⟨0x64, 4, 1, .wo, false, 0x0, false, 0x77F, 0x0, .none⟩,
    ⟨0x68, 4, 1, .ro, false, 0x0, false, 0x0, 0x0, .none⟩,
    ⟨0x70, 4, 4, .ro, false, 0x0, false, 0x0, 0x0, .none⟩,
    ⟨0x80, 4, 4, .ro, false, 0x0, false, 0x0, 0x0, .none⟩,
    ⟨0x90, 4, 4, .ro, false, 0x0, false, 0x0, 0x0, .none⟩,
    ⟨0xA0, 4, 1, .rw, false, 0x0, false, 0xFF03, 0x0, .none⟩,
    ⟨0xA4, 4, 1, .rw, false, 0x0, false, 0xFFFF, 0x0, .none⟩ ]

/-- Register rows of the CAN page, part 1. -/
def rowsCAN1 : List RegRow :=
  [ ⟨0x100, 4, 1, .rw, false, 0x0, false, 0x3FFFFFFF, 0x0, .none⟩,
    ⟨0x104, 4, 1, .rw, false, 0x0, false, 0xFF, 0x0, .none⟩,
    ⟨0x108, 4, 1, .ro, false, 0x0, false, 0x0, 0x0, .lo⟩,
    ⟨0x10C, 4, 1, .ro, false, 0x0, false, 0x0, 0x0, .hi⟩,
    ⟨0x110, 4, 16, .rw, false, 0x0, false, 0xFFFFFFFF, 0x0, .none⟩,
    ⟨0x400, 8, 128, .rw, false, 0x0, false, 0x3FFFFFFF, 0x0, .none⟩,
    ⟨0x404, 8, 128, .rw, false, 0x0, false, 0x3F, 0x0, .none⟩ ]

/-- The register rows of the CAN page. -/
def rowsCAN : List RegRow := rowsCAN0 ++ rowsCAN1

/-- Register rows of the SIL page. -/
def rowsSIL : List RegRow :=
  [ ⟨0x40, 4, 1, .rw, true, 0x0, false, 0xFFFFF, 0x0, .none⟩,
    ⟨0x44, 4, 1, .ro, false, 0x0, false, 0x0, 0x0, .none⟩,
    ⟨0x48, 4, 1, .wo, false, 0x0, false, 0x1FFF0007, 0x0, .none⟩,
    ⟨0x4C, 4, 1, .ro, false, 0x0, false, 0x0, 0x0, .none⟩,
    ⟨0x50, 4, 1, .rw, false, 0x64, false, 0xFFFF, 0x0, .none⟩,
    ⟨0x54, 4, 1, .rw, false, 0x0, false, 0xFFFFFFFF, 0x0, .none⟩,
    ⟨0x100, 4, 8, .wo, false, 0x0, false, 0xFFFFFFFF, 0x0, .none⟩,
    ⟨0x120, 4, 8, .ro, false, 0x0, false, 0x0, 0x0, .none⟩,
    ⟨0x140, 4, 8, .ro, false, 0x0, false, 0x0, 0x0, .none⟩ ]

/-- Register rows of the AXL page, part 0. -/
def rowsAXL0 : List RegRow :=
  [ ⟨0x40, 4, 1, .rw, true, 0x18, false, 0x3F7F, 0x0, .none⟩,
    ⟨0x44, 4, 1, .wo, false, 0x0, false, 0x7, 0x0, .none⟩,
    ⟨0x48, 4, 1, .ro, false, 0x0, false, 0x0, 0x0, .none⟩,
    ⟨0x4C, 4, 1, .rw, false, 0x32303, false, 0x7770F, 0x0, .none⟩,
    ⟨0x50, 4, 1, .rw, false, 0x0, false, 0xFFFFFFFF, 0x0, .none⟩,
    ⟨0x54, 4, 1, .rw, true, 0x0, false, 0xFFFFFFFF, 0x0, .none⟩,
    ⟨0x58, 4, 1, .rw, true, 0x4E20, false, 0x1FFFF, 0x0, .none⟩,
    ⟨0x5C, 4, 1, .rw, false, 0x0, false, 0x1, 0x0, .none⟩,
    ⟨0x60, 4, 1, .rw, false, 0x8, false, 0xFF, 0x0, .none⟩,
    ⟨0x100, 4, 1, .rw, true, 0x100000, false, 0xFFFFFFFF, 0x0, .none⟩,
    ⟨0x104, 4, 1, .rw, true, 0x500000, false, 0xFFFFFFFF, 0x0, .none⟩,
    ⟨0x108, 4, 1, .rw, true, 0xA0000, false, 0xFFFFFFFF, 0x0, .none⟩,
    ⟨0x10C, 4, 1, .rw, true, 0x4, false, 0xFF, 0x0, .none⟩,
    ⟨0x110, 4, 1, .rw, true, 0x0, false, 0xFFFFFFFF, 0x0, .none⟩,
    ⟨0x114, 4, 1, .rw, true, 0x0, false, 0xFFFFFFFF, 0x0, .none⟩,
    ⟨0x118, 4, 1, .rw, true, 0x0, false, 0xFFFFFFFF, 0x0, .none⟩ ]

/-- Register rows of the AXL page, part 1. -/
def rowsAXL1 : List RegRow :=
  [ ⟨0x11C, 4, 1, .rw, true, 0x0, false, 0xFFFFFFFF, 0x0, .none⟩,
    ⟨0x120, 4, 1, .rw, true, 0x7D0, false, 0xFFFF, 0x0, .none⟩,
    ⟨0x124, 4, 1, .rw, true, 0xF5C3, false, 0xFFFF, 0x0, .none⟩,
    ⟨0x128, 4, 1, .rw, true, 0x320, false, 0xFFFF, 0x0, .none⟩,
    ⟨0x12C, 4, 1, .rw, true, 0x190, false, 0xFFFF, 0x0, .none⟩,
    ⟨0x130, 4, 1, .rw, true, 0x10000, false, 0xFFFFFFFF, 0x0, .none⟩,
    ⟨0x134, 4, 1, .rw, true, 0x0, false, 0xFFFFFFFF, 0x0, .none⟩,
    ⟨0x138, 4, 1, .rw, true, 0x640000, false, 0xFFFF0007, 0x0, .none⟩,
    ⟨0x13C, 4, 1, .rw, true, 0xCCD, false, 0xFFFF, 0x0, .none⟩,
    ⟨0x140, 4, 3, .rw, true, 0x0, false, 0xFFFFFFFF, 0x0, .none⟩,
    ⟨0x14C, 4, 1, .rw, true, 0x0, false, 0xFFFFFFFF, 0x0, .none⟩,
    ⟨0x150, 4, 1, .rw, true, 0x1000000A, false, 0xFF03FF1F, 0x0, .none⟩,
    ⟨0x154, 4, 1, .rw, true, 0x51F, false, 0xFFFF, 0x0, .none⟩,
    ⟨0x158, 4, 1, .rw, true, 0x8000, false, 0xFFFFFFFF, 0x0, .none⟩,
    ⟨0x15C, 4, 1, .rw, true, 0x640000, false, 0xFFFFFFFF, 0x0, .none⟩,
    ⟨0x160, 4, 1, .rw, true, 0xA00, false, 0xFFFFFFFF, 0x0, .none⟩ ]

/-- Register rows of the AXL page, part 2. -/
def rowsAXL2 : List RegRow :=
  [ ⟨0x164, 4, 1, .rw, true, 0x10000, false, 0xFFFFFFFF, 0x0, .none⟩,
    ⟨0x180, 32, 8, .rw, true, 0x0, false, 0xFFFFFFFF, 0x0, .none⟩,
    ⟨0x184, 32, 8, .rw, true, 0x10000, false, 0xFFFFFFFF, 0x0, .none⟩,
    ⟨0x188, 32, 8, .rw, true, 0x0, false, 0xFFFFFFFF, 0x0, .none⟩,
    ⟨0x18C, 32, 8, .rw, true, 0x0, false, 0xFFFFFFFF, 0x0, .none⟩,
    ⟨0x190, 32, 8, .rw, true, 0x0, false, 0xFFFFFFFF, 0x0, .none⟩,
    ⟨0x194, 32, 8, .rw, true, 0x0, false, 0xFFFFFFFF, 0x0, .none⟩,
    ⟨0x198, 32, 8, .rw, true, 0x0, false, 0xFFFFFFFF, 0x0, .none⟩,
    ⟨0x280, 16, 4, .rw, true, 0x3E80000, false, 0xFFFFFFFF, 0x0, .none⟩,
    ⟨0x284, 16, 4, .rw, true, 0x640000, false, 0xFFFFFFFF, 0x0, .none⟩,
    ⟨0x288, 16, 4, .rw, true, 0x1400, false, 0x3FFFF, 0x0, .none⟩,
    ⟨0x28C, 16, 4, .rw, true, 0x10000, false, 0xFFFFFFFF, 0x0, .none⟩,
    ⟨0x300, 4, 1, .rw, false, 0xA0000, false, 0xFFFFFFFF, 0x0, .none⟩,
    ⟨0x304, 4, 1, .rw, false, 0x0, false, 0xFFFFFFFF, 0x0, .none⟩,
    ⟨0x308, 4, 1, .rw, false, 0x0, false, 0xFFFFFFFF, 0x0, .none⟩,
    ⟨0x30C, 4, 1, .wo, false, 0x0, false, 0x3, 0x0, .none⟩ ]

/-- Register rows of the AXL page, part 3. -/
def rowsAXL3 : List RegRow :=
  [ ⟨0x310, 4, 1, .rw, false, 0x0, false, 0x1FFFC0, 0x0, .none⟩,
    ⟨0x314, 4, 1, .ro, false, 0x0, false, 0x0, 0x0, .none⟩,
    ⟨0x318, 4, 1, .ro, false, 0x0, false, 0x0, 0x0, .none⟩,
    ⟨0x31C, 4, 1, .ro, false, 0x0, false, 0x0, 0x0, .none⟩,
    ⟨0x320, 4, 1, .ro, false, 0x0, false, 0x0, 0x0, .none⟩,
    ⟨0x324, 4, 1, .ro, false, 0x0, false, 0x0, 0x0, .none⟩,
    ⟨0x328, 4, 1, .ro, false, 0x0, false, 0x0, 0x0, .none⟩,
    ⟨0x32C, 4, 1, .ro, false, 0x0, false, 0x0, 0x0, .none⟩,
    ⟨0x330, 4, 1, .ro, false, 0x0, false, 0x0, 0x0, .none⟩,
    ⟨0x334, 4, 1, .ro, false, 0x0, false, 0x0, 0x0, .none⟩,
    ⟨0x338, 4, 1, .ro, false, 0x0, false, 0x0, 0x0, .none⟩,
    ⟨0x33C, 4, 1, .ro, false, 0x0, false, 0x0, 0x0, .none⟩,
    ⟨0x340, 4, 1, .ro, false, 0x0, false, 0x0, 0x0, .none⟩,
    ⟨0x344, 4, 1, .ro, false, 0x0, false, 0x0, 0x0, .none⟩,
    ⟨0x348, 4, 1, .rw, false, 0x0, false, 0xFFFFFFFF, 0x0, .none⟩,
    ⟨0x34C, 4, 1, .ro, false, 0x0, false, 0x0, 0x0, .none⟩ ]

/-- The register rows of the AXL page. -/
def rowsAXL : List RegRow := rowsAXL0 ++ rowsAXL1 ++ rowsAXL2 ++ rowsAXL3

/-- Register rows of the AXP page, part 0. -/
def rowsAXP0 : List RegRow :=
  [ ⟨0x40, 4, 1, .rw, true, 0x0, false, 0x1377, 0x7, .none⟩,
    ⟨0x44, 4, 1, .ro, false, 0x0, false, 0x0, 0x0, .none⟩,
    ⟨0x48, 4, 1, .rw, true, 0x0, false, 0xFFFFFFFF, 0x0, .lo⟩,
    ⟨0x4C, 4, 1, .rw, true, 0x0, false, 0xFFFFFFFF, 0x0, .hi⟩,
    ⟨0x50, 4, 1, .rw, true, 0x0, false, 0xFFFFFFFF, 0x0, .none⟩,
    ⟨0x54, 4, 1, .rw, true, 0xA0000, false, 0xFFFFFFFF, 0x0, .none⟩,
    ⟨0x58, 4, 1, .rw, true, 0x6400, false, 0xFFFFFFFF, 0x0, .none⟩,
    ⟨0x5C, 4, 1, .rw, true, 0x6400, false, 0xFFFFFFFF, 0x0, .none⟩,
    ⟨0x60, 4, 1, .rw, true, 0x271000, false, 0xFFFFFFFF, 0x0, .none⟩,
    ⟨0x64, 4, 1, .rw, false, 0x6400, false, 0xFFFFFFFF, 0x0, .none⟩,
    ⟨0x68, 4, 1, .rw, false, 0x3E800, false, 0xFFFFFFFF, 0x0, .none⟩,
    ⟨0x6C, 4, 1, .rw, false, 0x6400, false, 0xFFFFFFFF, 0x0, .none⟩,
    ⟨0x70, 4, 1, .rw, false, 0x320000, false, 0xFFFFFFFF, 0x0, .none⟩,
    ⟨0x74, 4, 1, .rw, true, 0x0, false, 0xFFFFFFFF, 0x0, .lo⟩,
    ⟨0x78, 4, 1, .rw, true, 0x0, false, 0xFFFFFFFF, 0x0, .hi⟩,
    ⟨0x7C, 4, 1, .rw, true, 0x0, false, 0x1, 0x0, .none⟩ ]

/-- Register rows of the AXP page, part 1. -/
def rowsAXP1 : List RegRow :=
  [ ⟨0x80, 4, 1, .rw, false, 0x0, false, 0xFFFFFFFF, 0x0, .lo⟩,
    ⟨0x84, 4, 1, .rw, false, 0x0, false, 0xFFFFFFFF, 0x0, .hi⟩,
    ⟨0x88, 4, 1, .rw, false, 0x0, false, 0xFFFFFFFF, 0x0, .lo⟩,
    ⟨0x8C, 4, 1, .rw, false, 0x0, false, 0xFFFFFFFF, 0x0, .hi⟩,
    ⟨0x90, 4, 1, .ro, false, 0x0, false, 0x0, 0x0, .lo⟩,
    ⟨0x94, 4, 1, .ro, false, 0x0, false, 0x0, 0x0, .hi⟩,
    ⟨0x98, 4, 1, .ro, false, 0x0, false, 0x0, 0x0, .none⟩,
    ⟨0x9C, 4, 1, .ro, false, 0x0, false, 0x0, 0x0, .none⟩,
    ⟨0xA0, 4, 1, .ro, false, 0x0, false, 0x0, 0x0, .lo⟩,
    ⟨0xA4, 4, 1, .ro, false, 0x0, false, 0x0, 0x0, .hi⟩,
    ⟨0xA8, 4, 1, .ro, false, 0x0, false, 0x0, 0x0, .none⟩,
    ⟨0xAC, 4, 1, .rw, false, 0x28F, false, 0xFFFFFFFF, 0x0, .none⟩,
    ⟨0xB0, 4, 1, .rw, false, 0x7D0, false, 0xFFFFFF, 0x0, .none⟩,
    ⟨0xB4, 4, 1, .ro, false, 0x0, false, 0x0, 0x0, .none⟩,
    ⟨0xB8, 4, 1, .ro, false, 0x0, false, 0x0, 0x0, .none⟩,
    ⟨0xBC, 4, 1, .rw, false, 0x0, false, 0xFFFFFFFF, 0x0, .none⟩ ]

/-- Register rows of the AXP page, part 2. -/
def rowsAXP2 : List RegRow :=
  [ ⟨0xC0, 4, 1, .rw, true, 0x0, false, 0x7FF, 0x0, .none⟩,
    ⟨0xC4, 4, 1, .rw, false, 0x10000, false, 0xFFFFFFFF, 0x0, .none⟩,
    ⟨0xC8, 4, 1, .rw, false, 0x199A, false, 0xFFFFFFFF, 0x0, .none⟩,
    ⟨0xCC, 4, 1, .rw, false, 0x640000, false, 0xFFFFFFFF, 0x0, .none⟩,
    ⟨0xD0, 4, 1, .rw, false, 0x0, false, 0xFFFFFFFF, 0x0, .lo⟩,
    ⟨0xD4, 4, 1, .rw, false, 0x0, false, 0xFFFFFFFF, 0x0, .hi⟩,
    ⟨0xD8, 4, 1, .rw, false, 0x0, false, 0xFFFFFFFF, 0x0, .lo⟩,
    ⟨0xDC, 4, 1, .rw, false, 0x0, false, 0xFFFFFFFF, 0x0, .hi⟩,
    ⟨0xE0, 4, 1, .rw, false, 0x999A8000, false, 0xFFFFFFFF, 0x0, .none⟩,
    ⟨0xE4, 4, 1, .rw, false, 0x1388, false, 0xFFFF, 0x0, .none⟩,
    ⟨0xE8, 4, 1, .rw, false, 0xCCD, false, 0xFFFFFFFF, 0x0, .none⟩,
    ⟨0xF0, 4, 1, .rw, true, 0x0, false, 0x3F, 0x0, .none⟩,
    ⟨0xF4, 4, 1, .rw, true, 0xC80, false, 0xFFFFFFFF, 0x0, .none⟩,
    ⟨0xF8, 4, 1, .rw, true, 0xFA00FA0, false, 0xFFFFFFFF, 0x0, .none⟩,
    ⟨0xFC, 4, 1, .rw, false, 0x10, false, 0xFFFF, 0x0, .none⟩,
    ⟨0x100, 4, 1, .ro, false, 0x0, false, 0x0, 0x0, .none⟩ ]

/-- Register rows of the AXP page, part 3. -/
def rowsAXP3 : List RegRow :=
  [ ⟨0x104, 4, 1, .ro, false, 0x0, false, 0x0, 0x0, .none⟩,
    ⟨0x108, 4, 1, .rw, true, 0x32045500, false, 0xFF0FFF01, 0x0, .none⟩,
    ⟨0x10C, 4, 1, .rw, true, 0x0, false, 0xFFFFFFFF, 0x0, .none⟩,
    ⟨0x110, 4, 1, .rw, true, 0x0, false, 0xFFFFFFFF, 0x0, .none⟩,
    ⟨0x114, 4, 1, .rw, false, 0x8000, false, 0xFFFFFFFF, 0x0, .none⟩,
    ⟨0x118, 4, 1, .rw, false, 0x4000, false, 0xFFFF, 0x0, .none⟩,
    ⟨0x11C, 4, 1, .ro, false, 0x0, false, 0x0, 0x0, .none⟩,
    ⟨0x120, 4, 1, .rw, false, 0x3320, false, 0x7777, 0x0, .none⟩ ]

/-- The register rows of the AXP page. -/
def rowsAXP : List RegRow := rowsAXP0 ++ rowsAXP1 ++ rowsAXP2 ++ rowsAXP3

/-- Register rows of the AXG page, part 0. -/
def rowsAXG0 : List RegRow :=
  [ ⟨0x40, 4, 1, .rw, true, 0x0, false, 0xFF03D3F7, 0x0, .none⟩,
    ⟨0x44, 4, 1, .wo, true, 0x0, false, 0x3, 0x0, .none⟩,
    ⟨0x48, 4, 1, .ro, false, 0x0, false, 0x0, 0x0, .none⟩,
    ⟨0x4C, 4, 1, .rw, true, 0x1, false, 0xFFFFFFFF, 0x0, .none⟩,
    ⟨0x50, 4, 1, .rw, true, 0x1, false, 0xFFFFFFFF, 0x0, .none⟩,
    ⟨0x54, 4, 1, .rw, true, 0x0, false, 0xFFFFFFFF, 0x0, .lo⟩,
    ⟨0x58, 4, 1, .rw, true, 0x0, false, 0xFFFFFFFF, 0x0, .hi⟩,
    ⟨0x5C, 4, 1, .rw, true, 0x0, false, 0xFFFFFFFF, 0x0, .lo⟩,
    ⟨0x60, 4, 1, .rw, true, 0x0, false, 0xFFFFFFFF, 0x0, .hi⟩,
    ⟨0x64, 4, 1, .rw, true, 0x0, false, 0xFFFFFFFF, 0x0, .lo⟩,
    ⟨0x68, 4, 1, .rw, true, 0x0, false, 0xFFFFFFFF, 0x0, .hi⟩,
    ⟨0x6C, 4, 1, .rw, true, 0x10000, false, 0xFFFFFFFF, 0x0, .none⟩,
    ⟨0x70, 4, 1, .rw, true, 0x0, false, 0xFFFFFFFF, 0x0, .lo⟩,
    ⟨0x74, 4, 1, .rw, true, 0x0, false, 0xFFFFFFFF, 0x0, .hi⟩,
    ⟨0x78, 4, 1, .rw, true, 0x10000, false, 0xFFFFFFFF, 0x0, .none⟩,
    ⟨0x7C, 4, 1, .rw, false, 0x0, false, 0xFFFFFFFF, 0x0, .none⟩ ]

/-- Register rows of the AXG page, part 1. -/
def rowsAXG1 : List RegRow :=
  [ ⟨0x80, 4, 1, .ro, false, 0x0, false, 0x0, 0x0, .lo⟩,
    ⟨0x84, 4, 1, .ro, false, 0x0, false, 0x0, 0x0, .hi⟩,
    ⟨0x88, 4, 1, .ro, false, 0x0, false, 0x0, 0x0, .lo⟩,
    ⟨0x8C, 4, 1, .ro, false, 0x0, false, 0x0, 0x0, .hi⟩,
    ⟨0x90, 4, 1, .ro, false, 0x0, false, 0x0, 0x0, .lo⟩,
    ⟨0x94, 4, 1, .ro, false, 0x0, false, 0x0, 0x0, .hi⟩,
    ⟨0x98, 4, 1, .ro, false, 0x0, false, 0x0, 0x0, .lo⟩,
    ⟨0x9C, 4, 1, .ro, false, 0x0, false, 0x0, 0x0, .hi⟩,
    ⟨0xA0, 4, 1, .rw, false, 0x40000000, false, 0xFFFF0003, 0x0, .none⟩,
    ⟨0xA4, 4, 1, .rw, false, 0x0, false, 0xFFFFFFFF, 0x0, .none⟩,
    ⟨0xA8, 4, 1, .rw, false, 0x1000000, false, 0xFFFFFFFF, 0x0, .none⟩,
    ⟨0xAC, 4, 1, .rw, false, 0x4000, false, 0xFFFFFFFF, 0x0, .none⟩,
    ⟨0xB0, 4, 1, .rw, true, 0x0, false, 0xFFFFFFFF, 0x0, .lo⟩,
    ⟨0xB4, 4, 1, .rw, true, 0x0, false, 0xFFFFFFFF, 0x0, .hi⟩,
    ⟨0xB8, 4, 1, .rw, false, 0x0, false, 0xFFFFFFFF, 0x0, .none⟩,
    ⟨0xBC, 4, 1, .rw, false, 0x3, false, 0x7, 0x0, .none⟩ ]

/-- The register rows of the AXG page. -/
def rowsAXG : List RegRow := rowsAXG0 ++ rowsAXG1

/-- Register rows of the AXC page, part 0. -/
def rowsAXC0 : List RegRow :=
  [ ⟨0x40, 4, 1, .rw, false, 0x0, false, 0xFF, 0x0, .none⟩,
    ⟨0x44, 4, 1, .rw, false, 0x0, false, 0xFFFFFFFF, 0x0, .none⟩,
    ⟨0x48, 4, 1, .rw, false, 0x0, false, 0xFFFFFFFF, 0x0, .none⟩,
    ⟨0x4C, 4, 1, .rw, false, 0x0, false, 0xFFFFFFFF, 0x0, .none⟩,
    ⟨0x50, 4, 1, .ro, false, 0x0, false, 0x0, 0x0, .none⟩,
    ⟨0x54, 4, 1, .rw, false, 0x0, false, 0xFFFFFFFF, 0x0, .none⟩,
    ⟨0x58, 4, 1, .ro, false, 0x0, false, 0x0, 0x0, .lo⟩,
    ⟨0x5C, 4, 1, .ro, false, 0x0, false, 0x0, 0x0, .hi⟩,
    ⟨0x60, 4, 1, .ro, false, 0x0, false, 0x0, 0x0, .lo⟩,
    ⟨0x64, 4, 1, .ro, false, 0x0, false, 0x0, 0x0, .hi⟩,
    ⟨0x68, 4, 1, .ro, false, 0x0, false, 0x0, 0x0, .lo⟩,
    ⟨0x6C, 4, 1, .ro, false, 0x0, false, 0x0, 0x0, .hi⟩,
    ⟨0x70, 4, 1, .rw, false, 0x0, false, 0xFF, 0x0, .none⟩,
    ⟨0x74, 4, 1, .rw, false, 0x0, false, 0xFFFFFFFF, 0x0, .none⟩,
    ⟨0x78, 4, 1, .rw, false, 0x0, false, 0xFFFFFFFF, 0x0, .none⟩,
    ⟨0x7C, 4, 1, .rw, false, 0x0, false, 0xFFFFFFFF, 0x0, .none⟩ ]

/-- Register rows of the AXC page, part 1. -/
def rowsAXC1 : List RegRow :=
  [ ⟨0x80, 4, 1, .ro, false, 0x0, false, 0x0, 0x0, .none⟩,
    ⟨0x84, 4, 1, .rw, false, 0x0, false, 0xFFFFFFFF, 0x0, .none⟩,
    ⟨0x88, 4, 1, .ro, false, 0x0, false, 0x0, 0x0, .lo⟩,
    ⟨0x8C, 4, 1, .ro, false, 0x0, false, 0x0, 0x0, .hi⟩,
    ⟨0x90, 4, 1, .ro, false, 0x0, false, 0x0, 0x0, .lo⟩,
    ⟨0x94, 4, 1, .ro, false, 0x0, false, 0x0, 0x0, .hi⟩,
    ⟨0x98, 4, 1, .ro, false, 0x0, false, 0x0, 0x0, .lo⟩,
    ⟨0x9C, 4, 1, .ro, false, 0x0, false, 0x0, 0x0, .hi⟩ ]

/-- The register rows of the AXC page. -/
def rowsAXC : List RegRow := rowsAXC0 ++ rowsAXC1

/-- Register rows of the SLK page, part 0. -/
def rowsSLK0 : List RegRow :=
  [ ⟨0x40, 4, 1, .rw, false, 0x2404, false, 0xFF07, 0x0, .none⟩,
    ⟨0x44, 4, 1, .ro, false, 0x0, false, 0x0, 0x0, .none⟩,
    ⟨0x48, 4, 1, .wo, false, 0x0, false, 0x7, 0x0, .none⟩,
    ⟨0x4C, 4, 1, .rw, true, 0x6040, false, 0x7F7F, 0x0, .none⟩,
    ⟨0x50, 4, 1, .ro, false, 0xFFFF, false, 0x0, 0x0, .none⟩,
    ⟨0x54, 4, 1, .ro, false, 0x0, false, 0x0, 0x0, .none⟩,
    ⟨0x58, 4, 1, .rw, false, 0x0, true, 0xFFFF, 0x0, .none⟩,
    ⟨0x5C, 4, 1, .ro, false, 0x0, false, 0x0, 0x0, .none⟩,
    ⟨0x60, 4, 1, .rw, false, 0x0, false, 0xFFFFFFFF, 0x0, .none⟩,
    ⟨0x64, 4, 1, .rw, false, 0x0, false, 0xFFFFFFFF, 0x0, .none⟩,
    ⟨0x68, 4, 1, .ro, false, 0x0, false, 0x0, 0x0, .none⟩,
    ⟨0x6C, 4, 1, .w1c, false, 0x0, false, 0x1FF, 0x0, .none⟩,
    ⟨0x70, 4, 1, .ro, false, 0x0, false, 0x0, 0x0, .none⟩,
    ⟨0x74, 4, 1, .ro, false, 0x8080, false, 0x0, 0x0, .none⟩,
    ⟨0x78, 4, 1, .rw, false, 0x0, false, 0xFFFF, 0x0, .none⟩,
    ⟨0x7C, 4, 1, .rw, false, 0x0, false, 0xFFFFFF, 0x0, .none⟩ ]

/-- Register rows of the SLK page, part 1. -/
def rowsSLK1 : List RegRow :=
  [ ⟨0x80, 4, 1, .rw, false, 0x0, false, 0xFFFF, 0x0, .none⟩,
    ⟨0x84, 4, 1, .ro, false, 0x0, false, 0x0, 0x0, .none⟩,
    ⟨0x88, 4, 1, .ro, false, 0x0, false, 0x0, 0x0, .none⟩,
    ⟨0x8C, 4, 1, .ro, false, 0x0, false, 0x0, 0x0, .none⟩,
    ⟨0x90, 4, 1, .ro, false, 0x0, false, 0x0, 0x0, .none⟩,
    ⟨0x94, 4, 1, .rw, false, 0x0, false, 0x107, 0x0, .none⟩,
    ⟨0x98, 4, 1, .rw, false, 0x0, false, 0x103FF, 0x0, .none⟩,
    ⟨0x9C, 4, 1, .ro, false, 0x80, false, 0x0, 0x0, .none⟩,
    ⟨0x800, 4, 128, .rw, false, 0x0, false, 0xFFFFFFFF, 0x0, .none⟩ ]

/-- The register rows of the SLK page. -/
def rowsSLK : List RegRow := rowsSLK0 ++ rowsSLK1

/-- Register rows of the LDC page, part 0. -/
def rowsLDC0 : List RegRow :=
  [ ⟨0x40, 4, 1, .rw, true, 0x0, false, 0x3F, 0x0, .none⟩,
    ⟨0x44, 4, 1, .rw, true, 0x186A0, false, 0x3FFFF, 0x0, .none⟩,
    ⟨0x48, 4, 1, .rw, true, 0x0, false, 0x3FFFF, 0x0, .none⟩,
    ⟨0x4C, 4, 1, .rw, true, 0x0, false, 0x3FFFF, 0x0, .none⟩,
    ⟨0x50, 4, 1, .rw, true, 0x0, false, 0x3FFFF, 0x0, .none⟩,
    ⟨0x54, 4, 1, .rw, true, 0x3F, false, 0x3F, 0x0, .none⟩,
    ⟨0x58, 4, 1, .rw, true, 0x0, false, 0xFFFFFFFF, 0x0, .none⟩,
    ⟨0x5C, 4, 1, .rw, true, 0x0, false, 0x8003FFFF, 0x0, .none⟩,
    ⟨0x60, 4, 1, .rw, true, 0x0, false, 0x8003FFFF, 0x0, .none⟩,
    ⟨0x64, 4, 1, .rw, true, 0x6402, false, 0xFF07, 0x0, .none⟩,
    ⟨0x68, 4, 1, .rw, true, 0x7D0, false, 0xFFFFFF, 0x0, .none⟩,
    ⟨0x6C, 4, 1, .rw, false, 0x326405, false, 0xFFFFFF, 0x0, .none⟩,
    ⟨0x70, 4, 1, .rw, false, 0xC0A0808, false, 0xFFFFFFFF, 0x0, .none⟩,
    ⟨0x74, 4, 1, .ro, false, 0x108, false, 0x0, 0x0, .none⟩,
    ⟨0x78, 4, 3, .ro, false, 0xFFFF6464, false, 0x0, 0x0, .none⟩,
    ⟨0x84, 4, 1, .rw, false, 0x1019C0, false, 0xFFFFFF, 0x0, .none⟩ ]

/-- Register rows of the LDC page, part 1. -/
def rowsLDC1 : List RegRow :=
  [ ⟨0x88, 4, 1, .rw, false, 0x0, false, 0xFFFF, 0x0, .none⟩,
    ⟨0x8C, 4, 1, .ro, false, 0x10000, false, 0x0, 0x0, .none⟩,
    ⟨0x90, 4, 1, .ro, false, 0x0, false, 0x0, 0x0, .none⟩,
    ⟨0x94, 4, 1, .ro, false, 0x0, false, 0x0, 0x0, .none⟩,
    ⟨0x98, 4, 1, .ro, false, 0x0, false, 0x0, 0x0, .none⟩,
    ⟨0x9C, 4, 1, .ro, false, 0x0, false, 0x0, 0x0, .none⟩,
    ⟨0xA0, 4, 1, .ro, false, 0x0, false, 0x0, 0x0, .none⟩,
    ⟨0xA4, 4, 1, .ro, false, 0x0, false, 0x0, 0x0, .none⟩,
    ⟨0xA8, 4, 1, .ro, false, 0x0, false, 0x0, 0x0, .none⟩,
    ⟨0xAC, 4, 1, .ro, false, 0x0, false, 0x0, 0x0, .lo⟩,
    ⟨0xB0, 4, 1, .ro, false, 0x0, false, 0x0, 0x0, .hi⟩,
    ⟨0x100, 4, 1, .rw, false, 0x1C, false, 0x3F1F, 0x0, .none⟩,
    ⟨0x104, 4, 1, .wo, false, 0x0, false, 0x3, 0x0, .none⟩,
    ⟨0x108, 4, 1, .ro, false, 0x0, false, 0x0, 0x0, .none⟩,
    ⟨0x10C, 4, 1, .ro, false, 0x0, false, 0x0, 0x0, .none⟩,
    ⟨0x110, 4, 1, .ro, false, 0x0, false, 0x0, 0x0, .none⟩ ]

/-- Register rows of the LDC page, part 2. -/
def rowsLDC2 : List RegRow :=
  [ ⟨0x114, 4, 1, .rw, false, 0x0, false, 0xFFFFFFFF, 0x0, .none⟩,
    ⟨0x118, 4, 1, .rw, false, 0x640000, false, 0xFFFFFFFF, 0x0, .none⟩,
    ⟨0x11C, 4, 1, .rw, false, 0x20C49C, false, 0xFFFFFFFF, 0x0, .none⟩,
    ⟨0x120, 4, 1, .rw, false, 0x147AE14, false, 0xFFFFFFFF, 0x0, .none⟩,
    ⟨0x124, 4, 1, .rw, false, 0xFAE10CCD, false, 0xFFFFFFFF, 0x0, .none⟩,
    ⟨0x128, 4, 1, .rw, false, 0x40008000, false, 0xFFFFFFFF, 0x0, .none⟩,
    ⟨0x12C, 4, 1, .rw, false, 0x40264, false, 0xFF0FFF, 0x0, .none⟩,
    ⟨0x130, 4, 1, .rw, false, 0x21860, false, 0xFFFFF, 0x0, .none⟩,
    ⟨0x134, 4, 1, .rw, false, 0x320000, false, 0xFFFFFFFF, 0x0, .none⟩,
    ⟨0x138, 4, 1, .rw, false, 0x3E80014, false, 0xFFFF00FF, 0x0, .none⟩,
    ⟨0x13C, 4, 1, .rw, false, 0x140000, false, 0xFFFFFFFF, 0x0, .none⟩,
    ⟨0x140, 4, 1, .rw, false, 0x50000, false, 0xFFFFFFFF, 0x0, .none⟩,
    ⟨0x144, 4, 1, .rw, false, 0xD1432, false, 0xFFFFFF, 0x0, .none⟩,
    ⟨0x148, 4, 1, .rw, false, 0x20000, false, 0xFFFFFFFF, 0x0, .none⟩,
    ⟨0x14C, 4, 6, .ro, false, 0x0, false, 0x0, 0x0, .none⟩,
    ⟨0x164, 4, 1, .rw, false, 0xCCD00C8, false, 0xFFFFFFFF, 0x0, .none⟩ ]

/-- Register rows of the LDC page, part 3. -/
def rowsLDC3 : List RegRow :=
  [ ⟨0x168, 4, 1, .rw, false, 0x20000, false, 0xFFFFFFFF, 0x0, .none⟩,
    ⟨0x16C, 4, 1, .rw, false, 0x640000, false, 0xFFFFFFFF, 0x0, .none⟩,
    ⟨0x170, 4, 1, .rw, false, 0x1E0000, false, 0xFFFFFFFF, 0x0, .none⟩,
    ⟨0x174, 4, 1, .rw, false, 0x199A0CCD, false, 0xFFFFFFFF, 0x0, .none⟩,
    ⟨0x178, 4, 1, .rw, false, 0x7D02006, false, 0xFFFFFF0F, 0x0, .none⟩,
    ⟨0x17C, 4, 1, .rw, false, 0x0, false, 0xFFFFFFFF, 0x0, .none⟩,
    ⟨0x180, 4, 1, .rw, false, 0x64, false, 0xFFFF, 0x0, .none⟩,
    ⟨0x184, 4, 1, .rw, false, 0x64, false, 0xFFFF, 0x0, .none⟩,
    ⟨0x188, 4, 1, .rw, false, 0x0, false, 0xFFFFFFFF, 0x0, .none⟩,
    ⟨0x18C, 4, 1, .ro, false, 0x0, false, 0x0, 0x0, .none⟩,
    ⟨0x190, 4, 1, .rw, false, 0xE818EF, false, 0xFFFFFF, 0x0, .none⟩,
    ⟨0x194, 4, 1, .ro, false, 0x3415555, false, 0x0, 0x0, .none⟩,
    ⟨0x198, 4, 1, .ro, false, 0x0, false, 0x0, 0x0, .none⟩ ]

/-- The register rows of the LDC page. -/
def rowsLDC : List RegRow := rowsLDC0 ++ rowsLDC1 ++ rowsLDC2 ++ rowsLDC3

/-- Register rows of the GDV page, part 0. -/
def rowsGDV0 : List RegRow :=
  [ ⟨0x40, 4, 1, .rw, false, 0x0, false, 0x1, 0x0, .none⟩,
    ⟨0x44, 4, 1, .rw, false, 0xFFFF, false, 0xFFFF, 0x0, .none⟩,
    ⟨0x48, 4, 1, .rw, false, 0x8504, false, 0xFF1F, 0x0, .none⟩,
    ⟨0x4C, 4, 1, .rw, false, 0x43, false, 0x1F7, 0x0, .none⟩,
    ⟨0x50, 4, 1, .rw, false, 0x0, false, 0xFF, 0x0, .none⟩,
    ⟨0x54, 4, 1, .rw, false, 0x32, false, 0xFF, 0x0, .none⟩,
    ⟨0x58, 4, 1, .ro, false, 0x0, false, 0x0, 0x0, .none⟩,
    ⟨0x5C, 4, 1, .ro, false, 0x0, false, 0x0, 0x0, .none⟩,
    ⟨0x60, 4, 1, .wo, false, 0x0, false, 0x1, 0x0, .none⟩,
    ⟨0x64, 4, 1, .ro, false, 0x0, false, 0x0, 0x0, .none⟩,
    ⟨0x68, 8, 4, .ro, false, 0x0, false, 0x0, 0x0, .none⟩,
    ⟨0x6C, 8, 4, .ro, false, 0x0, false, 0x0, 0x0, .none⟩,
    ⟨0x88, 4, 1, .rw, false, 0x0, false, 0xFFFFFFFF, 0x0, .none⟩,
    ⟨0x8C, 4, 1, .ro, false, 0x0, false, 0x0, 0x0, .none⟩,
    ⟨0x90, 4, 1, .rw, false, 0x0, false, 0x77, 0x0, .none⟩,
    ⟨0x94, 4, 1, .rw, false, 0x0, false, 0x8000003F, 0x0, .none⟩ ]

/-- Register rows of the GDV page, part 1. -/
def rowsGDV1 : List RegRow :=
  [ ⟨0xC0, 4, 8, .rw, false, 0x0, false, 0x7FF, 0x0, .none⟩ ]

/-- The register rows of the GDV page. -/
def rowsGDV : List RegRow := rowsGDV0 ++ rowsGDV1

/-- Register rows of the FBP page, part 0. -/
def rowsFBP0 : List RegRow :=
  [ ⟨0x40, 4, 1, .rw, true, 0x400, false, 0xF7F, 0x0, .none⟩,
    ⟨0x44, 4, 1, .ro, false, 0x0, false, 0x0, 0x0, .none⟩,
    ⟨0x48, 4, 1, .wo, false, 0x0, false, 0x7, 0x0, .none⟩,
    ⟨0x4C, 4, 1, .rw, true, 0x2710, false, 0xFFFFFFFF, 0x0, .none⟩,
    ⟨0x50, 4, 1, .rw, true, 0x0, false, 0x7F, 0x0, .none⟩,
    ⟨0x54, 4, 1, .ro, false, 0x0, false, 0x0, 0x0, .none⟩,
    ⟨0x58, 4, 1, .ro, false, 0x0, false, 0x0, 0x0, .lo⟩,
    ⟨0x5C, 4, 1, .ro, false, 0x0, false, 0x0, 0x0, .hi⟩,
    ⟨0x60, 4, 1, .ro, false, 0x0, false, 0x0, 0x0, .none⟩,
    ⟨0x64, 4, 1, .ro, false, 0x0, false, 0x0, 0x0, .lo⟩,
    ⟨0x68, 4, 1, .ro, false, 0x0, false, 0x0, 0x0, .hi⟩,
    ⟨0x6C, 4, 1, .rw, false, 0x304, false, 0x1FFF, 0x0, .none⟩,
    ⟨0x70, 4, 1, .rw, false, 0x0, false, 0xFFFFFFFF, 0x0, .none⟩,
    ⟨0x74, 4, 1, .ro, false, 0x0, false, 0x0, 0x0, .none⟩,
    ⟨0x78, 4, 1, .rw, false, 0x0, false, 0xFFFFFFFF, 0x0, .none⟩,
    ⟨0x7C, 4, 1, .rw, false, 0x4, false, 0xFFFF, 0x0, .none⟩ ]

/-- Register rows of the FBP page, part 1. -/
def rowsFBP1 : List RegRow :=
  [ ⟨0x80, 4, 1, .rw, true, 0x200018D, false, 0xF0FFFFF, 0x0, .none⟩,
    ⟨0x84, 4, 1, .rw, true, 0x5063, false, 0xFFFFFFFF, 0x0, .none⟩,
    ⟨0x88, 4, 1, .rw, false, 0x0, false, 0xFFFFFF, 0x0, .none⟩,
    ⟨0x8C, 4, 1, .rw, false, 0x3D090, false, 0xFFFFFF, 0x0, .none⟩,
    ⟨0x90, 4, 1, .rw, false, 0x0, false, 0xFFFF, 0x0, .none⟩,
    ⟨0x94, 4, 1, .rw, false, 0x0, false, 0xFFFF, 0x0, .none⟩,
    ⟨0x98, 4, 1, .ro, false, 0x0, false, 0x0, 0x0, .lo⟩,
    ⟨0x9C, 4, 1, .ro, false, 0x0, false, 0x0, 0x0, .hi⟩,
    ⟨0xA0, 4, 1, .rw, false, 0x1C, false, 0x1F, 0x0, .none⟩,
    ⟨0xA4, 4, 1, .rw, false, 0x0, false, 0xFFFFFFFF, 0x0, .none⟩,
    ⟨0xA8, 4, 1, .rw, false, 0x8000, false, 0xFFFF, 0x0, .none⟩,
    ⟨0xAC, 4, 1, .ro, false, 0x0, false, 0x0, 0x0, .none⟩,
    ⟨0xB0, 4, 1, .rw, true, 0x101, false, 0x7FF, 0x0, .none⟩,
    ⟨0xB4, 4, 1, .ro, false, 0x0, false, 0x0, 0x0, .none⟩,
    ⟨0xB8, 4, 1, .rw, false, 0x282710, false, 0x3FFFFF, 0x0, .none⟩,
    ⟨0xBC, 4, 1, .rw, false, 0xA, false, 0xFF, 0x0, .none⟩ ]

/-- Register rows of the FBP page, part 2. -/
def rowsFBP2 : List RegRow :=
  [ ⟨0xC0, 4, 1, .ro, false, 0x0, false, 0x0, 0x0, .none⟩,
    ⟨0xC4, 4, 1, .rw, false, 0x3, false, 0x7, 0x0, .none⟩ ]

/-- The register rows of the FBP page. -/
def rowsFBP : List RegRow := rowsFBP0 ++ rowsFBP1 ++ rowsFBP2

/-- Register rows of the EMU page. -/
def rowsEMU : List RegRow :=
  [ ⟨0x40, 4, 1, .rw, true, 0x0, false, 0xFF7, 0x0, .none⟩,
    ⟨0x44, 4, 1, .rw, true, 0x400, false, 0x1FFFFF, 0x0, .none⟩,
    ⟨0x48, 4, 1, .rw, true, 0x0, false, 0xFFFFFFFF, 0x0, .none⟩,
    ⟨0x4C, 4, 1, .rw, false, 0x190, false, 0xFFFF, 0x0, .none⟩,
    ⟨0x50, 4, 1, .ro, false, 0x0, false, 0x0, 0x0, .none⟩,
    ⟨0x54, 4, 1, .ro, false, 0x0, false, 0x0, 0x0, .none⟩,
    ⟨0x58, 4, 1, .rw, false, 0x40, false, 0xFFFF, 0x0, .none⟩ ]

/-- Register rows of the FRB page, part 0. -/
def rowsFRB0 : List RegRow :=
  [ ⟨0x40, 4, 1, .rw, false, 0x0, false, 0x1, 0x0, .none⟩,
    ⟨0x44, 4, 1, .ro, false, 0x0, false, 0x0, 0x0, .none⟩,
    ⟨0x48, 4, 1, .ro, false, 0xFFFFFFFF, false, 0x0, 0x0, .none⟩,
    ⟨0x4C, 4, 1, .rw, false, 0x0, true, 0xFFFF, 0x0, .none⟩,
    ⟨0x50, 4, 1, .ro, false, 0x0, false, 0x0, 0x0, .none⟩,
    ⟨0x54, 4, 1, .rw, false, 0x0, false, 0xFFFFFFFF, 0x0, .none⟩,
    ⟨0x58, 4, 1, .rw, false, 0x0, false, 0xFFFFF, 0x0, .none⟩,
    ⟨0x5C, 4, 1, .rw, false, 0x0, false, 0xFFFFFF, 0x0, .none⟩,
    ⟨0x60, 4, 1, .rw, false, 0x0, false, 0xFFFF, 0x0, .none⟩,
    ⟨0x80, 4, 8, .rw, false, 0x640000, true, 0xFFFF0007, 0x0, .none⟩,
    ⟨0xA0, 4, 8, .rw, false, 0x0, false, 0xFFFF, 0x0, .none⟩,
    ⟨0xC0, 4, 8, .ro, false, 0x80, false, 0x0, 0x0, .none⟩,
    ⟨0x100, 4, 1, .rw, false, 0x0, true, 0x1F1F01, 0x0, .none⟩,
    ⟨0x104, 4, 1, .ro, false, 0x0, false, 0x0, 0x0, .none⟩,
    ⟨0x108, 4, 1, .rw, false, 0x3D090, true, 0x3FFFFF, 0x0, .none⟩,
    ⟨0x10C, 4, 1, .rw, false, 0x200220, true, 0x7F0F3F, 0x0, .none⟩ ]

/-- Register rows of the FRB page, part 1. -/
def rowsFRB1 : List RegRow :=
  [ ⟨0x110, 4, 1, .ro, false, 0x0, false, 0x0, 0x0, .none⟩,
    ⟨0x114, 4, 1, .ro, false, 0x0, false, 0x0, 0x0, .none⟩,
    ⟨0x118, 4, 1, .ro, false, 0xFF00, false, 0x0, 0x0, .none⟩,
    ⟨0x11C, 4, 1, .rw, false, 0x27E0000, true, 0xFFFFFFFF, 0x0, .none⟩,
    ⟨0x120, 4, 1, .ro, false, 0x0, false, 0x0, 0x0, .none⟩,
    ⟨0x124, 4, 1, .rw, false, 0x0, true, 0x7F7F, 0x0, .none⟩,
    ⟨0x128, 4, 1, .rw, false, 0x0, false, 0xFFFFFFFF, 0x0, .none⟩,
    ⟨0x12C, 4, 1, .rw, false, 0x0, false, 0x107, 0x0, .none⟩,
    ⟨0x130, 4, 1, .rw, false, 0x0, false, 0x171F03FF, 0x0, .none⟩,
    ⟨0x800, 4, 32, .rw, false, 0x0, false, 0xFFFFFFFF, 0x0, .none⟩,
    ⟨0xA00, 4, 128, .rw, false, 0x0, false, 0xFFFFFFFF, 0x0, .none⟩ ]

/-- The register rows of the FRB page. -/
def rowsFRB : List RegRow := rowsFRB0 ++ rowsFRB1

/-- Register rows of the XLK page. -/
def rowsXLK : List RegRow :=
  [ ⟨0x40, 4, 1, .rw, false, 0x7D0400, true, 0xFFFF0F07, 0x0, .none⟩,
    ⟨0x44, 4, 1, .ro, false, 0x0, false, 0x0, 0x0, .none⟩,
    ⟨0x48, 4, 1, .wo, false, 0x0, false, 0x7, 0x0, .none⟩,
    ⟨0x4C, 4, 1, .rw, false, 0x0, true, 0xFFFFFFFF, 0x0, .lo⟩,
    ⟨0x50, 4, 1, .rw, false, 0x0, true, 0xFFFFFFFF, 0x0, .hi⟩,
    ⟨0x54, 4, 1, .ro, false, 0xFFFFFFFF, false, 0x0, 0x0, .none⟩,
    ⟨0x58, 4, 1, .rw, false, 0x30D40, true, 0xFFFFFF, 0x0, .none⟩,
    ⟨0x5C, 4, 1, .rw, false, 0x0, false, 0xFFFFFFFF, 0x0, .none⟩,
    ⟨0x60, 4, 1, .ro, false, 0x0, false, 0x0, 0x0, .none⟩,
    ⟨0x64, 4, 1, .ro, false, 0x0, true, 0x0, 0x0, .lo⟩,
    ⟨0x68, 4, 1, .ro, false, 0x0, true, 0x0, 0x0, .hi⟩,
    ⟨0x6C, 4, 1, .ro, false, 0x0, false, 0x0, 0x0, .none⟩,
    ⟨0x70, 4, 1, .rw, false, 0x0, false, 0xFFFFF, 0x0, .none⟩,
    ⟨0x74, 4, 1, .rw, false, 0x0, false, 0xFFFFFF, 0x0, .none⟩,
    ⟨0x78, 4, 1, .rw, false, 0x0, false, 0xFFFF, 0x0, .none⟩ ]

/-- Register rows of the LPU page, part 0. -/
def rowsLPU0 : List RegRow :=
  [ ⟨0x40, 4, 1, .ro, false, 0x0, true, 0x0, 0x0, .none⟩,
    ⟨0x44, 4, 1, .ro, false, 0x0, false, 0x0, 0x0, .none⟩,
    ⟨0x48, 4, 1, .ro, false, 0x0, false, 0x0, 0x0, .none⟩,
    ⟨0x4C, 4, 1, .rw, false, 0x0, false, 0xFFFFFFFF, 0x0, .none⟩,
    ⟨0x50, 4, 1, .rw, false, 0x0, false, 0xFFFFFFFF, 0x0, .none⟩,
    ⟨0x54, 4, 1, .ro, false, 0x0, false, 0x0, 0x0, .none⟩,
    ⟨0x58, 4, 1, .ro, false, 0x0, true, 0x0, 0x0, .none⟩,
    ⟨0x5C, 4, 1, .rws, false, 0x0, true, 0xFFFFFFFF, 0x0, .none⟩,
    ⟨0x60, 4, 1, .ro, false, 0x0, true, 0x0, 0x0, .lo⟩,
    ⟨0x64, 4, 1, .ro, false, 0x0, true, 0x0, 0x0, .hi⟩,
    ⟨0x80, 4, 8, .rw, true, 0x0, true, 0xFFBF, 0x0, .none⟩,
    ⟨0x100, 4, 4, .rw, false, 0x0, false, 0xFFFF, 0x0, .none⟩,
    ⟨0x200, 4, 1, .rw, false, 0x271001, true, 0xFFFFFF01, 0x0, .none⟩,
    ⟨0x204, 4, 1, .wo, false, 0x0, false, 0x3, 0x0, .none⟩,
    ⟨0x208, 4, 1, .ro, false, 0xF08, false, 0x0, 0x0, .none⟩,
    ⟨0x20C, 4, 1, .rw, false, 0x0, false, 0x1FF, 0x0, .none⟩ ]

/-- Register rows of the LPU page, part 1. -/
def rowsLPU1 : List RegRow :=
  [ ⟨0x210, 4, 1, .rw, false, 0x0, false, 0x1FF, 0x0, .none⟩,
    ⟨0x214, 4, 1, .ro, false, 0x0, false, 0x0, 0x0, .none⟩,
    ⟨0x218, 4, 1, .rws, false, 0x0, true, 0x1FF, 0x0, .none⟩,
    ⟨0x21C, 4, 1, .rw, false, 0x0, false, 0xFFFFFFFF, 0x0, .none⟩,
    ⟨0x220, 4, 1, .rw, false, 0x340, false, 0x777, 0x0, .none⟩,
    ⟨0x224, 4, 1, .rw, false, 0x0, false, 0xFFFFFFFF, 0x0, .none⟩,
    ⟨0x228, 4, 1, .ro, false, 0x0, false, 0x0, 0x0, .none⟩,
    ⟨0x230, 4, 4, .rw, false, 0x0, true, 0xFFFF0007, 0x0, .none⟩ ]

/-- The register rows of the LPU page. -/
def rowsLPU : List RegRow := rowsLPU0 ++ rowsLPU1

/-- The rows every page begins with (R590); INJ_CTL is added on the pages that have it. EVT_FORCE, PAGE_STAT and COMMIT have no stored value of their own here. -/
def rowsCommon : List RegRow :=
  [ ⟨0x000, 4, 1, .ro, false, 0, false, 0, 0, .none⟩,
    ⟨0x004, 4, 1, .rw, false, 1, false, 0, 0x2, .none⟩,
    ⟨0x008, 4, 1, .ro, false, 0, false, 0, 0, .none⟩,
    ⟨0x00C, 4, 1, .ro, false, 0, false, 0, 0, .none⟩,
    ⟨0x010, 4, 1, .w1c, false, 0, false, 0xFFFFFFFF, 0, .none⟩,
    ⟨0x014, 4, 1, .rw, false, 0, false, 0xFFFFFFFF, 0, .none⟩,
    ⟨0x018, 4, 1, .w1s, false, 0, false, 0, 0, .none⟩,
    ⟨0x01C, 4, 1, .rw, false, 0, false, 0, 0, .none⟩,
    ⟨0x020, 4, 1, .rw, false, 0, false, 0, 0, .none⟩,
    ⟨0x024, 4, 1, .rw, false, 0, false, 0, 0, .none⟩,
    ⟨0x028, 4, 1, .wo, false, 0, false, 0, 0, .none⟩ ]

/-- INJ_CTL, at common offset 0x02C of the pages with fault injection (R590); `mask` is the page's own field table. -/
def rowInj (mask : Nat) : RegRow := ⟨0x02C, 4, 1, .rwl, false, 0x10000, false, mask, 0, .none⟩

/-- The rows of a page: the common ones first (R590). -/
def pageRows : PageKind → List RegRow
  | .glb => rowsCommon ++ rowsGLB
  | .clk => rowsCommon ++ rowsCLK
  | .lcs => rowsCommon ++ rowsLCS
  | .apc => rowsCommon ++ rowsAPC
  | .evr => rowsCommon ++ rowsEVR
  | .thm => rowsCommon ++ rowsTHM
  | .age => rowsCommon ++ rowsAGE
  | .ltb => rowsCommon ++ rowsLTB
  | .asc => rowsCommon ++ rowsASC
  | .saf0 => rowsCommon ++ rowsSAF0
  | .saf1 => rowsCommon ++ rowsSAF1
  | .fio => rowsCommon ++ rowsFIO
  | .acq => rowsCommon ++ rowsACQ
  | .recorder => rowsCommon ++ rowsREC
  | .pci => rowsCommon ++ rowsPCI
  | .dma => rowsCommon ++ rowsDMA
  | .eth => rowsCommon ++ rowsETH
  | .drc => rowsCommon ++ rowsDRC
  | .mem => rowsCommon ++ rowsMEM
  | .can => rowsCommon ++ rowInj 0x80FFFF0F :: rowsCAN
  | .sil => rowsCommon ++ rowsSIL
  | .axl => rowsCommon ++ rowsAXL
  | .axp => rowsCommon ++ rowsAXP
  | .axg => rowsCommon ++ rowsAXG
  | .axc => rowsCommon ++ rowsAXC
  | .slk => rowsCommon ++ rowInj 0x80FFFF1F :: rowsSLK
  | .ldc => rowsCommon ++ rowsLDC
  | .gdv => rowsCommon ++ rowsGDV
  | .fbp => rowsCommon ++ rowsFBP
  | .emu => rowsCommon ++ rowsEMU
  | .frb => rowsCommon ++ rowInj 0x80FFFF7F :: rowsFRB
  | .xlk => rowsCommon ++ rowInj 0x80FFFF7F :: rowsXLK
  | .lpu => rowsCommon ++ rowsLPU

end Sys2Proof.Machine
end

