-- ==== Sys2Proof/Machine/Tab.lean ====
section
/-! DEFINITION. Sparse tables: a list of key and value pairs. A key that is not listed has the table's default, which the reader supplies. -/

namespace Sys2Proof.Machine

/-- A sparse table keyed by a number (a register address, a slot, a link, a silo). -/
abbrev Tab (α : Type) := List (Nat × α)

/-- The value listed under key `k`, or the default `d`. -/
def tabGet {α : Type} (d : α) (k : Nat) : Tab α → α
  | [] => d
  | (k', v) :: t => if k = k' then v else tabGet d k t

/-- Whether key `k` is listed. -/
def tabHas {α : Type} (k : Nat) : Tab α → Bool
  | [] => false
  | (k', _) :: t => k == k' || tabHas k t

/-- The table with value `v` under key `k`, keys kept in rising order. -/
def tabSet {α : Type} (k : Nat) (v : α) : Tab α → Tab α
  | [] => [(k, v)]
  | (k', v') :: t =>
    if k < k' then (k, v) :: (k', v') :: t
    else if k = k' then (k, v) :: t
    else (k', v') :: tabSet k v t

/-- The table without the keys that `p` holds of. -/
def tabDrop {α : Type} (p : Nat → Bool) (t : Tab α) : Tab α := t.filter fun kv => !p kv.1

/-- The keys of the table rise strictly. -/
def tabWf {α : Type} : Tab α → Bool
  | [] => true
  | [_] => true
  | (k, _) :: (k', v') :: t => decide (k < k') && tabWf ((k', v') :: t)

end Sys2Proof.Machine
end

