-- ==== Sys2Proof/Machine/State.lean ====
section
/-! DEFINITION. The state of the device as plain data, and the state right after a cold reset. -/

namespace Sys2Proof.Machine

/-- The faults that end a run. There is none: the spec records every refused access in ERR_CAP and goes on (R596), so no command of this block stops it. -/
inductive Fault where
deriving DecidableEq, Repr

/-- The refusals. -/
inductive Refusal where
  /-- No meaning for the command yet: raised by an arm of `exec` alone. Safe: nothing can be proved of what the command does. -/
  | notModelled (mnemonic : String)
deriving DecidableEq, Repr

/-- A pending set of a page: the copied shadow values, the sequence number and the due point (R598, R599). -/
structure Commit where
  page : Nat
  seq : Nat
  vals : Tab W32
  due : CommitDue
deriving DecidableEq, Repr

/-- A posted write to the field die that has not taken effect (R8, R9). -/
structure Posted where
  req : Nat
  addr : Nat
  val : W32
  issued : Nat
  /-- for a COMMIT_AT: its target, resolved at the write (R599) -/
  due : Option CommitDue
deriving DecidableEq, Repr

/-- A hardware action waiting in the router's queue (R483). -/
structure RouterAct where
  src : Nat
  target : Nat
  arg : Nat
  time : Nat
deriving DecidableEq, Repr

/-- A read of an empty silo that waits for an entry (R491). -/
structure Stalled where
  req : Nat
  word : Nat
  count : Nat
  since : Nat
deriving DecidableEq, Repr

/-- One silo: its four pointers modulo 2^16, the mark's validity, the staging buffer, the pop latch and the stalled reads (R487, R490, R491). -/
structure Silo where
  wr : Nat
  rdp : Nat
  rel : Nat
  mark : Nat
  staging : List W32
  latch : List W32
  stalled : List Stalled
deriving DecidableEq, Repr

/-- A silo at reset: empty, no mark (R486, R495). -/
def Silo.reset : Silo := ⟨0, 0, 0, 0, List.replicate 8 0, List.replicate 8 0, []⟩


/-! ### The event recorder -/

/-- A trigger: its sheaf (0xFF for a flush), cause, source and device time, with FLAGS and STAMP as they are at the trigger (R462, R464). -/
structure RecTrig where
  sheaf : Nat
  cause : Nat
  source : Nat
  time : Nat
  flags : Nat
  stamp : List Byte
deriving DecidableEq, Repr

/-- Where a record stands in the ring: its sequence, its ring offset, its length (R464). -/
structure RecEntry where
  seq : Nat
  ofs : Nat
  len : Nat
deriving DecidableEq, Repr

/-- A flush in progress: the block's granary offset, its cause, its records and the flags of its header (R467 to R472). -/
structure Flush where
  at0 : Nat
  cause : Nat
  recs : List RecEntry
  short : Bool
  pfail : Bool
  time : Nat
deriving DecidableEq, Repr

/-- The recorder: its trigger queue, the records that stand whole in the ring (oldest first), the flush in progress, the cause and the SEQ of the newest pending flush trigger (R468), whether a clear is in progress. -/
structure Recorder where
  queue : List RecTrig
  /-- flush triggers whose record waits for a sheaf triggered before them or in the same tick, oldest first (R463, R466) -/
  late : List RecTrig
  log : List RecEntry
  flush : Option Flush
  pendCause : Nat
  pendSeq : Nat
  clearing : Bool
deriving DecidableEq, Repr

/-- The recorder at reset (R470). -/
def Recorder.reset : Recorder := ⟨[], [], [], none, 0, 0, false⟩
/-! ### Axes, profiles and gears -/

/-- The axis states of R23. -/
inductive AxState where
  | off | ready | opened | closed | moving | following | stopping | fault
deriving DecidableEq, Repr

/-- The reaction classes, weakest first (R25). -/
inductive FaultClass where
  | note | hold | ramp | quick | torqueOff | safe
deriving DecidableEq, Repr

/-- The fault sources whose condition can block an acknowledge (R642). -/
inductive FaultCause where
  | frameLoss | stageTrip | stagePos | feedback | localProt | lpuBusy | safe | bridge
deriving DecidableEq, Repr

/-- What the profile engine does with an axis that is not FOLLOWING (R126 to R147). -/
inductive MoveKind where
  /-- no motion command active -/
  | idle
  /-- point-to-point (MODE 0 and 1) -/
  | ptp
  /-- velocity move (MODE 2) -/
  | vel
  /-- velocity move that stops exactly at a soft limit (R143) -/
  | velLimit
  /-- stream (MODE 3) -/
  | stream
  /-- stop of starvation or of an invalid segment; at rest it is phase HOLD (R139, R140) -/
  | starve
  /-- return to the end of the last completed segment (R141) -/
  | resume
  /-- homing (MODE 4) -/
  | home
  /-- stop that ends in CLOSED: command STOP, reaction HOLD or a disengage -/
  | stop
  /-- stop of reaction RAMP, ends in FAULT with the loops closed -/
  | ramp
  /-- stop of reaction QUICK, ends in FAULT with the PWM off -/
  | quick
deriving DecidableEq, Repr

/-- A segment entry of a stream (R137). -/
structure Segment where
  pos : Int
  vel : Int
  durVmax : Nat
  acc : Nat
  dec : Nat
  kind : Nat
  rel : Bool
  last : Bool
  mark : Bool
  reserved : Bool
  tag : W32
deriving DecidableEq, Repr

/-- The look-ahead of a stream: not read yet, read and valid, read and invalid (R136, R139). -/
inductive LookAhead where
  | absent
  | valid (g : Segment)
  | invalid
deriving DecidableEq, Repr

/-- One position sample of a feedback source: device time and position in units of 2^-64 turns. -/
structure PosSample where
  t : Nat
  p : Int
deriving DecidableEq, Repr

/-- The axis of one slot: its state, reaction and plan. -/
structure Axis where
  st : AxState
  /-- the strongest reaction in force -/
  react : Option FaultClass
  /-- the causes that can block an acknowledge (R642) -/
  causes : List FaultCause
  /-- switching on: the loops are closed and the PWM runs -/
  pwm : Bool
  /-- axis requests that wait for the next sample, oldest first: values of AXIS_CMD.CMD (R189) -/
  requests : List Nat
  kind : MoveKind
  plan : Plan
  /-- the limits the running plan uses (R133) -/
  lims : Limits
  /-- committed limits wait for the part of the plan after this one (R133) -/
  newLims : Option (Option Part)
  /-- DONE has been raised for the running velocity move (R129, R143) -/
  doneSent : Bool
  /-- the fixed end of a point-to-point plan, units of 2^-64 turns; the target velocity of a velocity move -/
  goal : Int
  /-- the commanded state at the last sample -/
  cmd : Kin
  /-- the two latest samples of the actual position (R90) -/
  act1 : PosSample
  act0 : PosSample
  /-- samples since the axis began to be sampled, at most 2 (R84) -/
  nSamples : Nat
  /-- the constant that homing has added to the actual position (R146) -/
  posOfs : Int
  /-- the running segment, the look-ahead, the end position of the last completed segment (R136, R141) -/
  seg : Option Segment
  look : LookAhead
  segEnd : Int
  /-- the instant from which the standstill conditions have held (R121) -/
  stillSince : Option Nat
  /-- homing: position at the start of the present search, the direction, the time since which a hard stop is seen, the reference event's position (R144 to R147) -/
  homeFrom : Int
  homeEdge : Option Int
  homeHard : Option Nat
  /-- homing: the indexes of step 3 of SWITCH_INDEX, newest first; a field input's switch has been active in step 3 (R145) -/
  homeIdx : List (Nat × Int)
  homeSeen : Bool
  /-- the reaction RAMP of line loss, under which the axis stays coupled (R49, R113) -/
  lineRamp : Bool
  /-- the step generator: the next predicted step instant, the instant of the last pulse, the direction that the DIR pin has or is about to get, the device time of its last or coming edge (R149, R150) -/
  stepNext : Option Nat
  stepLast : Option Nat
  stepUp : Bool
  dirAt : Option Nat
  /-- the stall estimator's count of consecutive samples (R153) -/
  stallRun : Nat
deriving DecidableEq, Repr

/-- A plan at rest at 0. -/
def Plan.atRest : Plan := ⟨0, ⟨0, 0, 0⟩, .phases [], ⟨0, 0, 0⟩⟩

/-- An axis at reset: OFF, at rest at position 0 (R23, R155). -/
def Axis.reset : Axis :=
  { st := .off, react := none, causes := [], pwm := false, requests := [], kind := .idle, plan := Plan.atRest,
    lims := ⟨0, 0, 0, 0⟩, newLims := none, doneSent := false, goal := 0, cmd := ⟨0, 0, 0⟩, act1 := ⟨0, 0⟩, act0 := ⟨0, 0⟩, nSamples := 0, posOfs := 0,
    seg := none, look := .absent, segEnd := 0, stillSince := none, homeFrom := 0, homeEdge := none, homeHard := none, homeIdx := [], homeSeen := false,
    lineRamp := false, stepNext := none, stepLast := none, stepUp := true, dirAt := none, stallRun := 0 }

/-- GEAR_STAT.PHASE while a coupling is in force (R117). -/
inductive GearPhase where
  | idle | rampIn | sync | rampOut
deriving DecidableEq, Repr

/-- The law of a coupling: its GEAR_CTL, its ratio, its origin and offset in units of 2^-32, the cached cam descriptor (R91, R105). -/
structure GearLaw where
  ctl : W32
  num : Int
  den : Int
  org : Int
  ofs : Int
  table : Nat
  camBase : Nat
  camCount : Nat
  camLift : Int
deriving DecidableEq, Repr

/-- A law that nothing has engaged. -/
def GearLaw.none : GearLaw := ⟨0, 0, 1, 0, 0, 0, 0, 0, 0⟩

/-- A PHASE_MATCH or RAMP ramp in the master position: σ, m0, its distance, the slave's state and its derivatives at the start (R98, R101). -/
structure GearRamp where
  sigma : Int
  m0 : Int
  dist : Int
  s0 : Int
  d0 : Int
  dd0 : Int
deriving DecidableEq, Repr

/-- A correction or switch ramp: its amount, its distance, the master travel since it started (R108, R110). -/
structure TravelRamp where
  amount : Int
  dist : Int
  travel : Int
deriving DecidableEq, Repr

/-- The coupling of one slot. -/
structure Gear where
  phase : GearPhase
  law : GearLaw
  ramp : Option GearRamp
  /-- an engage that waits for its crossing: the law to engage, its mode, its crossing, its ramp distance, whether the master was below the crossing -/
  wait : Option (GearLaw × Nat × Int × Int × Bool)
  /-- a disengage that waits for its crossing: its mode, its crossing, its ramp distance, whether the master was below -/
  waitDis : Option (Nat × Int × Int × Bool)
  /-- completed registration corrections, units of 2^-32 master units -/
  phaseOfs : Int
  regRamps : List TravelRamp
  swRamps : List TravelRamp
  /-- the master position at the last evaluation -/
  lastM : Option Int
  /-- a STOP or STOP_AT disengage is in progress (R101) -/
  disengaging : Bool
deriving DecidableEq, Repr

/-- No coupling (R115). -/
def Gear.reset : Gear := ⟨.idle, GearLaw.none, none, none, none, 0, [], [], none, false⟩
/-! ### The line timebase -/

/-- A line state (t0, θ0, v0, a0, j0) of R44: device time in ticks, the rest in units of 2^-64 cy. -/
structure LineState where
  t : Nat
  k : Kin
  j : Int
deriving DecidableEq, Repr

/-- The line states of R39. -/
inductive VmgState where
  | stop | ramp | run | hold
deriving DecidableEq, Repr

/-- The commands of VMG_CMD (R65). -/
inductive VmgCmd where
  | start | stop | hold | resume | lineStop
deriving DecidableEq, Repr

/-- The line timebase. -/
structure Ltb where
  /-- the most recent line state -/
  line : LineState
  /-- the line state before it, with the slew of its time: what R44 evaluates at an instant before the most recent one -/
  prev : Option (LineState × Option (Int × Nat × Nat))
  /-- the generator's plan, for SRC 0 and for the own stop of a line loss -/
  plan : Option Plan
  vmg : VmgState
  /-- the ramp in progress ends in HOLD (R39) -/
  toHold : Bool
  /-- the stored target and the limits read by the last command (R40) -/
  target : Int
  lims : Limits
  /-- commands written since the last LTB step, oldest first (R41) -/
  cmds : List VmgCmd
  /-- the own stop after a line loss is in progress or done (R49, R52) -/
  ownStop : Bool
  /-- REJOIN has been written after a line loss (R52) -/
  rejoin : Bool
  /-- SRC 3 applied in STOP waits for the first valid state (R641) -/
  waitFirst : Bool
  /-- the last valid published state, and its STATE -/
  pub : Option LineState
  pubSt : Nat
  /-- the slew of R51: the difference to remove, its start, its length in ticks -/
  slew : Option (Int × Nat × Nat)
  /-- a register of the RTC_SET group has been written since the last COMMIT -/
  rtcDirty : Bool
  /-- the RTC base, in units of 0.25 ns (R58) -/
  rtcBase : Int
  /-- consecutive measurements below 1 ns (R54) -/
  discRun : Nat
  /-- a PTP measurement has been taken since MODE became 2 (R532) -/
  ptpSeen : Bool
  /-- the ring's device time that a waiting join steps to (R55, R56) -/
  joinTo : Option Nat
deriving DecidableEq, Repr

/-- The line at reset: STOP at angle 0, calendar time not set (R60, R62). -/
def Ltb.reset : Ltb :=
  { line := ⟨0, ⟨0, 0, 0⟩, 0⟩, prev := none, plan := none, vmg := .stop, toHold := false, target := 0, lims := ⟨0, 0, 0, 0⟩, cmds := [],
    ownStop := false, rejoin := false, waitFirst := false, pub := none, pubSt := 0, slew := none, rtcDirty := false, rtcBase := 0,
    discRun := 0, ptpSeen := false, joinTo := none }
/-! ### The angle scheduler and the fast pins -/

/-- An armed entry of the angle scheduler (R70 to R78): its lane, word 2 as it was armed, its firing slot and whether that will be late, whether it has been frozen, evaluated, observed, turned away by a full table, disarmed after its freeze; the distance to its target at the last evaluation, 2^-32 of the unit. -/
structure AscEnt where
  lane : Nat
  w2 : W32
  slot : Option Nat
  late : Bool
  frozen : Bool
  first : Bool
  obs : Bool
  full : Bool
  off : Bool
  dist : Option Int
deriving DecidableEq, Repr

/-- A latch input: the last timestamped edge and the count of selected edges since the pin was enabled (R83, R85). -/
structure FliPin where
  last : Option Nat
  seq : Nat
deriving DecidableEq, Repr

def FliPin.reset : FliPin := ⟨none, 0⟩

/-- A timestamped edge whose record waits for the later sample of its axis (R84): pin, falling edge, device time, line angle, its SEQ where EDGE selects it, the axis slot, whether the record goes to the silo. -/
structure FliRec where
  pin : Nat
  fall : Bool
  t : Nat
  line : Nat
  seq : Option Nat
  slot : Nat
  toSilo : Bool
deriving DecidableEq, Repr

/-- A latch window (R86, R87): the source's value at the last look in units of 2^-32 of its period, whether the present pass has an accepted mark; in MODE 1 the passes not yet judged: open, close, accepted. -/
structure LatWin where
  last : Option Int
  got : Bool
  passes : List (Nat × Option Nat × Bool)
deriving DecidableEq, Repr

def LatWin.reset : LatWin := ⟨none, false, []⟩

/-! ### Frames of the ring and crosslink lanes -/

/-- The records of the crosslink (R389). -/
inductive XlkRec where
  | write (addr : Nat) (bytes : List Byte)
  /-- the 4 µs instant of R390 beside the due point -/
  | commit (page seq : Nat) (due : CommitDue) (instant : Nat)
  | react (slot : Nat) (cls : FaultClass) (t : Nat)
  | token (epoch tsw : Nat)
  | ack (seq : Nat) (synced fit : Bool)
  /-- cycle number, T_n, the line's angle, velocity and acceleration, the summaries, the slots whose state blocks the frame carries -/
  | mirror (cycle t : Nat) (line : Int × Int × Int) (sums : List XlkSum) (blocks : List Nat)
deriving DecidableEq, Repr

/-- The records of the crosslink as they arrive (R389). -/
inductive XlkIn where
  | mirror (m : MirrorIn)
  | write (addr : Nat) (bytes : List Byte)
  | commit (page seq : Nat) (due : CommitDue) (instant : Nat)
  | react (slot : Nat) (cls : FaultClass)
  | token (epoch tsw : Nat)
  | ack (page seq : Nat) (synced fit : Bool)
deriving DecidableEq, Repr

/-- A frame of a ring or crosslink lane as it passes the fault injector (R360, R385); a broken frame is one without a byte record whose CRC no longer holds. -/
inductive LaneFrame where
  | cycle (bytes : List Byte)
  | msg (bytes : List Byte)
  | form (f : FormFrame)
  | sent (r : XlkRec)
  | peer (r : XlkIn)
  | broken
deriving DecidableEq, Repr

/-! ### Safety containers -/

/-- A safety container as a consumer follows it: its last valid SEQ, its watchdog in ticks and when it arrived (R422). -/
structure ContIn where
  seq : Option Nat
  wd : Nat
  at0 : Nat
  error : Bool
deriving DecidableEq, Repr

def ContIn.reset : ContIn := ⟨none, 0, 0, false⟩

/-! ### The ring -/

/-- A ring port, or the crosslink lane (port 2), beside its registers. Times of DLY sets are in units of 2^-8 tick. -/
structure RingPort where
  sync : Bool
  outAt : Option Nat
  inAt : Option Nat
  dlyAt : Option Nat
  /-- the last 16 hop measurements, newest first, ps (R361) -/
  delays : List Int
  /-- the arrival of the last cycle frame (R382) -/
  cycAt : Option Nat
  /-- message frames to send: channel, since when, the frame (R380) -/
  txq : List (Nat × Nat × List Byte)
  /-- for each channel: units sent, the peer's count of units freed, units held, units freed here (R381) -/
  sent : List Nat
  credit : List Nat
  held : List Nat
  freed : List Nat
  /-- fault injection: frames to pass, frames to affect, the frames held back (time 0: until the next one), silence until (R385) -/
  injSkip : Nat
  injLeft : Nat
  injHeld : List (Nat × LaneFrame)
  silentTo : Nat
  /-- the last frame sent and whether it ended in ABT: the model's output -/
  out : List Byte
  outAbt : Bool
deriving DecidableEq, Repr

/-- A port at reset. -/
def RingPort.reset : RingPort :=
  { sync := false, outAt := none, inAt := none, dlyAt := none, delays := [], cycAt := none, txq := [],
    sent := List.replicate 8 0, credit := List.replicate 8 0, held := List.replicate 8 0, freed := List.replicate 8 0,
    injSkip := 0, injLeft := 0, injHeld := [], silentTo := 0, out := [], outAbt := false }

/-- A ring safety entry as its consumer follows it: its container and the last SDATA (R424). -/
structure RingEntry where
  cont : ContIn
  data : Nat
deriving DecidableEq, Repr

/-- The ring node beside its registers. -/
structure Ring where
  /-- CYC_T announced by the cycle master, the next cycle instant and number where this node is the master (R363) -/
  cycT : Nat
  nextT : Nat
  nextN : Nat
  /-- the last valid cycle frame, the last measured offset in units of 2^-8 tick (R369, R374) -/
  frameAt : Nat
  lastOfs : Option Int
  /-- forming: since when no higher rank has been seen, not before, the own frame come back, the entry last written, the entry of the last own frame, the last FORM or START frame sent, T_0 of the START sent or received (R374) -/
  formSince : Nat
  formAt : Nat
  formBack : Option FormFrame
  myEntry : Option FormEntry
  ownEntry : Option FormEntry
  formOut : Option FormFrame
  startAt : Option Nat
  /-- NSLOT of the last cycle frame, 0 before the first (R365); the frame bits of MEMBERS in the last frame read; at the master the cycles each member has been absent (R376) -/
  nslot : Nat
  seen : Nat
  absent : Tab Nat
  /-- whether the last frame was turned back -/
  wrapped : Bool
  /-- the master: the line's writer in the last cycle, cycles without one, the area of the last frame (R372) -/
  writer : Option Nat
  noWriter : Nat
  area : List Byte
  /-- the line-state area of the last frame read, with its cycle number, until the follower takes it (R373) -/
  lineState : Option (Nat × List Byte)
  /-- the follower's own container connection of the line state -/
  lineCont : ContIn
  /-- SEQ of the line-state container and of the owned ring entries (R420) -/
  lineSeq : Nat
  entrySeq : Nat
  /-- ring safety entries as received (R424) -/
  entries : Tab RingEntry
  /-- the broadcast requests, oldest first, and the last broadcast received: ARM, FIRE, mask, T_ACT (R384) -/
  bcReq : List (Bool × Bool × Nat × Nat)
  bcast : Option (Bool × Bool × Nat × Nat)
  /-- message channels: receivers by 8 × source + channel (bytes expected, the message in progress, whether one is in progress), bytes sent by channel, complete messages (port, source, channel, bytes), segments left of software's message (R379, R383) -/
  rx : Tab (Nat × List Byte × Bool)
  txOfs : Tab Nat
  rxDone : List (Nat × Nat × Nat × List Byte)
  softLeft : Nat
deriving DecidableEq, Repr

/-- The ring at reset. -/
def Ring.reset : Ring :=
  { cycT := 250000, nextT := 0, nextN := 0, frameAt := 0, lastOfs := none, formSince := 0, formAt := 0, formBack := none, myEntry := none,
    ownEntry := none, formOut := none, startAt := none, nslot := 0, seen := 0, absent := [], wrapped := false, writer := none, noWriter := 0, area := [], lineState := none,
    lineCont := ContIn.reset, lineSeq := 0, entrySeq := 0, entries := [], bcReq := [], bcast := none, rx := [], txOfs := [], rxDone := [], softLeft := 0 }

/-! ### The redundant pair -/

/-- A mirrored commit before its 4 µs instant (R390). -/
structure XlkWait where
  page : Nat
  seq : Nat
  instant : Nat
  acked : Bool
deriving DecidableEq, Repr

/-- The crosslink beside its registers. -/
structure Xlk where
  /-- records sent: the model's output -/
  out : List XlkRec
  /-- the mirrored commits that have not reached their instant, oldest first -/
  waiting : List XlkWait
  /-- FIT of the last acknowledge sent, and of the last one received (R392, R393) -/
  sentFit : Bool
  gotFit : Bool
  /-- the epoch and the switch time of a TOKEN (R392) -/
  token : Option (Nat × Nat)
  /-- a copy of every region is in progress; the slots whose summary has agreed since it ended (R391) -/
  copying : Bool
  agreed : List Nat
  /-- the slots whose last summary disagreed (R391) -/
  diverged : List Nat
  /-- a standby fault since the last agreement (R391) -/
  standbyFault : Bool
  /-- pages whose commit the active device applied alone, until their slot is resynchronised (R390) -/
  late : List Nat
  /-- the rotation of state blocks: the slots that go first, and the slot after the last one sent (R389, R390) -/
  first : List Nat
  rotNext : Nat
  /-- reactions that a record starts at the next sample of their slot (R390) -/
  reacts : List (Nat × FaultClass)
  /-- arrival of the last valid frame (R393); cycle number and T_n of the last MIRROR frame -/
  rxAt : Nat
  cycle : Nat × Nat
  /-- a record of the peer is taking effect: what it writes is no software write -/
  applying : Bool
deriving DecidableEq, Repr

/-- The crosslink at reset. -/
def Xlk.reset : Xlk :=
  { out := [], waiting := [], sentFit := false, gotFit := false, token := none, copying := false, agreed := [], diverged := [], standbyFault := false,
    late := [], first := [], rotNext := 0, reacts := [], rxAt := 0, cycle := (0, 0), applying := false }

/-! ### Safety -/

/-- The causes that de-energise a group: the demands and faults of R415, a line loss (R49), an activation (R426), the peer of a redundant pair (R428). -/
inductive SafCause where
  | pair | remote | host | violation | disagree | partner | position | output | container | edm | halt | hardware | config | peer | line
deriving DecidableEq, Repr

/-- Whether a cause is a demand (R415). -/
def SafCause.demand : SafCause → Bool
  | .pair => true
  | .remote => true
  | .host => true
  | _ => false

/-- Whether a cause is a fault (R415). -/
def SafCause.isFault (c : SafCause) : Bool := !c.demand && decide (c ≠ .config)

/-- An STO group: whether channel A and channel B command it off, the causes found at the last evaluation, whether only demands have acted since it went off (R416), whether a fault has (R420), the last change of a command, an output that did not follow its command at the last check (R413). -/
structure StoGroup where
  offA : Bool
  offB : Bool
  causes : List SafCause
  onlyDemands : Bool
  faulted : Bool
  since : Nat
  outBad : Bool
  /-- the last test pulse of each output since the group was energised (R413) -/
  pulseA : Option Nat
  pulseB : Option Nat
deriving DecidableEq, Repr

/-- A group at reset: de-energised, waiting for a safety reset (R427). -/
def StoGroup.reset : StoGroup := ⟨true, true, [], false, false, 0, false, none, none⟩

/-- The group is energised only by both channels (R411, R412). -/
def StoGroup.off (x : StoGroup) : Bool := x.offA || x.offB

/-- One channel's view of one guarded axis: the last raw field, the safe position (units of 2^-32 turns) of the last cycles, newest first, the counts unwrapped so far, the safe velocity (units of 2^-32 turns/s), cycles without a valid field (R403), the extreme of SDI, whether its functions are active, the functions violated (R407, R408), standstill (R439). -/
structure SafAxis where
  raw : Option Int
  count : Int
  hist : List Int
  vel : Int
  missing : Nat
  ext : Int
  active : Bool
  viol : Nat
  still : Bool
deriving DecidableEq, Repr

/-- A channel's view at reset. -/
def SafAxis.reset : SafAxis := ⟨none, 0, [], 0, 0, 0, false, 0, false⟩

/-- An SS1 as one channel runs it: its start, the speed at its start, its cause (R410). -/
structure SafStop where
  t0 : Nat
  v0 : Int
  cause : SafCause
deriving DecidableEq, Repr

/-! ### Trigger and acquisition -/

/-- A capture unit beside its registers (R444 to R456). -/
structure AcqUnit where
  /-- a local ARM waits for the LTB step (R452) -/
  armWait : Bool
  /-- the next sample index; samples taken since arming (R447) -/
  idx : Nat
  /-- the last instant -/
  lastT : Option Nat
  /-- the run of dropped samples: its first index and its length (R450) -/
  gap : Option (Nat × Nat)
  /-- write and read positions since arming, not wrapped; the rows written, newest first, by position and length -/
  wr : Nat
  rdp : Nat
  rows : List (Nat × Nat)
  /-- the trigger instant whose trigger sample has not been taken (R453) -/
  fired : Option Nat
  /-- post-trigger samples counted -/
  post : Nat
  /-- the channel condition: whether the level is HIGH, since when, the last sample at or below TRIG_LO, whether x has risen above TRIG_LO since without a HIGH level, the last judged instant, when READY began (R455) -/
  high : Bool
  levelT : Nat
  lowT : Nat
  rising : Bool
  judgedT : Nat
  readyT : Option Nat
  /-- sample instants of CLK_SLOT since arming, and the last of them that is a sample instant of the unit and has not been taken (R446) -/
  clk : Nat
  due : Option Nat
deriving DecidableEq, Repr

/-- A unit at reset. -/
def AcqUnit.reset : AcqUnit :=
  { armWait := false, idx := 0, lastT := none, gap := none, wr := 0, rdp := 0, rows := [], fired := none, post := 0, high := false, levelT := 0,
    lowT := 0, rising := false, judgedT := 0, readyT := none, clk := 0, due := none }

/-- A group arm or fire that this node originated and that acts at T_ACT: whether it is an arm, its mask, T_ACT, the originating unit and instant (R454). -/
structure AcqAct where
  arm : Bool
  mask : Nat
  tAct : Nat
  unit : Nat
  orig : Nat
deriving DecidableEq, Repr

/-! ### Local drive channels -/

/-- A local drive channel: what its timer, drivers and commutation engine hold beside their registers. -/
structure Ldc where
  /-- the leg modes in force, a to c (R275) -/
  modes : List Nat
  /-- the duties in force, PWM units -/
  duties : List Nat
  /-- the timer runs (R277) -/
  running : Bool
  /-- switches on, switch 2x high side, 2x + 1 low side of leg x -/
  gates : Nat
  /-- turn-ons that wait for the end of dead time: switch and device time (R276) -/
  due : List (Nat × Nat)
  /-- the device time at which each switch last turned off, 0 for never (R295) -/
  offAt : List Nat
  /-- the end of step 1 of a protective turn-off (R292) -/
  softEnd : Option Nat
  /-- high sides whose low side has not ended its first on-time (R287) -/
  charge : List Bool
  /-- the end of the bootstrap precharge (R287) -/
  preEnd : Option Nat
  /-- a firing in the present period, consecutive periods with one (R302) -/
  cbcFired : Bool
  cbcRun : Nat
  /-- the field clock of the last detection (R294) -/
  detAt : Option Nat
  /-- the last eight measurements of leg x in direction d (0 falling, 1 rising), at index 2x + d, newest first (R283) -/
  meas : List (List Nat)
  /-- dead times in force, field clocks, same index -/
  dead : List Nat
  /-- the arrival of the pending set on the field die: device time, and whether it was late (R280) -/
  arrived : Option (Nat × Bool)
  /-- where a stopped timer's first period starts (R277) -/
  startAt : Option Nat
  /-- the mid-period reload of the present period has passed; duties at the start of this period and from its end on (R281) -/
  midDone : Bool
  duties0 : List Nat
  dutiesP : List Nat
  /-- switches held off until their next commanded turn-on edge (R286, R295, R302) -/
  held : Nat
  /-- the device time at which each switch last turned on (R290, R302) -/
  onAt : List Nat
  /-- the trip inputs that set the latches (R295) -/
  tripBy : Nat
  /-- the drive strength that each switch took at its last edge, a code of DRV_BAND (R285) -/
  drive : List Nat
  /-- the switches in step 1 of a protective turn-off (R292) -/
  softMask : Nat
  /-- sum and number of the transition measurements since the ageing block last took them, same index as `meas` (R507) -/
  sums : List (Nat × Nat)
  /-- the start of the present channel state -/
  since : Nat
  /-- the common duty as a fraction of PERIOD in units of 2^-32, the speed integrator, the ramped target in units of 2^-32 Hz (R325) -/
  duty : Int
  integ : Int
  target : Int
  /-- the instant of the last crossing, the last intervals in field clocks (newest first), crossings since the state began, their direction -/
  crossAt : Option Nat
  ints : List Nat
  crossings : Nat
  backward : Bool
  /-- the scheduled commutation; whether it is forced (R315, R324) -/
  comAt : Option Nat
  forced : Bool
  /-- good crossings in succession, steps without a crossing in succession, whether the present step has had its crossing (R324, R327) -/
  good : Nat
  missRun : Nat
  crossed : Bool
  /-- the instant of the last commutation (R312, R324) -/
  comLast : Nat
  /-- the last floating-phase sample before the sign change, the first after it and the samples on the new side: device time and mV with the expected slope positive (R314) -/
  zcPrev : Option (Nat × Int)
  zcFirst : Option (Nat × Int × Nat)
  /-- the previous electrical period's mean frequency, units of 2^-32 Hz (R327) -/
  lastMean : Option Int
  /-- the frequency of the open-loop start at its last commutation, units of 2^-32 Hz, since when (R324) -/
  startFreq : Int
  freqEnd : Int
  /-- the pulse of the initial position detection in progress and the rise times so far (R321) -/
  ipd : Option Nat
  ipdAt : Nat
  rises : List Nat
  /-- a re-catch waits until this time (R328) -/
  recatchAt : Option Nat
deriving DecidableEq, Repr

/-- A channel at reset: OFF, nothing on (R308, R329). -/
def Ldc.reset : Ldc :=
  { modes := [3, 3, 3], duties := [0, 0, 0], running := false, gates := 0, due := [], offAt := [0, 0, 0, 0, 0, 0], softEnd := none,
    charge := [true, true, true], preEnd := none, held := 0, onAt := [0, 0, 0, 0, 0, 0], softMask := 0, tripBy := 0, drive := [0, 0, 0, 0, 0, 0], sums := [(0, 0), (0, 0), (0, 0), (0, 0), (0, 0), (0, 0)], startAt := none, midDone := false,
    duties0 := [0, 0, 0], dutiesP := [0, 0, 0], comLast := 0, zcPrev := none, zcFirst := none, ipdAt := 0, cbcFired := false, cbcRun := 0, detAt := none, meas := [[], [], [], [], [], []],
    dead := [100, 100, 100, 100, 100, 100], arrived := none, since := 0, duty := 0, integ := 0, target := 0, crossAt := none, ints := [],
    crossings := 0, backward := false, comAt := none, forced := false, good := 0, missRun := 0, crossed := false, lastMean := none,
    startFreq := 0, freqEnd := 0, ipd := none, rises := [], recatchAt := none }

/-! ### Feedback ports -/

/-- A feedback port beside its registers. -/
structure Port where
  /-- the two latest samples of POS in units of 2^-64 turns, and whether there has been one (R336) -/
  new : PosSample
  old : PosSample
  sampled : Bool
  /-- the unwrapped count, the count at the latest sample in units of 2^-32, the field-die counter (R333, R335) -/
  count : Int
  at32 : Int
  countB : Int
  /-- the two latest serial readings, newest first: device time and count; the data word of the last one (R335, R336) -/
  reads : List (Nat × Int)
  raw : Option Nat
  /-- the extreme count in the present direction (R341) -/
  turnAt : Int
  /-- the last Hall code, 8 before the first; consecutive bad changes (R347, R348) -/
  hall : Nat
  hallRun : Nat
  /-- a serial transaction in progress: the time its reading will stand for (R336) -/
  serial : Option Nat
  /-- the first falling edge of the latest transaction (R336) -/
  serAt : Option Nat
  /-- consecutive invalid readings (R348) -/
  serErr : Nat
  /-- the LTB step of the last quadrature error and consecutive LTB steps with one (R348) -/
  quadAt : Nat
  quadRun : Nat
  /-- a resolver calibration in progress (R346) -/
  calRun : Bool
  /-- SC_AMP holds a radius (R345) -/
  ampSeen : Bool
  /-- the next index sets IDX_REF; IDX_REF (R339) -/
  seekRef : Bool
  idxRef : Int
deriving DecidableEq, Repr

/-- A port at reset: no mode, no position. -/
def Port.reset : Port :=
  { new := ⟨0, 0⟩, old := ⟨0, 0⟩, sampled := false, count := 0, at32 := 0, countB := 0, reads := [], raw := none, turnAt := 0,
    hall := 8, hallRun := 0, serial := none, serAt := none, serErr := 0, quadAt := 0, quadRun := 0, calRun := false, ampSeen := false, seekRef := true, idxRef := 0 }

/-- An encoder emulation output (R349 to R352): the count emitted, the homing offset of the source at activation, the next edge and its direction, the instant of the last edge, the output levels A, B, Z in bits 0 to 2. -/
structure Emu where
  count : Int
  ofs : Int
  next : Option (Nat × Bool)
  last : Option Nat
  pins : Nat
deriving DecidableEq, Repr

/-- An output at reset. -/
def Emu.reset : Emu := ⟨0, 0, none, none, 0⟩

/-! ### Stage links -/

/-- One position field of a bridge as the GN6480 has received it: the raw POS of the last valid reading and its sample instant, the continuous position of that reading (R251), in units of 2^-64 turns once the identity has given POS_F (`scaled`), in counts before,
consecutive failures (R265), a fault that waits for a valid field (R642). -/
structure PosField where
  raw : Option Nat
  seenAt : Nat
  pos : Int
  scaled : Bool
  fails : Nat
  wait : Bool
deriving DecidableEq, Repr

def PosField.reset : PosField := ⟨none, 0, 0, false, 0, false⟩

/-- A stage link beside its registers. -/
structure Link where
  /-- sequence of the next downlink frame; SEQ and T_TX of those sent, newest first (R245, R247) -/
  dlSeq : Nat
  sent : List (Nat × Nat)
  /-- SEQ of the last accepted uplink frame (R254) -/
  ulSeq : Option Nat
  /-- the last 16 delay samples, newest first, in half ticks (R245) -/
  delays : List Int
  /-- commanded sample instants whose uplink frame has not arrived, oldest first: SEQ [7:0], the instant, whether it is the mid-period sample (R249, R255) -/
  waiting : List (Nat × Nat × Bool)
  /-- DOWN by loss of sync keeps the frame schedule (R243) -/
  schedule : Bool
  /-- CLR, IDENT_REQ wait for the next frame or message (R249, R264) -/
  clear : Bool
  /-- the next double-update frame is the second half (R247) -/
  second : Bool
  /-- field A of the two bridges -/
  posA : PosField × PosField
  /-- raw bytes of fields A and B of the two bridges as last received, and whether they are new since the last safety cycle (R399) -/
  fields : List (List Byte)
  fresh : Bool
  /-- the last sample blocks (signed 16-bit words) of the two bridges: the valley sample, and the two newest mid-period samples with their instants (R162) -/
  valley : List Int
  mid : List (Nat × List Int)
  /-- the blocks of the latest accepted frame (R445) -/
  blocks : List Int
  /-- downlink container sequence; the uplink container as followed by channels A and B (R422) -/
  contSeq : Nat
  cont : ContIn
  /-- consecutive uplink frames with FOLLOW 0 (R394) -/
  unfollowed : Nat
  /-- messages to send, the first in progress: whether software's, its bytes still to send; the next segment is the first (R263, R264) -/
  txQueue : List (Bool × List Byte)
  txFirst : Bool
  /-- message channel: bytes sent, credit units returned by the stage (R260, R261) -/
  txSent : Nat
  txCredit : Nat
  /-- bytes received, units freed, the message in progress, whether a message is in progress, complete messages waiting for the silo -/
  rxOfs : Nat
  rxFreed : Nat
  rxMsg : List Byte
  rxOpen : Bool
  rxDone : List (List Byte)
  /-- how many of the complete messages came before the channel was last reset: they return no credit (R261) -/
  rxOld : Nat
  /-- this run of missing frames has given its frame-loss fault (R265) -/
  lossHit : Bool
  /-- the sample instant and half of the last frame sent (R259) -/
  sentFor : Option (Nat × Bool)
  /-- the token has been taken at a crosslink loss: a frame leaves at once (R393) -/
  resend : Bool
  /-- frames still to pass and to affect by fault injection; the frames held back, by SWAP (0) or by DELAY until an instant (R270) -/
  injSkip : Nat
  injLeft : Nat
  injHeld : List (Nat × List Byte)
  /-- the last downlink frame sent: the model's own output -/
  lastDl : List Byte
deriving DecidableEq, Repr

/-- A link at reset: OFF (R271). -/
def Link.reset : Link :=
  { dlSeq := 0, sent := [], ulSeq := none, delays := [], waiting := [], schedule := false, clear := false, second := false,
    posA := (PosField.reset, PosField.reset), fields := [], fresh := false, valley := [], mid := [], blocks := [], contSeq := 0, cont := ContIn.reset, unfollowed := 0,
    txQueue := [], txFirst := true, txSent := 0, txCredit := 0, rxOfs := 0, rxFreed := 0, rxMsg := [], rxOpen := false, rxDone := [], rxOld := 0, lossHit := false, sentFor := none, resend := false,
    injSkip := 0, injLeft := 0, injHeld := [], lastDl := [] }

/-! ### Servo loops and loop processors -/

/-- What the loop program of a slot holds, and where the run of the present sample stands. Currents, voltages and velocities are in units of 2^-32 A, V and turns/s. -/
structure Servo where
  /-- the sample instant of the present run -/
  sampleT : Option Nat
  /-- the run is ready to start (R227); it has started; its result is ready from this time on (R192) -/
  ready : Bool
  started : Bool
  doneAt : Option Nat
  /-- the apply instant of this run has passed -/
  judged : Bool
  /-- consecutive misses since the apply instant moved (R195) -/
  late : Nat
  /-- the next run is the first since ENABLE (R164, R191) -/
  first : Bool
  /-- position of the previous sample, velocity estimate, integrators of velocity, d and q (R164 to R168) -/
  pPrev : Int
  vAct : Int
  iVel : Int
  iD : Int
  iQ : Int
  /-- x[-1], x[-2], y[-1], y[-2] of the four biquads, in units of 2^-32 A (R172) -/
  notch : List (List Int)
  /-- tracked coefficients b0, b1, b2, a1, a2 in Q2.30, runs since the last recomputation modulo 8 (R174) -/
  nf : List (List Int)
  nfRun : Nat
  /-- the filtered speed and current of gain scheduling (R181) -/
  spd : Int
  cur : Int
  /-- the coefficients in force, those a blend ends in, samples left of the blend (R182) -/
  coef : List Int
  coefTo : List Int
  blendLeft : Nat
  /-- the pending coefficient set has been converted (R185) -/
  converted : Bool
  /-- the duties of the last result and those being sent: phases a to c of the first half, then of the second, in units of 2^-32 (R171, R192) -/
  edges : List Nat
  sent : List Nat
  /-- IQ_EXT in force and a write that waits for the next sample instant (R198) -/
  iqExt : Int
  iqNew : Option W32
  /-- the currents of the previous sample and the filtered induced voltages of a stepper stage; the estimator sees a stall (R152, R153) -/
  iPrev : Int × Int
  emf : Int × Int
  stallNow : Bool
  /-- the |torque current| reached HOME_I.ITHR in the last run (R145) -/
  torqueNow : Bool
  /-- the repetitive-table command in progress: 1 SAVE, 2 LOAD, 3 CLEAR (R179) -/
  rcCmd : Nat
  /-- table words as they stood before the run in progress, and, in the copy kept of that time, the region (R193) -/
  rcUndo : List (Nat × Nat)
  regionAt : Nat
  /-- EXT_STALE stands (R198) -/
  stale : Bool
  /-- the duty of the last as-computed run, units of 2^-32 (R197, R325) -/
  duty : Int
deriving DecidableEq, Repr

/-- A slot whose loop has not run. -/
def Servo.reset : Servo :=
  { sampleT := none, ready := false, started := false, doneAt := none, judged := true, late := 0, first := true, pPrev := 0, vAct := 0,
    iVel := 0, iD := 0, iQ := 0, notch := List.replicate 4 [0, 0, 0, 0], nf := [], nfRun := 0, spd := 0, cur := 0, coef := [], coefTo := [],
    blendLeft := 0, converted := false, edges := [], sent := [], iqExt := 0, iqNew := none, iPrev := (0, 0), emf := (0, 0), stallNow := false,
    torqueNow := false, rcCmd := 0, rcUndo := [], regionAt := 0, stale := false, duty := 0 }

/-- One level of hardware loop (R209, R211): its bundles, its count, the iterations done, whether it rotates, its step and its depth. -/
structure LoopLvl where
  start : Nat
  stop : Nat
  count : Nat
  iter : Nat
  rot : Bool
  rstep : Nat
  sd : Nat
deriving DecidableEq, Repr

/-- What an operation of an LPU writes after its latency (R212). -/
inductive LReg where
  | d (k : Nat)
  | acc (b : Bool)
  | pl (b : Bool)
  /-- the flags N (value 2) and Z (value 1) -/
  | nz
deriving DecidableEq, Repr

/-- A result under way: the cycle in which it becomes visible, the cycle of its issue, its rank within its bundle, its register, its value (R212). -/
structure PendW where
  due : Nat
  iss : Nat
  pri : Nat
  reg : LReg
  val : Int
deriving DecidableEq, Repr

/-- The architectural state of a loop processor (R204) and the run in progress. -/
structure Lpu where
  d : List W32
  acc0 : Int
  acc1 : Int
  a : List Nat
  b : List Nat
  l : List Nat
  m : List Nat
  pl0 : W32
  pl1 : W32
  /-- innermost first -/
  loops : List LoopLvl
  pc : Nat
  n : Bool
  z : Bool
  v : Bool
  msh : Int
  blk : Bool
  bs : Int
  bexp : Nat
  grow : Bool
  stack : List Nat
  /-- how far the names of D48 to D63 have rotated (R211) -/
  rot : Nat
  /-- cycles issued, and a P-bus stall in the present bundle (R210) -/
  cyc : Nat
  stall : Bool
  pend : List PendW
  /-- the cycles from which ATAN2, RECIP and RSQRT accept their next issue (R215) -/
  fu : List Nat
  /-- the run of a user program: its slot position, its program, the cycle it began in; the device time of its start -/
  run : Option (Nat × Nat × Nat)
  runT : Nat
  /-- the LPU is halted by the debug unit (R233) -/
  halted : Bool
deriving DecidableEq, Repr

/-- An LPU after a reset: everything 0 (R204). -/
def Lpu.reset : Lpu :=
  { d := List.replicate 64 0, acc0 := 0, acc1 := 0, a := List.replicate 8 0, b := List.replicate 8 0, l := List.replicate 8 0,
    m := List.replicate 8 0, pl0 := 0, pl1 := 0, loops := [], pc := 0, n := false, z := false, v := false, msh := 0, blk := false, bs := 0,
    bexp := 0, grow := false, stack := [], rot := 0, cyc := 0, stall := false, pend := [], fu := [0, 0, 0], run := none, runT := 0, halted := false }

/-- The scheduler of the LPUs: requests queued oldest first (LPU, whether a calibration), when each LPU's last fallow ended, the start of the last rotation, the phase of the rotation in progress (positions still to move), the source and target of a migration, whether it is a failover, the groups each LPU carried before. -/
structure LpuSched where
  queue : List (Nat × Bool)
  lastFallow : Tab Nat
  lastRot : Nat
  /-- source, target, positions still to move, failover -/
  move : Option (Nat × Nat × List Nat × Bool)
  /-- positions of a failed LPU whose state cannot be read -/
  unreadable : List Nat
  /-- what the fallow of an LPU in progress serves: whether requests, whether among them a calibration (R230) -/
  fallowReq : Tab (Bool × Bool)
  /-- queued requests for which SPARE_BUSY has been raised (R230) -/
  warned : List (Nat × Bool)
  /-- directory entries of the library: identifier, entry, count, flags, worst case, state bytes, coefficient bytes (R222) -/
  lib : List (List Nat)
  /-- cycles each LPU has been busy since UTIL was last formed, and when that was (R235) -/
  busy : Tab Nat
  utilAt : Nat
deriving DecidableEq, Repr

/-- The scheduler at reset. -/
def LpuSched.reset : LpuSched := ⟨[], [], 0, none, [], [], [], [], [], 0⟩

/-! ### Ageing -/

/-- The ageing block beside its registers: the offset of the next ledger record (R513), the references of each class, the latest means of the transitions by channel and leg and direction (ps), the shunt offsets of the day, the worst eye in % UI and its reference, the tally of MRAM blocks (R512), the daily margins newest first with their operating hours (R508), corrected blocks of the day. -/
structure Age where
  next : Nat
  slackRef : Nat
  transRef : Tab Int
  transNow : Tab Int
  shuntLo : Tab Int
  shuntHi : Tab Int
  eyes : Tab Nat
  eyeRef : Nat
  refErr : Int
  tally : Tab Nat
  daily : List (Nat × Nat)
  corrected : Nat
  /-- the summary as last rewritten: the margins, V_REQ, the application clock, SCRUB_DIV, DT_RAISE (R513) -/
  summary : List Nat
  /-- entries of the tally seen saturated (R512) -/
  saturated : Nat
deriving DecidableEq, Repr

/-- A device whose ledger is empty. -/
def Age.reset : Age := ⟨0, 0, [], [], [], [], [], 0, 0, [], [], 0, [], 0⟩

/-- A temperature sensor as the field die follows it: whether it has been converted, whether it is faulty, consecutive readings at or above SD, consecutive valid conversions of a faulty channel, the time since which it has read below RESTART, the latest reading in units of 1/256 °C, which may lie outside the format of SNS_TEMP (R498, R499, R503, R504). -/
structure Sensor where
  seen : Bool
  faulty : Bool
  atSd : Nat
  valid : Nat
  below : Option Nat
  temp : Int
deriving DecidableEq, Repr

def Sensor.reset : Sensor := ⟨false, false, 0, 0, none, 0⟩

/-! ### Host ports -/

/-- The JTAG instructions (R539). -/
inductive JtagIr where
  | bypass | idcode | sample | extest | clamp | highz | dbgAccess
deriving DecidableEq, Repr

/-- The flash command in progress: 1 read, 2 program, 3 erase; its address and length (R536). -/
structure FlashCmd where
  kind : Nat
  addr : Nat
  len : Nat
deriving DecidableEq, Repr

/-- The page size and the smallest erase unit that SFDP gives, and their value for a flash without SFDP (R535, R536, log 34). -/
structure FlashGeo where
  page : Nat
  unit : Nat
deriving DecidableEq, Repr

/-! ### CAN -/

/-- A message object (R551, R552): the frame it holds and, for a received one, the device time of its SOF. -/
structure CanObj where
  frame : CanFrame
  time : Nat
deriving DecidableEq, Repr

/-- An object that holds nothing (R560). -/
def CanObj.reset : CanObj := ⟨⟨0, false, false, false, false, false, 0, []⟩, 0⟩

/-- A controller beside its registers: the transmit object whose frame is on the bus with that frame, a WRITE to it that waits for its end (R554), a write of its OBJ_CTL with DIR 0 that waits (R551), fault injection: frames to pass and to affect (R559), the last frame sent: the model's own output. -/
structure Can where
  cur : Option (Nat × CanFrame)
  wait : Option CanFrame
  off : Option W32
  injSkip : Nat
  injLeft : Nat
  out : Option CanFrame
deriving DecidableEq, Repr

/-- A controller at reset. -/
def Can.reset : Can := ⟨none, none, none, 0, 0, none⟩

/-! ### Power and reset -/

/-- What the field die does with the core die: no supply; held in reset until the supplies are sound (R563); held by a hardware shut-down (R503); held until the supplies are removed (R504); released. -/
inductive Core where
  | unpowered | held | thermal | locked | running
deriving DecidableEq, Repr

/-- The state of the device. -/
structure State where
  /-- the commands that wait, first in first out (the block's interface) -/
  pending : List Instr
  /-- device time since the last cold reset, ticks of 250 ps (R14) -/
  dt : Nat
  /-- the MODEL's own counter for free values (log 2) -/
  free : Nat
  /-- the registers as software sees them; an unlisted one has its reset value (R590) -/
  regs : Tab W32
  /-- the values in force of the shadowed registers (R598) -/
  inForce : Tab W32
  /-- the pending sets, at most one for each page (R598) -/
  commits : List Commit
  /-- the staged LO write of each requester and pair (R601) -/
  staged : Tab W32
  /-- the latched HI of each requester and pair (R601) -/
  latched : Tab W32
  /-- the result of each requester's last read: the model's own output -/
  rdata : Tab (List W32)
  /-- posted writes to the field die, oldest first (R8, R9) -/
  posted : List Posted
  /-- the bytes of the memories (R525, R584) -/
  mem : List Host.Cell
  /-- MSI-X messages sent to the host for each vector: the model's own output (R481) -/
  msix : Tab Nat
  /-- the router's action queue (R483) -/
  actions : List RouterAct
  /-- the 96 silos (R486) -/
  silos : Tab Silo
  /-- the bridge or the reference has been lost; only a cold reset clears it (R11, R13) -/
  lost : Bool
  /-- the event recorder (R460 to R476) -/
  recorder : Recorder
  /-- the axes of the 64 slots (R15, R23) -/
  axes : Tab Axis
  /-- their couplings (R91) -/
  gears : Tab Gear
  /-- the line timebase (R30 to R66) -/
  ltb : Ltb
  /-- arms written and not yet taken, in write order (R73) -/
  ascArms : List Nat
  /-- the LTB step boundary at which arms were last taken (R73) -/
  ascTook : Option Nat
  /-- the armed entries (R67 to R78) -/
  ascEnts : Tab AscEnt
  /-- the ends of running FCO pulses (R80) -/
  fcoEnd : Tab Nat
  /-- pins that ignore actions after a device-wide SAFE, and those of them that have been disabled since (R82) -/
  fcoLock : Nat
  fcoOff : Nat
  /-- the latch inputs and their incomplete records (R83 to R85) -/
  fliPins : Tab FliPin
  fliRecs : List FliRec
  /-- the latch windows: window w of slot n under 2 n + w (R86) -/
  latWins : Tab LatWin
  /-- the ring ports and, as port 2, the crosslink lane (R358) -/
  ringPorts : Tab RingPort
  /-- the ring node (R358 to R385) -/
  ring : Ring
  /-- requesters promoted by their trump limit and not yet granted: arbiter, instance, requester (R234) -/
  promoted : List (Nat × Nat × Nat)
  /-- the crosslink of a redundant pair (R386 to R398) -/
  xlk : Xlk
  /-- the four STO groups (R412) -/
  groups : Tab StoGroup
  /-- guarded axis g as channel A (key 2g) and channel B (key 2g + 1) see it (R403) -/
  safAxes : Tab SafAxis
  /-- the SS1 in progress, under the same keys (R410) -/
  ss1 : Tab SafStop
  /-- slots to which an SS1 applies QUICK at their next sample (R410) -/
  ss1Quick : List Nat
  /-- a line loss requests SS1 for every guarded axis at the next boundary (R49, R410) -/
  ss1Line : Bool
  /-- consecutive cycles in which an item has disagreed: item 16 × kind + object (R406) -/
  disagree : Tab Nat
  /-- consecutive cycles in which channel A, and channel B, received no exchange (R406) -/
  noExA : Nat
  noExB : Nat
  /-- a lockstep mismatch has stopped channel A (R400) -/
  chanAStop : Bool
  /-- the last fresh command of channel A to the STO_A driver, and whether the driver has de-energised for want of one (R412) -/
  keepA : Nat
  dropA : Bool
  /-- group and local channel of each claim in effect since the last safety cycle boundary (R412) -/
  claimed : List (Nat × Nat)
  /-- groups that a REACT record of the peer names (R428) -/
  safPeer : Nat
  /-- the safety set stored in the MRAM configuration partition, and its signature (R427) -/
  safStore : Option (Tab W32 × Nat)
  /-- processors halted by the debug unit: bits 0 to 3 the application cores, bit 5 the safety processor (R415, R541) -/
  dbgHalt : Nat
  /-- the capture units (R444) -/
  acqs : Tab AcqUnit
  /-- group arms and fires of this node that wait for their T_ACT (R454) -/
  acqActs : List AcqAct
  /-- the local drive channels (R274 to R331) -/
  ldcs : Tab Ldc
  /-- the axis slot each bound local channel serves; the spec names no register for this binding (R16, log 21) -/
  ldcSlot : Tab Nat
  /-- the feedback ports (R332 to R348) -/
  ports : Tab Port
  /-- the encoder emulation outputs (R349 to R352) -/
  emus : Tab Emu
  /-- the stage links (R238 to R273) -/
  links : Tab Link
  /-- the loop programs of the slots (R161) -/
  servos : Tab Servo
  /-- the servo states as they stood before the run in progress (R193) -/
  servoUndo : Tab Servo
  /-- the loop processors (R204) -/
  lpus : Tab Lpu
  /-- their scheduler (R229) -/
  sched : LpuSched
  /-- the ageing block (R507 to R514) -/
  age : Age
  /-- the temperature sensors (R498) -/
  sensors : Tab Sensor
  /-- times of the shut-downs, newest first, by the field die's clock, which no reset of the core die stops (R503, R504) -/
  shutdowns : List Nat
  /-- the bands of the core die and of the field die, none before the first conversion (R505) -/
  bands : Option Nat × Option Nat
  /-- the JTAG instruction in force, and the data register it selects (R539) -/
  jtagIr : JtagIr
  jtagDr : W32
  /-- the nonce of the debug challenge (R540) -/
  nonce : List W32
  /-- since when the timer freeze of a debug halt has been in force (R297) -/
  freezeAt : Option Nat
  /-- the flash command in progress, the geometry of the flash (R536) -/
  flashCmd : Option FlashCmd
  flashGeo : FlashGeo
  /-- the MRAM block being written and its 64 bytes (R537) -/
  mramCmd : Option (Nat × List Byte)
  /-- each MAC: paused until (R529); the last frame sent: the model's own output -/
  ethPause : Tab Nat
  ethOut : Tab (List Byte)
  /-- the last bytes each DMA channel wrote to the host, with their address: the model's own output (R526) -/
  dmaOut : Tab (Nat × List Byte)
  /-- the 32 bytes of the descriptor each DMA channel has in progress (R526) -/
  dmaDesc : Tab (List Byte)
  /-- the CAN controllers (R548) -/
  cans : Tab Can
  /-- their message objects: object o of controller c under 128 c + o (R551) -/
  canObjs : Tab CanObj
  /-- the core die's release (R563) -/
  core : Core
  /-- ticks that the field die had counted before the last cold reset (R504) -/
  fieldT0 : Nat
  /-- the watchdog's last restart (R579) -/
  wdtT : Nat
  /-- the boot flash (R535, R571) -/
  flash : List Host.Cell
  /-- the VERSION of the running image (R578) -/
  version : Nat
  /-- the owner and debug public keys of the MRAM key area (R576) -/
  keys : List Byte
  /-- the start addresses of the application cores, by number, and of the safety processor under 4 (R571, R588) -/
  entries : Tab Nat
  /-- a life-cycle change that lost its power before it was complete: the target state, whether its fuses have been burnt, the keys to write (R577) -/
  lcPlan : Option (Nat × Bool × List Byte)
deriving DecidableEq, Repr

/-- The device at the end of a cold reset's beginning: every register at its cold reset value, the memories empty, device time 0, the boot sequence not yet begun (R4, R14, R564). -/
def State.reset : State where
  pending := []
  dt := 0
  free := 0
  regs := []
  inForce := []
  commits := []
  staged := []
  latched := []
  rdata := []
  posted := []
  mem := []
  msix := []
  actions := []
  silos := []
  lost := false
  recorder := Recorder.reset
  axes := []
  gears := []
  ltb := Ltb.reset
  ascArms := []
  ascTook := none
  ascEnts := []
  fcoEnd := []
  fcoLock := 0
  fcoOff := 0
  fliPins := []
  fliRecs := []
  latWins := []
  ringPorts := []
  ring := Ring.reset
  promoted := []
  xlk := Xlk.reset
  groups := []
  safAxes := []
  ss1 := []
  ss1Quick := []
  ss1Line := false
  disagree := []
  noExA := 0
  noExB := 0
  chanAStop := false
  keepA := 0
  dropA := false
  claimed := []
  safPeer := 0
  safStore := none
  dbgHalt := 0
  acqs := []
  acqActs := []
  ldcs := []
  ldcSlot := []
  ports := []
  emus := []
  links := []
  servos := []
  servoUndo := []
  lpus := []
  sched := LpuSched.reset
  age := Age.reset
  sensors := []
  shutdowns := []
  bands := (none, none)
  jtagIr := .idcode
  jtagDr := 0
  nonce := []
  freezeAt := none
  flashCmd := none
  flashGeo := ⟨256, 4096⟩
  mramCmd := none
  ethPause := []
  ethOut := []
  dmaOut := []
  dmaDesc := []
  cans := []
  canObjs := []
  core := .held
  fieldT0 := 0
  wdtT := 0
  flash := []
  version := 0
  keys := []
  entries := []
  lcPlan := none

end Sys2Proof.Machine
end

