-- ==== Sys2Proof/Machine/Ops.lean ====
section
/-! DEFINITION. The named operations over the registers, the memory and the pages: bit fields, the register file with its reset defaults, byte memory in canonical form,
ERR_CAP, saturating counters, the page index. Every command's meaning goes through these. -/

namespace Sys2Proof.Machine

/-! ### Bit fields -/

/-- Bits `hi` down to `lo` of a word, as a number. -/
def fldOf (v : W32) (hi lo : Nat) : Nat := v.toNat / 2 ^ lo % 2 ^ (hi + 1 - lo)

/-- Bit `b` of a word. -/
def bitOf (v : W32) (b : Nat) : Bool := v.getLsbD b

/-- The word with bits `hi` down to `lo` replaced by the low bits of `x`. -/
def withFld (v : W32) (hi lo x : Nat) : W32 :=
  let w := 2 ^ (hi + 1 - lo)
  BitVec.ofNat 32 (v.toNat - fldOf v hi lo * 2 ^ lo + x % w * 2 ^ lo)

/-- The word with bit `b` set to `x`. -/
def withBit (v : W32) (b : Nat) (x : Bool) : W32 := withFld v b b (cond x 1 0)

/-- A number of `w` bits read as two's complement. -/
def signedOf (w x : Nat) : Int :=
  if x % 2 ^ w < 2 ^ (w - 1) then (x % 2 ^ w : Nat) else ((x % 2 ^ w : Nat) : Int) - (2 ^ w : Nat)

/-- The low `w` bits of an integer, as a number. -/
def wrapTo (w : Nat) (x : Int) : Nat := (x % (2 ^ w : Nat)).toNat

/-- An integer as a 32-bit word, wrapping. -/
def w32 (x : Int) : W32 := BitVec.ofNat 32 (wrapTo 32 x)

/-- An integer held within `[lo, hi]`. -/
def clampInt (lo hi x : Int) : Int := if x < lo then lo else if hi < x then hi else x

/-- An integer saturated to `w` signed bits. -/
def satTo (w : Nat) (x : Int) : Int := clampInt (-(2 ^ (w - 1) : Nat)) ((2 ^ (w - 1) : Nat) - 1) x

/-- Division rounding to nearest, ties upwards. -/
def rdiv (a b : Int) : Int := (2 * a + b) / (2 * b)

/-- The integer square root, by bisection on the bits from `k` down. -/
def isqrtBits : Nat → Nat → Nat → Nat
  | 0, _, r => r
  | k + 1, n, r =>
    let r' := r + 2 ^ k
    isqrtBits k n (if r' * r' ≤ n then r' else r)

/-- The integer square root of a number below 2^256. -/
def isqrt (n : Nat) : Nat := isqrtBits 128 n 0

/-- Number of bits set among the low `n` bits. -/
def popCount : Nat → Nat → Nat
  | 0, _ => 0
  | n + 1, x => x % 2 + popCount n (x / 2)

/-! ### The page index -/

/-- The page that the kind and instance name, by its base address. -/
def PageRef.base (p : PageRef) : Nat := (pageTempl p.kind).base + p.inst * (pageTempl p.kind).stride

/-- Whether address `a` lies in a page of kind `k`, and which instance. -/
def pageIn (k : PageKind) (a : Nat) : Option PageRef :=
  let t := pageTempl k
  let d := a - t.base
  let i := if t.stride = 0 then 0 else d / t.stride
  if t.base ≤ a ∧ i < t.insts ∧ d - i * t.stride < 0x1000 then some ⟨k, i⟩ else none

/-- The page of an address (R584, R586, R587), or none for a reserved range or a memory window. -/
def pageOf (a : Nat) : Option PageRef := allKinds.findSome? fun k => pageIn k a

/-- The row and index of the register at offset `o`, among the given rows. -/
def rowAt (o : Nat) : List RegRow → Option (RegRow × Nat)
  | [] => none
  | r :: t =>
    if r.off ≤ o ∧ (o - r.off) % r.stride = 0 ∧ (o - r.off) / r.stride < r.count then some (r, (o - r.off) / r.stride)
    else rowAt o t

/-- The register row at a BAR0 address. -/
def regRow (a : Nat) : Option (PageRef × RegRow × Nat) :=
  match pageOf a with
  | none => none
  | some p =>
    match rowAt (a - p.base) (pageRows p.kind) with
    | none => none
    | some (r, i) => some (p, r, i)

/-- Registers that some instances of a page do not have: they read 0 and ignore writes (R5): the ring's own in FRB.1 (R395), EXC_CFG outside FBP.0 (R353), the registers of ACQ.0 and GDV.0 alone, the channel calibration of an on-die sensor. `o` is the row's offset, `i` the index in it. -/
def absentReg (p : PageRef) (o i : Nat) : Bool :=
  match p.kind, o with
  | .thm, 0x10C => decide (i ≤ 5)
  | .acq, 0xAC => p.inst != 0
  | .gdv, 0xC0 => p.inst != 0
  | .fbp, 0xB8 => p.inst != 0
  | .frb, _ => p.inst != 0 && decide (0x100 ≤ o)
  | _, _ => false

/-- Reset values of the LPU pages that depend on the LPU `n` and the index `i` (R236). -/
def lpuReset (n off i dflt : Nat) : Nat :=
  match off with
  | 0x040 => if n ≤ 7 then n * 16 + 0x80 else 1
  | 0x080 => if n ≤ 7 then 0xFF80 + (8 * n + i) else 0xFF00
  | 0x230 =>
    match i with
    | 0 => 0x000A0007
    | 1 => 0x00280005
    | 2 => 0x00C80003
    | _ => 0x03E80001
  | _ => dflt

/-- Reset values of ARB_CFG.r (R538). -/
def memArbReset : Nat → Nat
  | 0 => 20 * 2 ^ 16 + 4
  | 1 => 20 * 2 ^ 16 + 3
  | 2 => 50 * 2 ^ 16 + 2
  | 3 => 20 * 2 ^ 16 + 5
  | 4 => 5 * 2 ^ 16 + 7
  | 5 => 10 * 2 ^ 16 + 6
  | 6 => 100 * 2 ^ 16 + 1
  | _ => 10 * 2 ^ 16 + 6

/-- The reset values that depend on the page's instance `n` or the register's index `i` (R236, R395, R457, R496, R515, R538, R271). -/
def resetAt (p : PageRef) (r : RegRow) (i : Nat) : Nat :=
  match p.kind, r.off with
  | .slk, 0x04C => 0x6040 + p.inst * 0x0101
  | .frb, 0x080 => 0x00640000 + i
  | .acq, 0x054 => 0x2000 + 0x20 * p.inst
  | .sil, 0x040 =>
    if p.inst < 64 then 0x00080000 + 0x100 * p.inst
    else if p.inst < 80 then 0x00064000 + 0x40 * (p.inst - 64)
    else if p.inst < 88 then 0x00084400 + 0x100 * (p.inst - 80)
    else 0x00084C00 + 0x100 * (p.inst - 88)
  | .thm, 0x100 => if i ≤ 5 then 0x0507 else 0x0500
  | .thm, 0x104 => if i ≤ 5 then 0x9FC0B6AE else 0x9FB8AEA4
  | .thm, 0x10C => if i ≤ 5 then 0 else 0x4083
  | .lpu, off => lpuReset p.inst off i r.cold
  | .mem, 0x100 => memArbReset i
  | _, _ => r.cold

/-- The cold reset value of the register at an address; 0 where there is none (R4, R5). -/
def resetOf (a : Nat) : W32 :=
  match regRow a with
  | none => 0
  | some (p, r, i) => BitVec.ofNat 32 (resetAt p r i)

/-! ### The register file -/

/-- The value software sees in the register at address `a` (the shadow, for a shadowed register). -/
def State.rd (s : State) (a : Nat) : W32 := tabGet (resetOf a) a s.regs

/-- Bits `hi` down to `lo` of the register at `a`. -/
def State.fld (s : State) (a hi lo : Nat) : Nat := fldOf (s.rd a) hi lo

/-- Bit `b` of the register at `a`. -/
def State.bit (s : State) (a b : Nat) : Bool := bitOf (s.rd a) b

/-- Store `v` in the register at `a` (hardware or an accepted write). -/
def State.wr (s : State) (a : Nat) (v : W32) : State := { s with regs := tabSet a v s.regs }

/-- Store `x` in bits `hi` down to `lo` of the register at `a`. -/
def State.wrFld (s : State) (a hi lo x : Nat) : State := s.wr a (withFld (s.rd a) hi lo x)

/-- Store bit `b` of the register at `a`. -/
def State.wrBit (s : State) (a b : Nat) (x : Bool) : State := s.wr a (withBit (s.rd a) b x)

/-- The value in force of a shadowed register (R598). -/
def State.act (s : State) (a : Nat) : W32 := tabGet (resetOf a) a s.inForce

/-- Bits of the value in force. -/
def State.actFld (s : State) (a hi lo : Nat) : Nat := fldOf (s.act a) hi lo

/-- One bit of the value in force. -/
def State.actBit (s : State) (a b : Nat) : Bool := bitOf (s.act a) b

/-- Put a value in force. -/
def State.setAct (s : State) (a : Nat) (v : W32) : State := { s with inForce := tabSet a v s.inForce }

/-- The 64-bit value of a pair whose LO register is at `lo` (R601). -/
def State.rd64 (s : State) (lo : Nat) : Nat := (s.rd (lo + 4)).toNat * 2 ^ 32 + (s.rd lo).toNat

/-- Store a 64-bit pair. -/
def State.wr64 (s : State) (lo v : Nat) : State := (s.wr lo (BitVec.ofNat 32 v)).wr (lo + 4) (BitVec.ofNat 32 (v / 2 ^ 32))

/-- The 64-bit value in force of a shadowed pair. -/
def State.act64 (s : State) (lo : Nat) : Nat := (s.act (lo + 4)).toNat * 2 ^ 32 + (s.act lo).toNat

/-- Put a 64-bit pair in force and in the shadow (a hardware change of the value, as R93 and R146 make). -/
def State.setBoth64 (s : State) (lo v : Nat) : State :=
  (((s.wr64 lo v).setAct lo (BitVec.ofNat 32 v)).setAct (lo + 4) (BitVec.ofNat 32 (v / 2 ^ 32)))

/-- `f s` when the condition holds, else `s`. -/
def State.when (s : State) (c : Bool) (f : State → State) : State := if c then f s else s

/-- Apply `f` for every element of a list, from the left. -/
def State.each {α : Type} (s : State) (l : List α) (f : α → State → State) : State := l.foldl (fun s x => f x s) s

/-- Read the model's counter for free values, and advance it. -/
def State.nextFree (s : State) : Nat × State := (s.free, { s with free := s.free + 1 })

/-- Take `n` values of the counter for free values. -/
def State.takeFree (s : State) (n : Nat) : Nat × State := (s.free, { s with free := s.free + n })

/-! ### ERR_CAP (R596) -/

/-- The codes of ERR_CAP.CODE. -/
inductive ErrCode where
  | locked | state | value | clamped | commit | late | key | busy | access
deriving DecidableEq, Repr

/-- The number of an error code (R596). -/
def ErrCode.num : ErrCode → Nat
  | .locked => 1
  | .state => 2
  | .value => 3
  | .clamped => 4
  | .commit => 5
  | .late => 6
  | .key => 7
  | .busy => 8
  | .access => 9

/-- ERR_CAP after one more error: CODE and WORD keep the first error, COUNT saturates at 255 (R596). -/
def errCapNext (v : W32) (code : ErrCode) (word : Nat) : W32 :=
  let cnt := fldOf v 31 24
  let cnt' := if cnt = 255 then 255 else cnt + 1
  if fldOf v 7 0 = 0 then BitVec.ofNat 32 (cnt' * 2 ^ 24 + word % 1024 * 2 ^ 8 + code.num)
  else withFld v 31 24 cnt'

/-- Record an error in ERR_CAP of the page at `page`, concerning the register at `page + off` (R596). -/
def State.err (s : State) (page : Nat) (code : ErrCode) (off : Nat) : State :=
  s.wr (page + 0x01C) (errCapNext (s.rd (page + 0x01C)) code (off / 4))

/-- Record an error concerning the register at address `a`, in the page the address lies in. -/
def State.errAt (s : State) (code : ErrCode) (a : Nat) : State := s.err (a / 0x1000 * 0x1000) code (a % 0x1000)

/-! ### Memory: bytes at local addresses (R525, R584), in canonical form -/

/-- The memory: address and byte pairs. -/
abbrev Memory := List Host.Cell

/-- What a byte that nothing has written reads as: 0 (R569 for SRAM; log 4 for MRAM and DRAM). -/
def memDefault : Byte := 0

/-- The byte at address `a`. -/
def memGet (a : Nat) : Memory → Byte
  | [] => memDefault
  | (a', b) :: t => if a = a' then b else if a < a' then memDefault else memGet a t

/-- Store byte `b` at address `a`, keeping the canonical form. -/
def memSet (a : Nat) (b : Byte) : Memory → Memory
  | [] => if b = memDefault then [] else [(a, b)]
  | (a', b') :: t =>
    if a < a' then (if b = memDefault then (a', b') :: t else (a, b) :: (a', b') :: t)
    else if a = a' then (if b = memDefault then t else (a, b) :: t)
    else (a', b') :: memSet a b t

/-- The canonical form: addresses rise strictly from `lo` on, and no listed byte is the default. -/
def memWfFrom (lo : Nat) : Memory → Bool
  | [] => true
  | (a, b) :: t => decide (lo ≤ a) && decide (b ≠ memDefault) && memWfFrom (a + 1) t

/-- The memory is in its canonical form. -/
def Memory.wf (m : Memory) : Bool := memWfFrom 0 m

/-- The memory without the bytes in `[lo, hi)`: those bytes read as the default (a wipe, R569). -/
def memWipe (lo hi : Nat) (m : Memory) : Memory := m.filter fun c => !(decide (lo ≤ c.1) && decide (c.1 < hi))

/-- The byte at local address `a`. -/
def State.byteAt (s : State) (a : Nat) : Byte := memGet a s.mem

/-- Store one byte. -/
def State.putByte (s : State) (a : Nat) (b : Byte) : State := { s with mem := memSet a b s.mem }

/-- Store bytes from address `a` on. -/
def State.putBytes (s : State) (a : Nat) : List Byte → State
  | [] => s
  | b :: t => (s.putByte a b).putBytes (a + 1) t

/-- The `n` bytes from address `a`. -/
def State.bytesAt (s : State) (a : Nat) : Nat → List Byte
  | 0 => []
  | n + 1 => s.byteAt a :: s.bytesAt (a + 1) n

/-- The little-endian number of a list of bytes (log 5). -/
def leNat : List Byte → Nat
  | [] => 0
  | b :: t => b.toNat + 256 * leNat t

/-- The `n` little-endian bytes of a number (log 5). -/
def leBytes : Nat → Nat → List Byte
  | 0, _ => []
  | n + 1, x => BitVec.ofNat 8 x :: leBytes n (x / 256)

/-- The little-endian number of `n` bytes at address `a`. -/
def State.memNat (s : State) (a n : Nat) : Nat := leNat (s.bytesAt a n)

/-- Store `n` little-endian bytes of `x` at address `a`. -/
def State.putNat (s : State) (a n x : Nat) : State := s.putBytes a (leBytes n x)

/-- Set bytes `[lo, hi)` to zero. -/
def State.wipe (s : State) (lo hi : Nat) : State := { s with mem := memWipe lo hi s.mem }

/-! ### Typed tables of the engines -/

/-- The silo `i`. -/
def State.silo (s : State) (i : Nat) : Silo := tabGet Silo.reset i s.silos

/-- Replace silo `i`. -/
def State.setSilo (s : State) (i : Nat) (x : Silo) : State := { s with silos := tabSet i x s.silos }

end Sys2Proof.Machine
end

