-- ==== Sys2Proof/Machine/Flags.lean ====
section
/-! DEFINITION. The event flags: EVT_RAW, EVT_PEND and EVT_EN of every page, the event sources of the router, their routing, the saturating-sticky counters that raise them. -/

namespace Sys2Proof.Machine

/-- The pages and bits that make up event source `e` (R478 and the event tables of the blocks). -/
def srcBits (e : Nat) : List (Nat × Nat) :=
  let one (k : PageKind) (i mask : Nat) : List (Nat × Nat) := [((PageRef.mk k i).base, mask)]
  let saf (m : Nat) : List (Nat × Nat) := one .saf0 0 m ++ one .saf1 0 m
  if e < 4 then one .glb 0 (2 ^ e)
  else if e = 4 then one .clk 0 1
  else if e = 5 then one .clk 0 6
  else if e < 8 then one .lcs 0 (2 ^ (e - 6))
  else if e < 10 then one .evr 0 (2 ^ (e - 8))
  else if e < 14 then one .thm 0 (2 ^ (e - 10))
  else if e < 16 then one .age 0 (2 ^ (e - 14))
  else if e < 26 then one .ltb 0 (2 ^ (e - 16))
  else if e < 32 then []
  else if e < 48 then one .asc 0 (2 ^ (e - 32))
  else if e = 48 then one .asc 0 0x1F0000
  else if e < 53 then one .emu (e - 49) 7
  else if e < 64 then []
  else if e < 320 then
    let n := (e - 64) / 4
    match (e - 64) % 4 with
    | 0 => one .axl n 0x00E ++ one .axp n 0x700 ++ one .axg n 0x20
    | 1 => one .axl n 0x001
    | 2 => one .axl n 0x3F0 ++ one .axp n 0x18FF ++ one .axg n 0x5F
    | _ => one .axc n 0x7F
  else if e < 384 then one .slk ((e - 320) / 2) (if e % 2 = 0 then 0x1C else 0x7FE3)
  else if e < 408 then
    let n := (e - 384) / 4
    match (e - 384) % 4 with
    | 0 => one .gdv n 0xF
    | 1 => one .gdv n 0x1F0
    | 2 => one .ldc n 0xFFFF
    | _ => one .ldc n 0xFFFF0000
  else if e < 432 then one .fbp ((e - 408) / 2) (if e % 2 = 0 then 0x3 else 0x3FC)
  else if e < 436 then one .frb ((e - 432) / 2) (if e % 2 = 0 then 0x3 else 0x1C)
  else if e = 436 then one .frb 0 0xF00
  else if e = 437 then one .frb 0 0x3FF000
  else if e = 438 then one .xlk 0 0x3
  else if e = 439 then one .xlk 0 0x7FC
  else if e < 448 then []
  else if e < 458 then saf (2 ^ (e - 448))
  else if e = 458 then saf 0xC00
  else if e = 459 then saf 0x3000
  else if e = 460 then saf 0x4000
  else if e < 464 then []
  else if e < 472 then one .acq ((e - 464) / 2) (if e % 2 = 0 then 0x0F else 0xF0)
  else if e < 480 then one .recorder 0 (2 ^ (e - 472))
  else if e < 488 then
    let c := (e - 480) / 4
    match (e - 480) % 4 with
    | 0 => one .can c 0x00F
    | 1 => one .can c 0x030
    | 2 => one .can c 0x0C0
    | _ => one .can c 0x700
  else if e < 496 then (List.range 9).flatMap fun i => one .lpu i (2 ^ (e - 488))
  else if e = 496 then one .pci 0 0x7
  else if e = 497 then one .pci 0 0x78
  else if e = 498 then one .dma 0 0xFF
  else if e = 499 then one .dma 0 0x1FFFF00
  else if e < 504 then one .eth ((e - 500) / 2) (if e % 2 = 0 then 0x7 else 0x38)
  else if e = 504 then one .drc 0 0x1F
  else if e = 505 then one .mem 0 0x7F
  else if e < 508 then []
  else if e = 508 then one .fio 0 0x1
  else if e = 509 then one .fio 0 0x2
  else if e = 510 then one .fio 0 0xC
  else if e = 511 then one .fio 0 0x30
  else []

/-- The sources that the bits of a page belong to (R478). SIL and APC pages belong to none (R497, R588). -/
def pageSources (p : PageRef) : List Nat :=
  let n := p.inst
  match p.kind with
  | .glb => [0, 1, 2, 3]
  | .clk => [4, 5]
  | .lcs => [6, 7]
  | .apc => []
  | .evr => [8, 9]
  | .thm => [10, 11, 12, 13]
  | .age => [14, 15]
  | .ltb => [16, 17, 18, 19, 20, 21, 22, 23, 24, 25]
  | .asc => [32, 33, 34, 35, 36, 37, 38, 39, 40, 41, 42, 43, 44, 45, 46, 47, 48]
  | .emu => [49 + n]
  | .axl => [64 + 4 * n, 65 + 4 * n, 66 + 4 * n]
  | .axp => [64 + 4 * n, 66 + 4 * n]
  | .axg => [64 + 4 * n, 66 + 4 * n]
  | .axc => [67 + 4 * n]
  | .slk => [320 + 2 * n, 321 + 2 * n]
  | .gdv => [384 + 4 * n, 385 + 4 * n]
  | .ldc => [386 + 4 * n, 387 + 4 * n]
  | .fbp => [408 + 2 * n, 409 + 2 * n]
  | .frb => if n = 0 then [432, 433, 436, 437] else [434, 435]
  | .xlk => [438, 439]
  | .saf0 => [448, 449, 450, 451, 452, 453, 454, 455, 456, 457, 458, 459, 460]
  | .saf1 => [448, 449, 450, 451, 452, 453, 454, 455, 456, 457, 458, 459, 460]
  | .acq => [464 + 2 * n, 465 + 2 * n]
  | .recorder => [472, 473, 474, 475, 476, 477, 478, 479]
  | .can => [480 + 4 * n, 481 + 4 * n, 482 + 4 * n, 483 + 4 * n]
  | .lpu => [488, 489, 490, 491, 492, 493, 494, 495]
  | .pci => [496, 497]
  | .dma => [498, 499]
  | .eth => [500 + 2 * n, 501 + 2 * n]
  | .drc => [504]
  | .mem => [505]
  | .fio => [508, 509, 510, 511]
  | .sil => []

/-- The EVT_PEND and EVT_EN registers of the page at `page`. -/
def evtPendAt (page : Nat) : Nat := page + 0x010
def evtEnAt (page : Nat) : Nat := page + 0x014

/-- The slot whose EXT_FLT bit belongs to source `e`, if any (R477). -/
def extFltSlot (e : Nat) : Option Nat := if 64 ≤ e ∧ e < 320 ∧ e % 4 = 0 then some ((e - 64) / 4) else none

/-- EXT_FLT bit `n` (R479). -/
def State.extFlt (s : State) (n : Nat) : Bool := if n < 32 then s.bit EVR_EXT_FLT_LO n else s.bit EVR_EXT_FLT_HI (n - 32)

/-- The bits of source `e` that are pending and enabled, one word for each page it combines (R477). -/
def State.srcWords (s : State) (e : Nat) : List Nat :=
  (srcBits e).map fun pm => (s.rd (evtPendAt pm.1)).toNat &&& (s.rd (evtEnAt pm.1)).toNat &&& pm.2

/-- Whether source `e` is pending (R477, R479). -/
def State.srcPending (s : State) (e : Nat) : Bool :=
  (s.srcWords e).any (fun w => w != 0) ||
    (match extFltSlot e with
     | some n => s.extFlt n
     | none => false)

/-- The ROUTE entry of source `e` (R494). -/
def State.route (s : State) (e : Nat) : W32 := s.rd (EVR_ROUTE e)
def routeKind (v : W32) : Nat := fldOf v 2 0
def routeTarget (v : W32) : Nat := fldOf v 14 8
def routePrio (v : W32) : Nat := fldOf v 18 16
def routeArg (v : W32) : Nat := fldOf v 31 24

/-- Count up field `hi..lo` of the counter register at `a`, stopping at all ones; the event `bit` of page `page` is not raised here. Answers whether this count reached all ones (R6). -/
def State.satUp (s : State) (a hi lo : Nat) : Bool × State :=
  let m := 2 ^ (hi + 1 - lo) - 1
  let v := s.fld a hi lo
  if v = m then (false, s) else (decide (v + 1 = m), s.wrFld a hi lo (v + 1))

/-- Count up a wrapping field (R6). -/
def State.wrapUp (s : State) (a hi lo : Nat) : State := s.wrFld a hi lo (s.fld a hi lo + 1)

/-- Send an MSI-X message of vector `v`: a masked vector, or a masked function, sets its pending bit instead (R481). -/
def State.sendMsix (s : State) (v : Nat) : State :=
  if s.bit (PCI_MSIX_TABLE (4 * v + 3)) 0 then s.wrBit (PCI_MSIX_PBA (v / 32)) (v % 32) true
  else { s with msix := tabSet v (tabGet 0 v s.msix + 1) s.msix }

/-- Insert a source by descending priority, then rising number (R481). -/
def State.insertSrc (s : State) (e : Nat) : List Nat → List Nat
  | [] => [e]
  | f :: t =>
    if routePrio (s.route f) < routePrio (s.route e) ∨ (routePrio (s.route f) = routePrio (s.route e) ∧ e < f) then e :: f :: t
    else f :: State.insertSrc s e t

/-- Sources in the order the router serves them (R481). -/
def State.bySrcPrio (s : State) (l : List Nat) : List Nat := l.foldr (fun e acc => s.insertSrc e acc) []

/-- Whether a bit of source `e` is pending and enabled in `s'` that was not in `s`. -/
def srcFresh (s s' : State) (e : Nat) : Bool :=
  ((s.srcWords e).zip (s'.srcWords e)).any fun w => (w.2 ^^^ (w.1 &&& w.2)) != 0

/-- A full queue drops an action: CNT_EVR.ACT_DROP counts and ACT_DROP is raised (R483); the EVR's own sources 8 and 9 are signalled, and an action of theirs is dropped in its turn. -/
def State.actDropped (s : State) : State :=
  let (full, s1) := s.satUp EVR_CNT_EVR 15 0
  let v := (s1.rd (evtPendAt 0x5000)).toNat ||| 1 ||| (if full then 2 else 0)
  let s2 := s1.wr (evtPendAt 0x5000) (BitVec.ofNat 32 v)
  s2.each (s2.bySrcPrio [8, 9]) fun e st =>
    match routeKind (s2.route e) with
    | 1 => st.when (!s.srcPending e && s2.srcPending e) fun u => u.sendMsix (routeTarget (s2.route e))
    | 4 => st.when (srcFresh s s2 e) fun u => (u.satUp EVR_CNT_EVR 15 0).2
    | _ => st

/-- Queue a hardware action, of which the queue holds 32 (R483). -/
def State.queueAction (s : State) (a : RouterAct) : State := if s.actions.length < 32 then { s with actions := s.actions ++ [a] } else s.actDropped

/-- Signal source `e` to its target: `became` says it has just become pending, `fresh` that one of its bits has (R480, R481). -/
def State.signal (s : State) (e : Nat) (became fresh : Bool) : State :=
  if !s.bit EVR_EVR_CTL 0 then s
  else
    let r := s.route e
    match routeKind r with
    | 1 => s.when became fun s => s.sendMsix (routeTarget r)
    | 4 => s.when fresh fun s => s.queueAction ⟨e, routeTarget r, routeArg r, s.dt⟩
    | _ => s

/-- Compare the sources of `l` in two states that differ in pending bits or enables, and signal those that became pending (R480, R481). -/
def State.signalChanges (s' s : State) (l : List Nat) : State :=
  s'.each (s'.bySrcPrio l) fun e st => st.signal e (!s.srcPending e && s'.srcPending e) (srcFresh s s' e)

/-- Give the page's EVT_PEND and EVT_EN new values, and signal the sources that become pending (R477, R480). -/
def State.setEvt (s : State) (page : Nat) (pend en : W32) : State :=
  let s' := (s.wr (evtPendAt page) pend).wr (evtEnAt page) en
  match pageOf page with
  | none => s'
  | some p => s'.signalChanges s (pageSources p)

/-- Raise event `bit` of the page at `page`: its EVT_PEND bit sets whatever EVT_EN holds, and the router sees it (R595). -/
def State.raise (s : State) (page bit : Nat) : State :=
  s.setEvt page (withBit (s.rd (evtPendAt page)) bit true) (s.rd (evtEnAt page))

/-- Raise an event when a condition holds. -/
def State.raiseIf (s : State) (c : Bool) (page bit : Nat) : State := s.when c fun s => s.raise page bit

/-- Count one more in the saturating-sticky field `hi..lo` of the register at `a`, and raise event `bit` of `page` on the count that reaches all ones (R6). -/
def State.count (s : State) (a hi lo page bit : Nat) : State :=
  let (full, s1) := s.satUp a hi lo
  s1.raiseIf full page bit

/-- A write of 1 bits to EVT_PEND clears them; a KIND 1 source that stays pending counts as becoming pending again (R482). -/
def State.clearEvt (s : State) (page : Nat) (ones : W32) : State :=
  let s' := s.wr (evtPendAt page) (s.rd (evtPendAt page) &&& ~~~ones)
  match pageOf page with
  | none => s'
  | some p => s'.each (s'.bySrcPrio (pageSources p)) fun e st =>
      st.signal e ((srcBits e).any (fun pm => decide (pm.1 = page) && (pm.2 &&& ones.toNat) != 0) && s'.srcPending e) false

/-- The router sets EXT_FLT bit `n` when a fault of another page acts on slot `n` (R479). -/
def State.setExtFlt (s : State) (n : Nat) : State :=
  let a := if n < 32 then EVR_EXT_FLT_LO else EVR_EXT_FLT_HI
  let s' := s.wrBit a (n % 32) true
  s'.signal (64 + 4 * n) (!s.srcPending (64 + 4 * n)) (!s.extFlt n)

end Sys2Proof.Machine
end

