-- ==== Sys2Proof/Machine/Inject.lean ====
section
/-! DEFINITION. The CRC of frames and records; the fault injector of the ring and crosslink lanes and what leaves a lane (R180, R360, R385, R419). -/

namespace Sys2Proof.Machine

/-! ### CRC (R180, R419) -/

/-- One bit of a reflected CRC-32 with the reflected polynomial `poly`. -/
def crcBit (poly c : Nat) : Nat := if c % 2 = 1 then (c / 2) ^^^ poly else c / 2

/-- Eight bits. -/
def crcByte (poly c : Nat) (b : Byte) : Nat :=
  let x := c ^^^ b.toNat
  crcBit poly (crcBit poly (crcBit poly (crcBit poly (crcBit poly (crcBit poly (crcBit poly (crcBit poly x)))))))

/-- A CRC-32 with initial value and final XOR 0xFFFF_FFFF, reflected in and out; `poly` is given reflected. -/
def crcOf (poly : Nat) (l : List Byte) : Nat := l.foldl (crcByte poly) 0xFFFFFFFF ^^^ 0xFFFFFFFF

/-- The CRC-32 of R180: polynomial 0x04C1_1DB7, 0xEDB8_8320 reflected. -/
def crc32 (l : List Byte) : Nat := crcOf 0xEDB88320 l

/-! ### Lanes -/

/-- The page of ring port `p`; port 2 is the crosslink lane. -/
def frbPage (p : Nat) : Nat := 0x260000 + p * 0x1000
def State.rport (s : State) (p : Nat) : RingPort := tabGet RingPort.reset p s.ringPorts
def State.setRport (s : State) (p : Nat) (x : RingPort) : State := { s with ringPorts := tabSet p x s.ringPorts }
/-- INJ_ARG, INJ_DLY and INJ_CNT of a lane. -/
def injArgAt (p : Nat) : Nat := if p = 2 then XLK_INJ_ARG else FRB_INJ_ARG p
def injDlyAt (p : Nat) : Nat := if p = 2 then XLK_INJ_DLY else FRB_INJ_DLY p
def injCntAt (p : Nat) : Nat := if p = 2 then XLK_INJ_CNT else FRB_INJ_CNT p
def injDoneBit (p : Nat) : Nat := if p = 2 then 8 else 3

/-! ### Fault injection (R270, R385) -/

/-- CORRUPT: INJ_ARG.MASK into data byte INJ_ARG.BYTE (R270). -/
def corruptAt (byte mask : Nat) (l : List Byte) : List Byte := (List.range l.length).map fun i => if i = byte then l.getD i 0 ^^^ BitVec.ofNat 8 mask else l.getD i 0

/-- Replace the last four bytes by the CRC of those before them. -/
def reCrc (l : List Byte) : List Byte := let b := l.take (l.length - 4); b ++ leBytes 4 (crc32 b)

/-- The kind of a frame: 0 cycle or crosslink, 1 MSG, 2 FORM, which only TYPE 2 names (R385). -/
def LaneFrame.kind : LaneFrame → Nat
  | .msg _ => 1
  | .form _ => 2
  | _ => 0

/-- CORRUPT: a frame kept as bytes has its byte changed and, with RECRC, its CRC made good; any other frame no longer passes its CRC (log 28). -/
def LaneFrame.corrupt (byte mask : Nat) (recrc : Bool) : LaneFrame → LaneFrame
  | .cycle f => .cycle (if recrc then reCrc (corruptAt byte mask f) else corruptAt byte mask f)
  | .msg f => .msg (if recrc then reCrc (corruptAt byte mask f) else corruptAt byte mask f)
  | _ => .broken

/-- A frame passes the injector of lane `p` in direction `rx`: the frames that go on, each with whether it was held back, which keeps it out of R361 and R369. A frame held by SWAP follows the next one; MODE 0 affects none. -/
def State.laneInject (s : State) (p : Nat) (rx : Bool) (f : LaneFrame) : List (LaneFrame × Bool) × State :=
  let v := s.rd (frbPage p + 0x02C)
  let x := s.rport p
  let mine := bitOf v 3 == rx && (fldOf v 6 5 == 2 || fldOf v 6 5 == f.kind)
  if !mine then ([(f, false)], s)
  else
    match x.injHeld.find? fun e => e.1 == 0 with
    | some (_, g) => ([(f, false), (g, true)], s.setRport p { x with injHeld := x.injHeld.filter fun e => e.1 != 0 })
    | none =>
      if !bitOf v 31 ∨ fldOf v 2 0 = 0 then ([(f, false)], s)
      else if 0 < x.injSkip then ([(f, false)], s.setRport p { x with injSkip := x.injSkip - 1 })
      else
        let s1 := (s.setRport p { x with injLeft := x.injLeft - 1 }).wrapUp (injCntAt p) 15 0
        let s2 := if x.injLeft ≤ 1 then (s1.wrBit (frbPage p + 0x02C) 31 false).raise (frbPage p) (injDoneBit p) else s1
        let hold (t : Nat) : State := s2.setRport p { s2.rport p with injHeld := (s2.rport p).injHeld ++ [(t, f)] }
        match fldOf v 2 0 with
        | 1 => ([], s2)
        | 2 => ([(f.corrupt (s.fld (injArgAt p) 19 8) (s.fld (injArgAt p) 7 0) (bitOf v 4), false)], s2)
        | 3 => ([], hold 0)
        | 4 => ([], hold (s.dt + s.fld (injDlyAt p) 23 0))
        | 5 => ([], s2.setRport p { s2.rport p with silentTo := s.dt + s.fld (injDlyAt p) 23 0 })
        | _ => ([(f, false)], s2)

/-- A frame is at the ball of lane `p`, which stays silent during SILENCE: the model's output. -/
def State.laneEmit (s : State) (p : Nat) (abt : Bool) (f : LaneFrame) : State :=
  if s.dt < (s.rport p).silentTo then s
  else
    match f with
    | .cycle b => s.setRport p { s.rport p with out := b, outAbt := abt }
    | .msg b => s.setRport p { s.rport p with out := b, outAbt := abt }
    | .form g => { s with ring := { s.ring with formOut := some g } }
    | .sent r => { s with xlk := { s.xlk with out := s.xlk.out ++ [r] } }
    | _ => s

/-- A frame leaves lane `p`: through the injector to the ball. -/
def State.laneSend (s : State) (p : Nat) (f : LaneFrame) (abt : Bool) : State :=
  let (fs, s1) := s.laneInject p false f
  s1.each fs fun g st => st.laneEmit p abt g.1

/-- Nothing is injected on lane `p`: no armed injection, no frame held back, no silence. -/
def State.laneOpen (s : State) (p : Nat) : Bool := !s.bit (frbPage p + 0x02C) 31 && (s.rport p).injHeld.isEmpty && decide ((s.rport p).silentTo ≤ s.dt)

end Sys2Proof.Machine
end

