-- ==== Sys2Proof/Machine/LpuMap.lean ====
section
/-! DEFINITION. Where the LPUs stand in BAR0, which of them carries a slot, and where the slot's repetitive table is (R175, R200, R205, R225, R235). -/

namespace Sys2Proof.Machine

/-- The LPU page and its local memory in BAR0 (R205, R235). -/
def lpuPage (i : Nat) : Nat := 0x300000 + i * 0x1000
def lpuMem (i : Nat) : Nat := 0x01000000 + i * 0x40000

/-- The LPU and the position that carry slot `n`, by the assignment in force (R225); an assignment that a retired LPU still holds carries nothing (R226, R232). -/
def State.lpuOf (s : State) (n : Nat) : Option (Nat × Nat) :=
  (List.range 72).findSome? fun j =>
    let i := j / 8
    let p := j % 8
    if !s.bit (LPU_RETIRED 0) i && s.actBit (LPU_ASSIGN i p) 7 && s.actFld (LPU_ASSIGN i p) 5 0 == n then some (i, p) else none

/-- The address of the repetitive table of slot `n`, 0 where no LPU carries the slot (R175, R200). -/
def State.rcAddr (s : State) (n : Nat) : Nat :=
  match s.lpuOf n with
  | none => 0
  | some (i, p) => lpuMem i + 0x20000 + p * 0x4000

end Sys2Proof.Machine
end

