-- ==== Sys2Proof/Machine/PairBase.lean ====
section
/-! DEFINITION. The role of the device in a redundant pair, the mirrored regions, and what a software write to them does on either device (R386 to R389);
the guarded slots and the slots of local channels (R16, R401). -/

namespace Sys2Proof.Machine

/-- The XLK page. -/
def xlkPage : Nat := 0x262000

/-- The role of the device in a pair (R387): 0 SINGLE, 1 ACTIVE, 2 STANDBY, 3 ORPHAN. -/
def State.role (s : State) : Nat := s.fld XLK_XLK_STAT 4 2

/-- Whether slot `n` is mirrored (R386). -/
def State.mirrored (s : State) (n : Nat) : Bool := s.rd64 XLK_MIRROR_MASK_LO / 2 ^ n % 2 == 1 && (s.role == 1 || s.role == 2)

/-- Send a crosslink record, through the injector of the lane (R385, R389). The slot of a reaction goes first in the rotation (R390). -/
def State.xlkSend (s : State) (r : XlkRec) : State :=
  let x := s.xlk
  ({ s with
    xlk := { x with
      first := match r with
        | .react n _ _ => if x.first.contains n then x.first else x.first ++ [n]
        | _ => x.first } } : State).laneSend 2 (.sent r) false

/-- Page `p` belongs to a mirrored region (R388). -/
def State.mirrorsKind (s : State) (p : PageRef) : Bool :=
  match p.kind with
  | .ltb => true
  | .asc => true
  | .axl => s.mirrored p.inst
  | .axp => s.mirrored p.inst
  | .axg => s.mirrored p.inst
  | .axc => s.mirrored p.inst
  | .sil => decide (p.inst < 64) && s.mirrored p.inst
  | _ => false

/-- Address `a` lies in the repetitive table of a mirrored slot (R388). -/
def State.mirrorsTable (s : State) (a : Nat) : Bool := (List.range 64).any fun n => s.mirrored n && decide (s.rcAddr n ≠ 0) && decide (s.rcAddr n ≤ a) && decide (a < s.rcAddr n + 0x4000)

/-- Address `a` lies in a mirrored region: a page, the ASC entry table, the cam knots and descriptors, a repetitive table (R388). -/
def State.mirrorsAddr (s : State) (a : Nat) : Bool :=
  if 0x01000000 ≤ a then (decide (0x02000000 ≤ a) && decide (a < 0x02401000)) || (decide (0x027F0000 ≤ a) && decide (a < 0x02800000)) || (decide (a < 0x01240000) && s.mirrorsTable a)
  else
    match pageOf a with
    | none => false
    | some p => s.mirrorsKind p

/-- The standby takes this address from its active peer (R388). -/
def State.standbyAddr (s : State) (a : Nat) : Bool := s.role == 2 && !s.xlk.applying && s.mirrorsAddr a

/-- The active device forwards a write to a mirrored region (R388, R389). -/
def State.mirrorWrite (s : State) (a : Nat) (bytes : List Byte) : State :=
  if s.role == 1 && s.fld XLK_XLK_STAT 1 0 == 2 && s.mirrorsAddr a then s.xlkSend (.write a bytes) else s

/-- Where a standby records a write that it ignores: the page of the register; for a memory window, GLB.0 (R388, R596). -/
def State.standbyErr (s : State) (a : Nat) : State := if a < 0x01000000 then s.errAt .state a else s.err 0 .state (a % 0x1000)

/-- A software write of `bytes` at `a` with the effect `f`: a standby ignores and records it in a mirrored region, an active device forwards it (R388). -/
def State.softBytes (s : State) (a : Nat) (bytes : List Byte) (f : State → State) : State :=
  if s.standbyAddr a then s.standbyErr a else (f s).mirrorWrite a bytes

/-- A software write of one word. -/
def State.softWrite (s : State) (a : Nat) (v : W32) (f : State → State) : State := s.softBytes a (leBytes 4 v.toNat) f

/-! ### What a slot is bound to, and whether it is guarded -/

/-- An active set is in force (R426). -/
def State.safRun (s : State) : Bool := s.bit SAF0_SAF_STAT 0

/-- Whether guarded-axis block `g` of the active set guards slot `n` (R401). -/
def State.guards (s : State) (g n : Nat) : Bool := s.safRun && s.actBit (SAF0_GA_CFG g) 6 && s.actFld (SAF0_GA_CFG g) 5 0 == n

/-- Whether slot `n` is guarded (R401). -/
def State.guarded (s : State) (n : Nat) : Bool := (List.range 16).any fun g => s.guards g n

/-- The axis slot that channel `c` is bound to, if any (R16). -/
def State.slotOfLdc (s : State) (c : Nat) : Option Nat := if tabHas c s.ldcSlot then some (tabGet 0 c s.ldcSlot) else none

/-- The channel bound to slot `n`, if any. -/
def State.ldcOfSlot (s : State) (n : Nat) : Option Nat := (List.range 6).find? fun c => s.slotOfLdc c == some n

end Sys2Proof.Machine
end

