-- ==== Sys2Proof/Machine/AxlView.lean ====
section
/-! DEFINITION. What the AXL page of a slot shows of the axis, its LPU and its repetitive table at the moment it is read (R175, R178, R187, R200, R202, R225). -/

namespace Sys2Proof.Machine

/-- The four pages of slot `n` (R587). -/
def axlPage (n : Nat) : Nat := 0x100000 + n * 0x4000
def axpPage (n : Nat) : Nat := 0x101000 + n * 0x4000
def axgPage (n : Nat) : Nat := 0x102000 + n * 0x4000
def axcPage (n : Nat) : Nat := 0x103000 + n * 0x4000

/-- The axis and the gear of slot `n`. -/
def State.axis (s : State) (n : Nat) : Axis := tabGet Axis.reset n s.axes
def State.setAxis (s : State) (n : Nat) (x : Axis) : State := { s with axes := tabSet n x s.axes }
def State.gear (s : State) (n : Nat) : Gear := tabGet Gear.reset n s.gears
def State.setGear (s : State) (n : Nat) (x : Gear) : State := { s with gears := tabSet n x s.gears }

/-- The servo of slot `n`. -/
def State.servo (s : State) (n : Nat) : Servo := tabGet Servo.reset n s.servos
def State.setServo (s : State) (n : Nat) (x : Servo) : State := { s with servos := tabSet n x s.servos }

/-- The slot is tuning-locked (R187). -/
def State.tuneLocked (s : State) (n : Nat) : Bool := s.bit (AXL_TUNE n) 0 || s.guarded n

/-- The repetitive controller is on (R201). -/
def State.rcEnabled (s : State) (n : Nat) : Bool := s.actBit (AXL_LOOP_CTL n) 12

/-- F_STATE, while the repetitive controller is on, and F_SAVE, as they stand now (R178). -/
def State.rcHeldBy (s : State) (n : Nat) : Nat :=
  let st := (s.axis n).st
  let idle := s.rcEnabled n && !(st == .closed || st == .moving || st == .following)
  (if idle then 8 else 0) + (if (s.servo n).rcCmd = 1 then 16 else 0)

/-- RC_STAT as it reads: the reasons of the last run with those that stand now, and FROZEN (R178, R202). -/
def State.rcStat (s : State) (n : Nat) : W32 :=
  let f := s.fld (AXL_RC_STAT n) 3 1 + s.rcHeldBy n
  withFld (s.rd (AXL_RC_STAT n)) 5 0 (2 * f + (if f = 0 then 0 else 1))

end Sys2Proof.Machine
end

