-- ==== Sys2Proof/Machine/Plan.lean ====
section
/-! DEFINITION. The mathematics of the engines' plans (R123, R124, R129, R131, R138): ramps under acceleration and jerk limits, moves, polynomial segments, their evaluation in closed form.
Positions, velocities, accelerations and jerks are integers in units of 2^-64 turns (or cycles), per second; times are integers in units of 2^-16 tick. Rounding inside these formats is the model's (log 8). -/

namespace Sys2Proof.Machine

/-- Time units in one second: 2^16 for each of the 4 × 10^9 ticks. -/
def unitsPerSec : Int := 4000000000 * 65536

/-- Time units in one tick. -/
def unitsPerTick : Int := 65536

/-- The state at the end of `x` time units of constant jerk `j` from `k`. -/
def Kin.after (k : Kin) (j x : Int) : Kin :=
  let u := unitsPerSec
  { p := k.p + k.v * x / u + k.a * x * x / (2 * u * u) + j * x * x * x / (6 * u * u * u)
    v := k.v + k.a * x / u + j * x * x / (2 * u * u)
    a := k.a + j * x / u }

/-- The state after every phase of a list. -/
def Kin.afterAll (k : Kin) : List Phase → Kin
  | [] => k
  | ph :: t => (Kin.after ⟨k.p, k.v, ph.setA.getD k.a⟩ ph.jerk ph.dur).afterAll t

/-- The total duration of a list of phases. -/
def phasesDur : List Phase → Int
  | [] => 0
  | ph :: t => ph.dur + phasesDur t

/-- The time, in units, for a quantity `x` to pass at the rate `r` per second. -/
def unitsFor (x r : Int) : Int := if r = 0 then 0 else x * unitsPerSec / r

/-- The square root of a product of two quantities in units of 2^-64. -/
def sqrtQ (x y : Int) : Int := (isqrt (x * y).toNat : Nat)

/-- The phases that bring acceleration from `a0` to 0 at jerk `j`. -/
def bleed (a0 j : Int) (part : Part) : List Phase :=
  if a0 = 0 then [] else [⟨unitsFor a0.natAbs j, if 0 < a0 then -j else j, none, part⟩]

/-- A ramp of velocity from `k` to `w` ending at zero acceleration, under the acceleration limit `lim` and jerk `j`, where `k.a` is 0 or points towards `w` and bringing it to 0 does not pass `w`: acceleration goes to its peak, holds, and returns to 0 (R123).
An acceleration already above `lim` first falls to it, at the jerk limit. -/
def rampOneWay (k : Kin) (w lim j : Int) (part : Part) : List Phase :=
  let s : Int := if w < k.v then -1 else 1
  let dv := s * (w - k.v)
  let a0 := max 0 (s * k.a)
  -- the peak at which rising from a0 and falling to 0 makes exactly dv
  let pk : Int := (isqrt (j * dv + a0 * a0 / 2).toNat : Nat)
  let out (peak held : Int) : List Phase :=
    [⟨unitsFor (peak - a0).natAbs j, if peak < a0 then -(s * j) else s * j, none, part⟩] ++
      (if held ≤ 0 then [] else [⟨unitsFor held lim, 0, none, part⟩]) ++ [⟨unitsFor peak j, -(s * j), none, part⟩]
  if lim < a0 then out lim (dv - a0 * a0 / (2 * j))
  else if pk ≤ lim then out (max a0 pk) 0
  else out lim (dv - (lim * lim - a0 * a0) / (2 * j) - lim * lim / (2 * j))

/-- The velocity that is left when acceleration is brought to 0 at jerk `j`. -/
def Kin.settled (k : Kin) (j : Int) : Int := k.v + k.a * (k.a.natAbs : Int) / (2 * j)

/-- A ramp from `k` to `w` whose acceleration needs no return through 0: under `acc` while speed rises and `dec` while it falls. A change of direction is two ramps that meet at zero velocity and zero acceleration,
unless the acceleration present carries the velocity through zero by itself: then it is one, under the smaller limit (DESIGN CHOICE, log 61). -/
def rampStraight (lm : Limits) (k : Kin) (w : Int) (part : Part) : List Phase :=
  let j := lm.jerk
  let vz := k.settled j
  if (0 < k.v ∧ w < 0) ∨ (k.v < 0 ∧ 0 < w) then
    if (0 < k.v ∧ 0 < vz) ∨ (k.v < 0 ∧ vz < 0) then
      let d := rampOneWay k 0 lm.dec j part
      d ++ rampOneWay ⟨(k.afterAll d).p, 0, 0⟩ w lm.acc j part
    else rampOneWay k w (min lm.acc lm.dec) j part
  else rampOneWay k w (if k.v.natAbs ≤ w.natAbs then lm.acc else lm.dec) j part

/-- A velocity change from `k` to `w` (R42, R123): an acceleration that points away, or that would pass `w`, first returns to 0 at the jerk limit. -/
def rampTo (lm : Limits) (k : Kin) (w : Int) (part : Part) : List Phase :=
  let vz := k.settled lm.jerk
  if (0 < k.a ∧ w < vz) ∨ (k.a < 0 ∧ vz < w) then
    let b := bleed k.a lm.jerk part
    let k' := k.afterAll b
    b ++ rampStraight lm ⟨k'.p, k'.v, 0⟩ w part
  else rampStraight lm k w part

/-- The distance a list of phases covers from `k`. -/
def phasesDist (k : Kin) (l : List Phase) : Int := (k.afterAll l).p - k.p

/-- The stop from `k` at the deceleration of `lm` with its jerk (R130). -/
def stopPhases (lm : Limits) (k : Kin) : List Phase := rampTo lm k 0 .decel

/-- The stop of reaction QUICK: deceleration `dec` from the first instant, without jerk limiting (R25, R130). -/
def quickPhases (dec : Int) (k : Kin) : List Phase :=
  if k.v = 0 then [⟨0, 0, some 0, .decel⟩]
  else [⟨unitsFor k.v.natAbs dec, 0, some (if 0 < k.v then -dec else dec), .decel⟩, ⟨0, 0, some 0, .decel⟩]

/-- The phases of a move that goes to velocity `w` (signed) and arrives with velocity `v1`: its acceleration part and its deceleration part (R125). -/
def viaPeak (lm : Limits) (k : Kin) (w v1 : Int) : List Phase × List Phase :=
  let up := rampTo lm k w .accel
  let m := k.afterAll up
  (up, rampTo lm ⟨m.p, w, 0⟩ v1 .decel)

/-- The distance of `viaPeak`, in the direction `s`. -/
def viaPeakDist (lm : Limits) (k : Kin) (s w v1 : Int) : Int :=
  let (u, d) := viaPeak lm k (s * w) (s * v1)
  s * (phasesDist k u + phasesDist ⟨0, s * w, 0⟩ d)

/-- Bisection between `lo` and `hi` for the largest argument at which the rising function `f` does not pass `dist`. -/
def bisect (f : Int → Int) (dist : Int) : Nat → Int → Int → Int
  | 0, lo, _ => lo
  | n + 1, lo, hi =>
    let mid := (lo + hi) / 2
    if f mid ≤ dist then bisect f dist n mid hi else bisect f dist n lo mid

/-- A list of phases without its last one, and that one. -/
def splitLast : List Phase → List Phase × Option Phase
  | [] => ([], none)
  | [x] => ([], some x)
  | x :: t => (x :: (splitLast t).1, (splitLast t).2)

/-- The phases `l` with the last of them cut to `x` time units, and the ramp from there to velocity `v1`: a braking that is released only in part. -/
def partRelease (lm : Limits) (k : Kin) (l : List Phase) (v1 x : Int) : List Phase :=
  let (b, e) := splitLast l
  let l' := b ++ (match e with
    | none => []
    | some ph => [{ ph with dur := x }])
  l' ++ rampTo lm (k.afterAll l') v1 .decel

/-- The direct move from `k` over `dist` in direction `s`, arriving with velocity `v1` in that direction; the caller has checked that it exists (R124, R138).
The move passes through the velocity that is left when the present acceleration is released, or the arrival velocity, whichever is more, and rises above it as far as the distance lets it: the highest peak is the shortest time.
Where the distance does not let the present braking be released wholly, it is released in part. -/
def directMove (lm : Limits) (k : Kin) (s dist v1 : Int) : List Phase :=
  let base := min lm.vmax (max v1 (s * k.settled lm.jerk))
  let full := viaPeakDist lm k s lm.vmax v1
  if full ≤ dist then
    let (u, d) := viaPeak lm k (s * lm.vmax) (s * v1)
    u ++ [⟨unitsFor (dist - full) lm.vmax, 0, some 0, .cruise⟩] ++ d
  else if viaPeakDist lm k s base v1 ≤ dist then
    let w := bisect (fun w => viaPeakDist lm k s (w * 4294967296) v1) dist 50 (base / 4294967296) (lm.vmax / 4294967296 + 1) * 4294967296
    let w' := max base w
    let (u, d) := viaPeak lm k (s * w') (s * v1)
    let gap := dist - viaPeakDist lm k s w' v1
    u ++ (if w' = 0 ∨ gap ≤ 0 then [] else [⟨unitsFor gap w', 0, some 0, .cruise⟩]) ++ d
  else
    let l := rampTo lm k (s * base) .accel
    let x := bisect (fun x => s * phasesDist k (partRelease lm k l (s * v1) x)) dist 64 0 (((splitLast l).2.map (·.dur)).getD 0)
    partRelease lm k l (s * v1) x

/-- The rest-to-rest move from position `p` to `q` (R124). -/
def restMove (lm : Limits) (p q : Int) : List Phase :=
  if p = q then [] else if p < q then directMove lm ⟨p, 0, 0⟩ 1 (q - p) 0 else directMove lm ⟨p, 0, 0⟩ (-1) (p - q) 0

/-- The direction of present motion: of the velocity, or of the acceleration at zero velocity; 0 at rest. -/
def Kin.dir (k : Kin) : Int := if 0 < k.v then 1 else if k.v < 0 then -1 else if 0 < k.a then 1 else if k.a < 0 then -1 else 0

/-- What rounding may make of an exact position: a plan that reaches a point within it reaches the point (log 8). -/
def roundSlack : Int := 2 ^ 28

/-- The point at which the stop from `k` comes to rest. -/
def stopPoint (lm : Limits) (k : Kin) : Int := (k.afterAll (stopPhases lm k)).p

/-- Mark phases as those of a reversal (PROF_STAT.REVERSING, R131). -/
def markReversing (l : List Phase) : List Phase := l.map fun ph => { ph with part := .reversing }

/-- The direct move to `q` with arrival velocity `v1` (signed, in the direction of motion `s`) exists: the ramp to `v1` does not pass `q`. -/
def reaches (lm : Limits) (k : Kin) (s q v1 : Int) : Bool := decide (0 ≤ s * (q - k.p - phasesDist k (rampTo lm k v1 .decel)) + roundSlack)

/-- The move from a moving state to rest at `q`: direct where the target lies ahead of the stopping point, else through the reversal point (R124, R131). -/
def moveToRest (lm : Limits) (k : Kin) (q : Int) : List Phase :=
  let s := k.dir
  if s = 0 then restMove lm k.p q
  else if reaches lm k s q 0 then directMove lm k s (s * (q - k.p)) 0
  else markReversing (stopPhases lm k) ++ restMove lm (stopPoint lm k) q

/-- The move to position `q` arriving with velocity `v1` and zero acceleration (R138): direct where it exists; else from the reversal point, where a direct move from rest there exists;
else through the point from which the ramp from rest to `v1` ends at `q`. -/
def moveToVel (lm : Limits) (k : Kin) (q v1 : Int) : List Phase :=
  if v1 = 0 then moveToRest lm k q
  else
    let s : Int := if 0 < v1 then 1 else -1
    let sp := stopPoint lm k
    if 0 ≤ s * k.dir ∧ reaches lm k s q v1 = true then directMove lm k s (s * (q - k.p)) (s * v1)
    else if k.dir ≠ 0 ∧ reaches lm ⟨sp, 0, 0⟩ s q v1 = true then
      markReversing (stopPhases lm k) ++ directMove lm ⟨sp, 0, 0⟩ s (s * (q - sp)) (s * v1)
    else
      let acc := rampTo lm ⟨0, 0, 0⟩ v1 .accel
      let r := q - phasesDist ⟨0, 0, 0⟩ acc
      moveToRest lm k r ++ acc

/-- The smallest occurrence `q + k × per` that is not below `x`. -/
def occAbove (q per x : Int) : Int := if per ≤ 0 then q else q + (-((q - x) / per)) * per

/-- The largest occurrence `q + k × per` that is not above `x`. -/
def occBelow (q per x : Int) : Int := if per ≤ 0 then q else q - (-((x - q) / per)) * per

/-- The total travel of the move from `k` to rest at `q`: through the stopping point where the target lies behind it (R132). -/
def travel (lm : Limits) (k : Kin) (q : Int) : Int :=
  let s := k.dir
  let sp := stopPoint lm k
  if s = 0 ∨ reaches lm k s q 0 = true then ((q - k.p).natAbs : Nat) else ((sp - k.p).natAbs : Nat) + ((q - sp).natAbs : Nat)

/-- The occurrence of a modulo target that the direction policy chooses (R132). -/
def modTarget (lm : Limits) (k : Kin) (q per : Int) (pol : Nat) : Int :=
  let sp := stopPoint lm k
  let f := occAbove q per sp
  let b := occBelow q per sp
  match pol with
  | 1 => f
  | 2 => b
  | _ =>
    let tf := travel lm k f
    let tb := travel lm k b
    if tf < tb then f
    else if tb < tf then b
    else if k.dir < 0 then b else f

/-! ### Evaluation -/

/-- The state and the part `x` time units into a list of phases from `k`; at and after the end, the state at the end. -/
def evalPhases (k : Kin) (x : Int) : List Phase → Kin × Option Part
  | [] => (k, none)
  | ph :: t =>
    let k' : Kin := ⟨k.p, k.v, ph.setA.getD k.a⟩
    if x < ph.dur then (k'.after ph.jerk x, some ph.part)
    else evalPhases (k'.after ph.jerk ph.dur) (x - ph.dur) t

/-- Horner's rule on `Σ c_i (x / n)^i`, with the first and second derivatives with respect to the fraction, the list starting at power `i`. -/
def hornerAux (x n : Int) (i : Int) : List Int → Int × Int × Int
  | [] => (0, 0, 0)
  | c :: t =>
    let (p, v, a) := hornerAux x n (i + 1) t
    (c + p * x / n, i * c + v * x / n, i * (i - 1) * c + a * x / n)

/-- A polynomial in the fraction `x / n` and its two derivatives with respect to the fraction. -/
def polyAt (c : List Int) (x n : Int) : Int × Int × Int :=
  ((hornerAux x n 0 c).1, (hornerAux x n 1 (c.drop 1)).2.1, (hornerAux x n 2 (c.drop 2)).2.2)

/-- The state of a polynomial segment `x` ticks into its `n` ticks (R138). -/
def evalPoly (c : List Int) (x n : Int) : Kin :=
  let (p, v, a) := polyAt c x n
  { p := p, v := v * 4000000000 / n, a := a * 4000000000 * 4000000000 / (n * n) }

/-- The quintic in a fraction that matches position and two derivatives at 0 and at 1. -/
def quinticCoef (p0 d0 dd0 p1 d1 dd1 : Int) : List Int :=
  let d := p1 - p0
  [p0, d0, dd0 / 2, 10 * d - 6 * d0 - 4 * d1 - 3 * (dd0 / 2) + dd1 / 2, -15 * d + 8 * d0 + 7 * d1 + 3 * (dd0 / 2) - dd1,
    6 * d - 3 * d0 - 3 * d1 - dd0 / 2 + dd1 / 2]

/-- `c × (10 x³ − 15 x⁴ + 6 x⁵)` at the fraction `x / n` held within 0 and 1 (R108, R110). -/
def smoothStep (c x n : Int) : Int := if n ≤ 0 then c else (polyAt [0, 0, 0, 10 * c, -15 * c, 6 * c] (clampInt 0 n x) n).1

/-- The coefficients of the Hermite cubic over `n` ticks (PVT, R138). -/
def hermite3 (k0 : Kin) (p1 v1 n : Int) : List Int :=
  let t (v : Int) : Int := v * n / 4000000000
  let d := p1 - k0.p
  [k0.p, t k0.v, 3 * d - 2 * t k0.v - t v1, -2 * d + t k0.v + t v1]

/-- The coefficients of the Hermite quintic over `n` ticks (PVAT, R138). -/
def hermite5 (k0 : Kin) (p1 v1 a1 n : Int) : List Int :=
  let t (v : Int) : Int := v * n / 4000000000
  let q (a : Int) : Int := a * n * n / (2 * 4000000000 * 4000000000)
  let d := p1 - k0.p
  [k0.p, t k0.v, q k0.a,
    10 * d - 6 * t k0.v - 4 * t v1 - 3 * q k0.a + q a1,
    -15 * d + 8 * t k0.v + 7 * t v1 + 3 * q k0.a - 2 * q a1,
    6 * d - 3 * t k0.v - 3 * t v1 - q k0.a + q a1]

/-- Time units since the plan's start, at device time `t` ticks. -/
def Plan.elapsed (pl : Plan) (t : Nat) : Int := (t : Int) * unitsPerTick - pl.t0

/-- The duration of the plan, in time units. -/
def Plan.dur (pl : Plan) : Int :=
  match pl.shape with
  | .phases l => phasesDur l
  | .poly _ n => n * unitsPerTick

/-- Whether the plan has ended at device time `t` (R125). -/
def Plan.ended (pl : Plan) (t : Nat) : Bool := decide (pl.dur ≤ pl.elapsed t)

/-- The commanded state at device time `t`: past the end it is exactly the plan's end state, moving on at the end velocity (R125). -/
def Plan.eval (pl : Plan) (t : Nat) : Kin :=
  let x := pl.elapsed t
  if pl.dur ≤ x then ⟨pl.fin.p + pl.fin.v * (x - pl.dur) / unitsPerSec, pl.fin.v, 0⟩
  else
    match pl.shape with
    | .phases l => (evalPhases pl.start x l).1
    | .poly c n => evalPoly c (x / unitsPerTick) n

/-- The part of the plan at device time `t`, none once it is over. -/
def Plan.partAt (pl : Plan) (t : Nat) : Option Part :=
  match pl.shape with
  | .phases l => (evalPhases pl.start (pl.elapsed t) l).2
  | .poly _ n => if pl.elapsed t < n * unitsPerTick then some .accel else none

/-- A plan of phases from `k` at device time `t`, ending exactly at `fin`. -/
def mkPlan (t : Nat) (k : Kin) (l : List Phase) (fin : Kin) : Plan := ⟨(t : Int) * unitsPerTick, k, .phases l, fin⟩

/-- A plan that ends where its phases end, at velocity `v`. -/
def openPlan (t : Nat) (k : Kin) (l : List Phase) (v : Int) : Plan := mkPlan t k l ⟨(k.afterAll l).p, v, 0⟩

/-- A plan that rests at `p`. -/
def restPlan (t : Nat) (p : Int) : Plan := mkPlan t ⟨p, 0, 0⟩ [] ⟨p, 0, 0⟩

end Sys2Proof.Machine
end

