-- ==== Sys2Proof/Machine/Ltb.lean ====
section
/-! DEFINITION. The line timebase: the line at an instant (R44), the prediction of a crossing (R45), the virtual master generator (R39 to R43), device-time discipline and calendar time (R53 to R59). -/

namespace Sys2Proof.Machine

/-- The LTB page. -/
def ltbPage : Nat := 0x8000

/-- A 32.32 register value, in units of 2^-64. -/
def q64 (x : Int) : Int := x * 4294967296

/-- An integer in units of 2^-64, truncated towards −∞ to units of 2^-32 (R43, R125). -/
def q32 (x : Int) : Int := x / 4294967296

/-- A signed 32.32 pair of registers, in units of 2^-64. -/
def State.sPair (s : State) (lo : Nat) : Int := q64 (signedOf 64 (s.rd64 lo))

/-- An unsigned 32.32 pair of registers, in units of 2^-64. -/
def State.uPair (s : State) (lo : Nat) : Int := q64 (s.rd64 lo : Nat)

/-- The line state some time after it: the cubic of R44. -/
def LineState.at (l : LineState) (t : Nat) : Kin := l.k.after l.j (((t : Int) - (l.t : Int)) * unitsPerTick)

/-- What is left at time `t` of a slew's difference, in units of 2^-64 (R51). -/
def slewLeft (sl : Option (Int × Nat × Nat)) (t : Nat) : Int :=
  match sl with
  | none => 0
  | some (d, t0, n) => if n ≤ t - t0 then 0 else d - d * ((t - t0 : Nat) : Int) / (n : Int)

/-- The velocity that a slew adds, per second (R51). -/
def slewRate (sl : Option (Int × Nat × Nat)) (t : Nat) : Int :=
  match sl with
  | none => 0
  | some (d, t0, n) => if n ≤ t - t0 then 0 else -(d * 4000000000 / (n : Int))

/-- The line state and the slew that hold at device time `t`: the most recent line state with t0 ≤ t (R44). -/
def Ltb.stateAt (l : Ltb) (t : Nat) : LineState × Option (Int × Nat × Nat) :=
  if t < l.line.t then l.prev.getD (l.line, l.slew) else (l.line, l.slew)

/-- Before a new line state of device time `t`: the present one is kept as the one before it (R44). -/
def Ltb.keep (l : Ltb) (t : Nat) : Ltb := if l.line.t < t then { l with prev := some (l.line, l.slew) } else l

/-- The line at device time `t` (R44), with the slew of R51. -/
def State.lineAt (s : State) (t : Nat) : Kin :=
  let b := s.ltb.stateAt t
  let k := b.1.at t
  ⟨k.p + slewLeft b.2 t, k.v + slewRate b.2 t, k.a⟩

/-- The line angle as published: unsigned 32.32, wrapping (R30, R43). -/
def State.angleAt (s : State) (t : Nat) : Nat := wrapTo 64 (q32 (s.lineAt t).p)

/-- The source in force, STATUS.ACTIVE_SRC (R64). -/
def State.lineSrc (s : State) : Nat := s.fld LTB_STATUS 4 3

/-- PRED_VMIN in units of 2^-64 per second. -/
def State.predVmin (s : State) : Int := ((s.rd LTB_PRED_VMIN).toNat : Int) * 2 ^ 48

/-! ### Prediction (R45) -/

/-- The outcomes of a prediction. -/
inductive Outcome45 where
  | ahead (t : Nat)
  | far
  | behind
  | notReached
  | unpredicted
deriving DecidableEq, Repr

/-- The code of an outcome (R45). -/
def Outcome45.code : Outcome45 → Nat
  | .ahead _ => 0
  | .far => 1
  | .behind => 2
  | .notReached => 3
  | .unpredicted => 4

/-- The first time, in units, at which velocity `v + a τ + j τ²/2` (with `v` positive) falls to 0, if it does. -/
def velocityZero (v a j : Int) : Option Int :=
  if j = 0 then (if a < 0 then some (v * unitsPerSec / (-a)) else none)
  else
    let disc := a * a - 2 * j * v
    if disc < 0 then none
    else
      let r : Int := (isqrt disc.toNat : Nat)
      if 0 < j then
        -- falls to 0 only if it falls first
        (if a < 0 then some ((-a - r) * unitsPerSec / j) else none)
      else some ((a + r) * unitsPerSec / (-j))

/-- Three Newton steps on the cubic (R45). -/
def newton (v a j d : Int) : Nat → Int → Int
  | 0, tau => tau
  | n + 1, tau =>
    let k := Kin.after ⟨0, v, a⟩ j tau
    newton v a j d n (if k.v = 0 then tau else tau - (k.p - d) * unitsPerSec / k.v)

/-- The prediction of R45: the crossing of angle `tgt` from the state `l`, with horizon `h` ticks and floor `vmin`. -/
def predict (l : LineState) (tgt : Int) (h : Nat) (vmin : Int) : Outcome45 :=
  let d := tgt - l.k.p
  let v := l.k.v
  if (v.natAbs : Int) < vmin then .unpredicted
  else if d = 0 ∨ (0 < d ∧ v ≤ 0) ∨ (d < 0 ∧ 0 ≤ v) then .behind
  else
    let s : Int := if v < 0 then -1 else 1
    let hu : Int := (h : Int) * unitsPerTick
    let blocked :=
      match velocityZero (s * v) (s * l.k.a) (s * l.j) with
      | none => false
      | some z => decide (z ≤ hu) && decide (s * ((l.k.after l.j z).p - l.k.p) < s * d)
    if blocked then .notReached
    else
      let tau := newton v l.k.a l.j d 3 (d * unitsPerSec / v)
      if hu < tau then .far else .ahead (l.t + ((2 * tau + unitsPerTick) / (2 * unitsPerTick)).toNat)

/-- The line state at the present instant, for a prediction made now. -/
def State.lineNow (s : State) : LineState := ⟨s.dt, s.lineAt s.dt, s.ltb.line.j⟩

/-! ### Line state reporting -/

/-- Set STATUS.STATE; a change raises STATE_CHG (R64, R66). -/
def State.setLineSt (s : State) (v : Nat) : State :=
  if s.fld LTB_STATUS 2 0 = v then s else (s.wrFld LTB_STATUS 2 0 v).raise ltbPage 2

/-- The STATE code of a generator state (R64). -/
def VmgState.num : VmgState → Nat
  | .stop => 0
  | .ramp => 1
  | .run => 2
  | .hold => 3

/-- Enter a generator state. -/
def State.setVmg (s : State) (v : VmgState) : State :=
  ({ s with ltb := { s.ltb with vmg := v } } : State).setLineSt v.num

/-! ### The virtual master generator -/

/-- The jerk of a plan at time `t`. -/
def Plan.jerkAt (pl : Plan) (t : Nat) : Int :=
  let rec go (x : Int) (l : List Phase) : Int :=
    match l with
    | [] => 0
    | ph :: r => if x < ph.dur then ph.jerk else go (x - ph.dur) r
  match pl.shape with
  | .phases l => go (pl.elapsed t) l
  | .poly _ _ => 0

/-- The generator's state at time `t`: its plan, or the line state it holds. -/
def State.vmgAt (s : State) (t : Nat) : Kin :=
  match s.ltb.plan with
  | some pl => pl.eval t
  | none => s.ltb.line.at t

/-- Begin a ramp to velocity `w` with the stored limits, from the present state (R42). -/
def State.vmgRamp (s : State) (w : Int) : State :=
  let k := s.vmgAt s.dt
  let l := rampTo s.ltb.lims k w .accel
  ({ s with ltb := { s.ltb.keep s.dt with plan := some (openPlan s.dt k l w), toHold := false, line := ⟨s.dt, k, 0⟩ } } : State).setVmg .ramp

/-- The target of VMG_TGT after the clamp of R40; a clamp is recorded. -/
def State.vmgTarget (s : State) : Int × State :=
  let x := s.sPair LTB_VMG_TGT_LO
  let m := s.uPair LTB_VMG_VMAX_LO
  if m < x then (m, s.errAt .clamped LTB_VMG_TGT_LO)
  else if x < -m then (-m, s.errAt .clamped LTB_VMG_TGT_LO)
  else (x, s)

/-- Read the stored limits from the command registers (R40). -/
def State.vmgReadAcc (s : State) : State := { s with ltb := { s.ltb with lims := { s.ltb.lims with acc := s.uPair LTB_VMG_ACC_LO } } }
def State.vmgReadDec (s : State) : State := { s with ltb := { s.ltb with lims := { s.ltb.lims with dec := s.uPair LTB_VMG_DEC_LO } } }
def State.vmgReadJerk (s : State) : State := { s with ltb := { s.ltb with lims := { s.ltb.lims with jerk := s.uPair LTB_VMG_JERK_LO } } }

/-- LINE_STOP's limits (R40). -/
def State.vmgReadStop (s : State) : State :=
  { s with ltb := { s.ltb with lims := { s.ltb.lims with dec := s.uPair LTB_STOP_DEC_LO, jerk := s.uPair LTB_STOP_JERK_LO } } }

/-- The generator executes one command (R39, R40); one with no row for the present state is refused and recorded. -/
def State.vmgExec (s : State) (c : VmgCmd) : State :=
  let refuse := s.errAt .state LTB_VMG_CMD
  match c with
  | .start =>
    let (w, s1) := s.vmgTarget
    let s2 : State := { s1 with ltb := { s1.ltb with target := w } }
    match s.ltb.vmg with
    | .hold => s2
    | .stop =>
      let s3 := ((s2.vmgReadAcc).vmgReadDec).vmgReadJerk
      if w = 0 then s3 else s3.vmgRamp w
    | .run =>
      let s3 := ((s2.vmgReadAcc).vmgReadDec).vmgReadJerk
      if w = (s.vmgAt s.dt).v then s3 else s3.vmgRamp w
    | .ramp => (((s2.vmgReadAcc).vmgReadDec).vmgReadJerk).vmgRamp w
  | .hold =>
    match s.ltb.vmg with
    | .run => s.vmgReadJerk.setVmg .hold
    | .ramp =>
      let s1 := s.vmgReadJerk
      let k := s1.vmgAt s1.dt
      let l := bleed k.a s1.ltb.lims.jerk .accel
      let v := (k.afterAll l).v
      { s1 with ltb := { s1.ltb.keep s1.dt with plan := some (openPlan s1.dt k l v), toHold := true, line := ⟨s1.dt, k, 0⟩ } }
    | _ => refuse
  | .resume =>
    match s.ltb.vmg with
    | .hold =>
      let s1 := ((s.vmgReadAcc).vmgReadDec).vmgReadJerk
      if (s.vmgAt s.dt).v = s.ltb.target then s1.setVmg .run else s1.vmgRamp s.ltb.target
    | _ => refuse
  | .stop =>
    match s.ltb.vmg with
    | .stop => refuse
    | _ => ((s.vmgReadDec).vmgReadJerk).vmgRamp 0
  | .lineStop =>
    match s.ltb.vmg with
    | .stop => refuse
    | _ => s.vmgReadStop.vmgRamp 0

/-- The rank of a command, strongest highest (R41). -/
def VmgCmd.rank : VmgCmd → Nat
  | .lineStop => 3
  | .stop => 2
  | .hold => 1
  | .start => 0
  | .resume => 0

/-- The strongest command of a list, the last written among equals (R41). -/
def strongest : List VmgCmd → Option VmgCmd
  | [] => none
  | c :: t =>
    match strongest t with
    | none => some c
    | some d => if d.rank < c.rank then some c else some d

/-- A write of VMG_CMD: the command waits for the next LTB step; refused unless SRC is 0 (R41, R65). -/
def State.vmgWrite (s : State) (c : VmgCmd) : State :=
  if s.lineSrc ≠ 0 then s.errAt .state LTB_VMG_CMD else { s with ltb := { s.ltb with cmds := s.ltb.cmds ++ [c] } }

/-- The generator takes the commands of the step that ends: the strongest acts, the others are recorded (R41). -/
def State.vmgTake (s : State) : State :=
  match strongest s.ltb.cmds with
  | none => s
  | some c =>
    let n := s.ltb.cmds.length - 1
    let s1 : State := { s with ltb := { s.ltb with cmds := [] } }
    (s1.each (List.range n) fun _ st => st.errAt .state LTB_VMG_CMD).vmgExec c

/-- The generator's plan has ended: RUN at the target, STOP at 0, HOLD after a frozen ramp (R39). -/
def State.vmgArrive (s : State) : State :=
  match s.ltb.plan with
  | none => s
  | some pl =>
    if pl.ended s.dt then
      let k := pl.eval s.dt
      let s1 : State := { s with ltb := { s.ltb.keep s.dt with plan := none, line := ⟨s.dt, ⟨k.p, pl.fin.v, 0⟩, 0⟩ } }
      s1.setVmg (if s.ltb.toHold then .hold else if pl.fin.v = 0 then .stop else .run)
    else { s with ltb := { s.ltb.keep s.dt with line := ⟨s.dt, pl.eval s.dt, pl.jerkAt s.dt⟩ } }

/-- The line state advanced to the present instant, where no plan drives it. -/
def State.lineAdvance (s : State) : State :=
  match s.ltb.plan with
  | some _ => s.vmgArrive
  | none => { s with ltb := { s.ltb.keep s.dt with line := ⟨s.dt, s.ltb.line.at s.dt, s.ltb.line.j⟩ } }

/-- Sources 1 and 2: the measured angle, velocity from the observer, PRED_ERR_MAX from the difference to the predicted angle (R33, R34, R48, R64). `pos` is the source position as a numerator over 2^64. -/
def State.lineMeasured (s : State) (pos : Int) : State :=
  let num := signedOf 32 (s.act LTB_SCALE_NUM).toNat
  let den : Int := (s.act LTB_SCALE_DEN).toNat
  let th := (if den = 0 then 0 else pos * num / den) + q64 (signedOf 64 (s.act64 LTB_SRC_OFS_LO))
  let old := s.ltb.line
  let (v, a, j) := Config.observer (s.actFld LTB_SRC_CTL 27 24) (old.k.v, old.k.a, old.j) (th - old.k.p) ((s.dt : Int) - old.t)
  let e := (q32 (th - (old.at s.dt).p)).natAbs
  let top := 4294967295
  let cur := (s.rd LTB_PRED_ERR_MAX).toNat
  let s1 := if cur < e ∧ cur < top then (s.wr LTB_PRED_ERR_MAX (BitVec.ofNat 32 (if top ≤ e then top else e))).raiseIf (decide (top ≤ e)) ltbPage 9 else s
  let s2 : State := { s1 with ltb := { s1.ltb.keep s.dt with line := ⟨s.dt, ⟨th, v, a⟩, j⟩ } }
  s2.setLineSt (if (v.natAbs : Int) < s.predVmin then 0 else 2)

/-! ### Snapshot, discipline, calendar time -/

/-- SLEW_LIM in the units of DISC_RATE, 2^-32: the largest rate that does not exceed it (R53, R60). -/
def State.slewLim (s : State) : Int := (s.fld LTB_DISC_CTL 16 8 : Nat) * 4294967296 / 1000000

/-- One measurement of the device-time offset, in ps: DISC_ERR, DISC_LOCKED, the applied rate (R53, R54). The rate that steers the offset out is not stated (log 11): DISC_RATE takes a free value within SLEW_LIM. -/
def State.discMeasure (s : State) (errPs : Int) : State :=
  let m := errPs.natAbs
  let run := if m < 1000 then s.ltb.discRun + 1 else 0
  let lim := s.slewLim
  let (f, s0) := s.nextFree
  let rate := clampInt (-lim) lim (Config.freeInt f)
  let s1 : State := { s0 with ltb := { s0.ltb with discRun := run } }
  let s2 := (s1.wr LTB_DISC_ERR (w32 errPs)).wr LTB_DISC_RATE (w32 rate)
  if 2000 < m then
    (if s2.bit LTB_STATUS 12 then (s2.wrBit LTB_STATUS 12 false).raise ltbPage 5 else s2)
  else if 16 ≤ run then s2.wrBit LTB_STATUS 12 true else s2

/-- Calendar time in units of 0.25 ns (R58). -/
def State.calendar (s : State) : Int := s.ltb.rtcBase + s.dt

/-- Seconds and nanoseconds of calendar time (R58). -/
def State.rtcSec (s : State) : Nat := wrapTo 48 (s.calendar / 4000000000)
def State.rtcNs (s : State) : Nat := (s.calendar % 4000000000).toNat / 4

/-- Set calendar time to the given seconds and nanoseconds: RTC_VALID and RTC_SET (R59). -/
def State.rtcSet (s : State) (sec ns : Nat) : State :=
  let s1 : State := { s with ltb := { s.ltb with rtcBase := ((sec : Int) * 1000000000 + ns) * 4 - s.dt } }
  (s1.wrBit LTB_STATUS 11 true).raise ltbPage 7

/-- The stop of a line loss from the present state, with the node's own STOP_DEC and STOP_JERK (R49). -/
def State.lineOwnStop (s : State) : State :=
  let k := s.lineAt s.dt
  let s1 : State := { s with ltb := { s.ltb.keep s.dt with line := ⟨s.dt, k, 0⟩, plan := none, slew := none, ownStop := true } }
  if k.v = 0 ∧ k.a = 0 then s1.setVmg .stop else s1.vmgReadStop.vmgRamp 0

end Sys2Proof.Machine
end

