-- ==== Sys2Proof/Machine/Silo.lean ====
section
/-! DEFINITION. The silos: their pointers, their storage, their operations and apertures (R486 to R492). -/

namespace Sys2Proof.Machine

/-- The SIL page of silo `i` (R495). -/
def silPage (i : Nat) : Nat := 0x40000 + i * 0x1000

/-- Depth of silo `i` in entries (R486). -/
def State.siloDepth (s : State) (i : Nat) : Nat := 2 ^ s.actFld (SIL_SIL_CFG i) 19 16

/-- The storage address of entry `x` of silo `i` (R486, R487). -/
def State.siloAddr (s : State) (i x : Nat) : Nat := 0x02500000 + 32 * (s.actFld (SIL_SIL_CFG i) 15 0 + x % s.siloDepth i)

/-- Entries that can be popped: WR − RD modulo 2^16 (R487). -/
def Silo.avail (q : Silo) : Nat := (q.wr + 65536 - q.rdp) % 65536

/-- Entries that occupy storage: WR − REL modulo 2^16 (R487). -/
def Silo.used (q : Silo) : Nat := (q.wr + 65536 - q.rel) % 65536

/-- Eight words of memory from `a`. -/
def State.words8 (s : State) (a : Nat) : List W32 := (List.range 8).map fun k => BitVec.ofNat 32 (s.memNat (a + 4 * k) 4)

/-- Store words from address `a` on. -/
def State.putWords (s : State) (a : Nat) : List W32 → State
  | [] => s
  | w :: t => (s.putNat a 4 w.toNat).putWords (a + 4) t

/-- The entry at RD. -/
def State.siloHead (s : State) (i : Nat) : List W32 := s.words8 (s.siloAddr i (s.silo i).rdp)

/-- The entry `k` places after RD. -/
def State.siloAhead (s : State) (i k : Nat) : List W32 := s.words8 (s.siloAddr i ((s.silo i).rdp + k))

/-- The empty pattern (R491). -/
def emptyPattern : List W32 := List.replicate 8 0xFFFFFFFF

/-- Whether a hardware consumer is attached (R492). -/
def State.siloAttached (s : State) (i : Nat) : Bool := s.bit (SIL_SIL_STAT i) 5

/-- Count a refused push or an empty read in SIL_CNT and raise its event (R487, R491, R497). -/
def State.siloRefused (s : State) (i : Nat) : State :=
  ((s.wrBit (SIL_SIL_STAT i) 3 true).raise (silPage i) 0).count (SIL_SIL_CNT i) 15 0 (silPage i) 4
def State.siloEmptyRead (s : State) (i : Nat) : State :=
  ((s.wrBit (SIL_SIL_STAT i) 4 true).raise (silPage i) 3).count (SIL_SIL_CNT i) 31 16 (silPage i) 4

/-- Push an entry: refused while USED equals the depth (R487). Answers whether it was accepted. -/
def State.siloPushEntry (s : State) (i : Nat) (e : List W32) : Bool × State :=
  let q := s.silo i
  if q.used = s.siloDepth i then (false, s.siloRefused i)
  else (true, (s.putWords (s.siloAddr i q.wr) e).setSilo i { q with wr := (q.wr + 1) % 65536 })

/-- Pop the entry at RD without freeing its storage (R487); the caller has checked that there is one. -/
def State.siloPopEntry (s : State) (i : Nat) : List W32 × State :=
  let q := s.silo i
  let e := s.siloHead i
  (e, s.setSilo i { q with rdp := (q.rdp + 1) % 65536, latch := e })

/-- REL has moved: a mark it has passed is lost (R488). -/
def State.siloMarkCheck (s : State) (i : Nat) : State :=
  let q := s.silo i
  if s.bit (SIL_SIL_STAT i) 0 ∧ 0 < signedOf 16 ((q.rel + 65536 - q.mark) % 65536) then
    ((s.wrBit (SIL_SIL_STAT i) 0 false).wrBit (SIL_SIL_STAT i) 1 true).raise (silPage i) 1
  else s

/-- Free up to `n` entries of storage, never past RD (R487). -/
def State.siloFree (s : State) (i n : Nat) : State :=
  let q := s.silo i
  let room := (q.rdp + 65536 - q.rel) % 65536
  (s.setSilo i { q with rel := (q.rel + min n room) % 65536 }).siloMarkCheck i

/-- RELEASE n: clamped to RD, a clamp is recorded (R487). -/
def State.siloReleaseN (s : State) (i n : Nat) : State :=
  let q := s.silo i
  let room := (q.rdp + 65536 - q.rel) % 65536
  (if room < n then s.err (silPage i) .clamped 0x48 else s).siloFree i n

/-- MARK (R487). -/
def State.siloSetMark (s : State) (i : Nat) : State :=
  let q := s.silo i
  (s.setSilo i { q with mark := q.rdp }).wrBit (SIL_SIL_STAT i) 0 true

/-- REWIND (R487, R488). -/
def State.siloDoRewind (s : State) (i : Nat) : State :=
  let q := s.silo i
  if s.bit (SIL_SIL_STAT i) 0 then s.setSilo i { q with rdp := q.mark }
  else (s.wrBit (SIL_SIL_STAT i) 2 true).raise (silPage i) 2

/-- FLUSH (R487). -/
def State.siloDoFlush (s : State) (i : Nat) : State :=
  let q := s.silo i
  (s.setSilo i { q with rdp := q.wr, rel := q.wr }).wrBit (SIL_SIL_STAT i) 0 false

/-- Attach or detach the hardware consumer (R492). -/
def State.siloAttach (s : State) (i : Nat) (on : Bool) : State := s.wrBit (SIL_SIL_STAT i) 5 on

/-- Words `w` to `w + n − 1` of an entry. -/
def entryWords (e : List W32) (w n : Nat) : List W32 := (e.drop w).take n

/-! ### The bus requesters -/

/-- The number of a requester (R601): PCIe, the four application cores, the safety processor, the eight DMA channels. -/
def reqNum : Requester → Nat
  | .pcie => 0
  | .apc c => 1 + c
  | .safety => 5
  | .dma c => 6 + c

/-- Give a requester the words of its read. -/
def State.reply (s : State) (req : Nat) (ws : List W32) : State := { s with rdata := tabSet req ws s.rdata }

/-! ### The meanings of the silo commands -/

/-- Stage words in the push window, from word `w` (R490). -/
def State.siloStage (s : State) (i w : Nat) (vs : List W32) : State :=
  let q := s.silo i
  s.setSilo i { q with staging := (q.staging.take w ++ vs ++ q.staging.drop (w + vs.length)).take 8 }

/-- The meaning of SILO_PUSH_STAGE: a write to the push window that does not include word 7 (R490). -/
def execSiloPushStage (i : Fin 96) (w : Fin 8) (vs : List W32) (s : State) : Host.Outcome State Fault Refusal :=
  .next (s.softBytes (silPage i + 0x100 + 4 * w) (vs.flatMap fun v => leBytes 4 v.toNat) fun st => st.siloStage i w vs)

/-- A write to the push window that includes word 7 (R490). -/
def State.siloBusPush (s : State) (i w : Nat) (vs : List W32) : State :=
  let s1 := s.siloStage i w vs
  let s2 := (s1.siloPushEntry i (s1.silo i).staging).2
  s2.setSilo i { s2.silo i with staging := List.replicate 8 0 }

/-- The meaning of SILO_PUSH: a write that includes word 7 stages its words, pushes the entry and clears the staging buffer (R490). -/
def execSiloPush (i : Fin 96) (w : Fin 8) (vs : List W32) (s : State) : Host.Outcome State Fault Refusal :=
  .next (s.softBytes (silPage i + 0x100 + 4 * w) (vs.flatMap fun v => leBytes 4 v.toNat) fun st => st.siloBusPush i w vs)

/-- A bus read of the pop window that includes word 0 (R490 to R492). -/
def State.siloBusPop (s : State) (r i n : Nat) : State :=
  if s.siloAttached i then (s.reply r (entryWords emptyPattern 0 n)).err (silPage i) .state 0x120
  else
    let q := s.silo i
    if q.avail = 0 ∨ q.stalled ≠ [] then
      if s.fld (SIL_STALL_LIM i) 15 0 = 0 ∧ q.avail = 0 then (s.reply r (entryWords emptyPattern 0 n)).siloEmptyRead i
      else s.setSilo i { q with stalled := q.stalled ++ [⟨r, 0, n, s.dt⟩] }
    else
      let (e, s1) := s.siloPopEntry i
      s1.reply r (entryWords e 0 n)

/-- The meaning of SILO_POP. -/
def execSiloPop (r : Requester) (i : Fin 96) (n : Fin 9) (s : State) : Host.Outcome State Fault Refusal := .next (s.siloBusPop (reqNum r) i n)

/-- The meaning of SILO_PEEK: the entry at RD, or the empty pattern at once (R490, R491). -/
def execSiloPeek (r : Requester) (i : Fin 96) (w : Fin 8) (n : Fin 9) (s : State) : Host.Outcome State Fault Refusal :=
  .next (s.reply (reqNum r) (entryWords (if (s.silo i).avail = 0 then emptyPattern else s.siloHead i) w n))

/-- The oldest stalled read completes with the entry that has arrived (R491). -/
def State.siloServe (s : State) (i : Nat) : State :=
  match (s.silo i).stalled with
  | [] => s
  | x :: rest =>
    if (s.silo i).avail = 0 then s
    else
      let (e, s1) := s.siloPopEntry i
      (s1.setSilo i { s1.silo i with stalled := rest }).reply x.req (entryWords e x.word x.count)

/-- The meaning of POP_STALL_SERVED. -/
def execPopStallServed (i : Fin 96) (s : State) : Host.Outcome State Fault Refusal := .next (s.siloServe i)

/-- STALL_LIM of silo `i` in ticks: units of 100 ns (R495). -/
def State.stallTicks (s : State) (i : Nat) : Nat := s.fld (SIL_STALL_LIM i) 15 0 * 400

/-- The oldest stalled read whose limit has expired returns the empty pattern (R491). -/
def State.siloTimeout (s : State) (i : Nat) : State :=
  match (s.silo i).stalled with
  | [] => s
  | x :: rest =>
    if s.dt < x.since + s.stallTicks i ∨ 0 < (s.silo i).avail then s
    else ((s.setSilo i { s.silo i with stalled := rest }).reply x.req (entryWords emptyPattern x.word x.count)).siloEmptyRead i

/-- The meaning of POP_STALL_TIMEOUT. -/
def execPopStallTimeout (i : Fin 96) (s : State) : Host.Outcome State Fault Refusal := .next (s.siloTimeout i)

/-- A bus command of an attached silo is refused and recorded (R492). -/
def State.siloCmd (s : State) (i : Nat) (f : State → State) : State :=
  if s.siloAttached i then s.err (silPage i) .state 0x48 else f s

/-- What a write of SIL_CMD does (R487, R492, R495): an N outside 1 to 4,096 and CMD 5 to 7 are refused. -/
def State.siloCmdDo (s : State) (i : Nat) (v : W32) : State :=
  let n := fldOf v 28 16
  match fldOf v 2 0 with
  | 0 => s
  | 1 => s.siloCmd i fun s => s.siloSetMark i
  | 2 => s.siloCmd i fun s => s.siloDoRewind i
  | 3 => s.siloCmd i fun s => s.siloDoFlush i
  | 4 => s.siloCmd i fun s => if n = 0 ∨ 4096 < n then s.err (silPage i) .value 0x48 else s.siloReleaseN i n
  | _ => s.err (silPage i) .value 0x48

/-- A write of SIL_CMD by software. -/
def State.siloCmdWrite (s : State) (i : Nat) (v : W32) : State := s.softWrite (silPage i + 0x48) v fun st => st.siloCmdDo i v

/-- The meaning of SILO_MARK. -/
def execSiloMark (i : Fin 96) (s : State) : Host.Outcome State Fault Refusal := .next (s.siloCmdWrite i 1)

/-- The meaning of SILO_REWIND. -/
def execSiloRewind (i : Fin 96) (s : State) : Host.Outcome State Fault Refusal := .next (s.siloCmdWrite i 2)

/-- The meaning of SILO_FLUSH. -/
def execSiloFlush (i : Fin 96) (s : State) : Host.Outcome State Fault Refusal := .next (s.siloCmdWrite i 3)

/-- The meaning of SILO_RELEASE. -/
def execSiloRelease (i : Fin 96) (n : Fin 8192) (s : State) : Host.Outcome State Fault Refusal := .next (s.siloCmdWrite i (BitVec.ofNat 32 (4 + n.val * 2 ^ 16)))

/-- Silos that overlap the storage `[lo, hi)` in entries, other than `i` (R486). -/
def State.siloOverlap (s : State) (i lo hi : Nat) : Bool :=
  (List.range 96).any fun j =>
    let b := s.actFld (SIL_SIL_CFG j) 15 0
    decide (j ≠ i) && decide (b < hi) && decide (lo < b + s.siloDepth j)

/-- Whether a COMMIT of SIL_CFG is refused: a silo with entries, an attached silo, a depth outside 4 to 12, storage outside the area or overlapping (R486, R495). -/
def State.siloCfgBad (s : State) (i : Nat) (v : W32) : Bool :=
  let b := fldOf v 15 0
  let d := fldOf v 19 16
  decide ((s.silo i).used ≠ 0) || s.siloAttached i || decide (d < 4) || decide (12 < d) || decide (65536 < b + 2 ^ d) || s.siloOverlap i b (b + 2 ^ d)

end Sys2Proof.Machine
end

