-- ==== Sys2Proof/Machine/Peek.lean ====
section
/-! DEFINITION. What a register reads as, without any effect of the read: the common registers, the registers that show live quantities, the stored registers
(R31, R461, R485, R490, R591, R597). -/

namespace Sys2Proof.Machine

/-- PAGE_ID (R591). -/
def pageIdOf (p : PageRef) : W32 :=
  let t := pageTempl p.kind
  let inst := if p.kind = .saf1 then 1 else p.inst
  BitVec.ofNat 32 (t.block + inst * 2 ^ 8 + 2 ^ 16 + t.die * 2 ^ 24)

/-- Whether a fault source of the page is active, PAGE_STAT.FAULT (R597): the axis's reaction, a protection latch, a lost position. -/
def State.pageFault (s : State) (p : PageRef) : Bool :=
  match p.kind with
  | .axl => (tabGet Axis.reset p.inst s.axes).react.isSome
  | .gdv => s.fld (GDV_FLT_STAT p.inst) 5 0 != 0
  | .fbp => s.fld (FBP_FB_STAT p.inst) 2 0 != 0 && !s.bit (FBP_FB_STAT p.inst) 3
  | _ => false

/-- PAGE_STAT.STATE where a register of the page shows the same state (R60, R235, R560). -/
def State.pageState (s : State) (p : PageRef) (a : Nat) : W32 :=
  match p.kind with
  | .ltb => withFld (s.rd a) 3 0 (s.fld LTB_STATUS 2 0)
  | .lpu => withFld (s.rd a) 3 0 (s.fld (LPU_ROLE p.inst) 2 0)
  | .can => withFld (s.rd a) 3 0 (s.fld (CAN_CAN_STAT p.inst) 1 0)
  | _ => s.rd a

/-- PAGE_STAT (R597): STATE is the page's own, the other fields follow from the page. -/
def State.pageStat (s : State) (p : PageRef) (a : Nat) : W32 :=
  withBit (withBit (withBit (s.pageState p a) 8 (s.commits.any fun c => c.page == p.base)) 9 (s.pageFault p)) 10 (s.fld (p.base + 0x1C) 7 0 != 0)

/-- The level of line `t` of routing kind `k` (R481). -/
def State.lineLevel (s : State) (k t : Nat) : Bool :=
  s.bit EVR_EVR_CTL 0 && (List.range 512).any fun e => routeKind (s.route e) == k && routeTarget (s.route e) == t && s.srcPending e

/-- The word that the levels of lines `lo` to `lo + n − 1` form. -/
def State.lineWord (s : State) (k lo n : Nat) : W32 :=
  BitVec.ofNat 32 ((List.range n).foldl (fun acc i => acc + (if s.lineLevel k (lo + i) then 2 ^ i else 0)) 0)

/-- The pending sources routed to lines `lo` to `lo + n − 1` of kind `k`, in the order of priority (R485). -/
def State.claimants (s : State) (k lo n : Nat) : List Nat :=
  s.bySrcPrio ((List.range 512).filter fun e =>
    routeKind (s.route e) == k && decide (lo ≤ routeTarget (s.route e)) && decide (routeTarget (s.route e) < lo + n) && s.srcPending e)

/-- CLAIM.c and SAF_CLAIM (R485, R494). -/
def State.claimWord (s : State) (k lo n : Nat) : W32 :=
  match s.claimants k lo n with
  | [] => 0
  | e :: _ => BitVec.ofNat 32 (e + (routeTarget (s.route e) - lo) * 2 ^ 9 + routePrio (s.route e) * 2 ^ 14 + 2 ^ 31)

/-- The live registers of the EVR page (R493). -/
def State.peekEvr (s : State) (o a : Nat) : W32 :=
  if o = 0x044 then BitVec.ofNat 32 s.actions.length
  else if 0x080 ≤ o ∧ o < 0x090 then s.claimWord 2 ((o - 0x080) / 4 * 32) 32
  else if o = 0x090 then s.claimWord 3 0 16
  else if 0x0A0 ≤ o ∧ o < 0x0B0 then s.lineWord 2 ((o - 0x0A0) / 4 * 32) 32
  else if o = 0x0B0 then s.lineWord 3 0 16
  else if 0x100 ≤ o ∧ o < 0x140 then
    let w := (o - 0x100) / 4
    BitVec.ofNat 32 ((List.range 32).foldl (fun acc b => acc + (if s.srcPending (32 * w + b) then 2 ^ b else 0)) 0)
  else s.rd a

/-- One half of a 64-bit quantity. -/
def halfOf (hi : Bool) (v : Nat) : W32 := BitVec.ofNat 32 (if hi then v / 2 ^ 32 else v)

/-- The live registers of the LTB page: the line state, device time, calendar time (R31, R58); SRC_OFS reads 0 with source 3 (R35). SNAP_T is stored by the read of ANGLE_LO. -/
def State.peekLtb (s : State) (o a : Nat) : W32 :=
  let hi := o / 4 % 2 == 1
  let k := s.lineAt s.dt
  match o / 8 with
  | 9 => halfOf hi (wrapTo 64 (q32 k.p))
  | 10 => halfOf hi (wrapTo 64 (q32 k.v))
  | 11 => halfOf hi (wrapTo 64 (q32 k.a))
  | 12 => halfOf hi (wrapTo 64 (q32 s.ltb.line.j))
  | 14 => halfOf hi s.dt
  | 23 => if s.lineSrc = 3 then 0 else s.rd a
  | 28 => halfOf hi s.rtcSec
  | _ => if o = 0xE8 then BitVec.ofNat 32 s.rtcNs else s.rd a

/-- The live registers of a SIL page (R490, R495). -/
def State.peekSil (s : State) (i o a : Nat) : W32 :=
  let q := s.silo i
  if o = 0x044 then BitVec.ofNat 32 (q.avail + q.used * 2 ^ 16)
  else if 0x120 ≤ o ∧ o < 0x140 then q.latch.getD ((o - 0x120) / 4) 0
  else if 0x140 ≤ o ∧ o < 0x160 then (if q.avail = 0 then emptyPattern else s.siloHead i).getD ((o - 0x140) / 4) 0
  else s.rd a

/-- The registers of an AXL page that show a lock or a binding: TUNE of a guarded slot (R187), TIMING of a slot on a local channel (R197). -/
def State.peekAxl (s : State) (n o a : Nat) : W32 :=
  match o with
  | 0x05C => if s.guarded n then 3 else s.rd a
  | 0x040 => if (s.ldcOfSlot n).isSome then s.rd a ||| 4 else s.rd a
  | 0x048 => withFld (withBit (withBit (s.rd a) 12 (bitOf (s.rcStat n) 0)) 13 (s.tuneLocked n)) 19 16 (((s.lpuOf n).map (·.1)).getD 0)
  | 0x314 => s.rcStat n
  | 0x318 => BitVec.ofNat 32 (s.rcAddr n)
  | _ => s.rd a

/-- The registers of an ETH page: a paused transmitter (R529). -/
def State.peekEth (s : State) (n o a : Nat) : W32 := if o = 0x044 then withBit (s.rd a) 4 (decide (s.dt < tabGet 0 n s.ethPause)) else s.rd a

/-- What a body register of a page reads as. -/
def State.peekBody (s : State) (p : PageRef) (r : RegRow) (o a : Nat) : W32 :=
  if r.acc = .wo then 0
  else
    match p.kind with
    | .evr => s.peekEvr o a
    | .ltb => s.peekLtb o a
    | .sil => s.peekSil p.inst o a
    | .axl => s.peekAxl p.inst o a &&& ~~~(BitVec.ofNat 32 r.wo)
    | .eth => s.peekEth p.inst o a
    | .lpu => if 0x200 ≤ o ∧ o < 0x240 then s.rd (0x300000 + o) &&& ~~~(BitVec.ofNat 32 r.wo) else s.rd a
    | _ => s.rd a &&& ~~~(BitVec.ofNat 32 r.wo)

/-- EVT_RAW: a bit that names a condition reads 1 while the condition holds, one that names an occurrence 0 between the clocks in which it occurs (R595).
The bits that name a condition are those whose condition a status field of the page shows: REF_OUT, THM WARN and THROTTLE, FBP POS_INVALID and WARN, EMU OVERRATE, LAG_OVER and SRC_LOST, XLK SYNCED, AXP STANDSTILL (DESIGN CHOICE, log 20). -/
def State.rawBits (s : State) (p : PageRef) : W32 :=
  match p.kind with
  | .clk => withBit 0 1 (decide (5000 < (signedOf 16 (s.fld CLK_REF_STAT 31 16)).natAbs))
  | .thm => withBit (withBit 0 0 ((List.range 14).any fun k => s.bit THM_WARN k)) 1 (s.bit THM_THM_STAT 0)
  | .fbp => withBit (withBit 0 0 (s.fld (FBP_FB_STAT p.inst) 2 0 != 0 && !s.bit (FBP_FB_STAT p.inst) 3)) 7 (s.bit (FBP_FB_STAT p.inst) 7)
  | .emu =>
    let a := EMU_EMU_STAT p.inst
    withBit (withBit (withBit 0 0 (s.bit a 16)) 1 (decide (s.fld (EMU_LAG_MAX p.inst) 15 0 < s.fld a 15 0))) 2 (s.actBit (EMU_EMU_CTL p.inst) 0 && !s.bit a 17)
  | .xlk => withBit 0 4 (s.bit XLK_XLK_STAT 5)
  | .axp => withBit 0 11 (s.bit (AXP_PROF_STAT p.inst) 8)
  | _ => 0

/-- What a common register reads as (R590 to R599). -/
def State.peekCommon (s : State) (p : PageRef) (o a : Nat) : W32 :=
  match o with
  | 0x000 => pageIdOf p
  | 0x008 => s.pageStat p a
  | 0x00C => s.rawBits p
  | 0x018 => 0
  | 0x020 => s.rd a
  | 0x028 => 0
  | _ => s.rd a

/-- What the word at BAR0 register address `a` reads as; reserved words read 0. A page whose block is not clocked reads 0 in its body (R592). -/
def State.peek (s : State) (a : Nat) : W32 :=
  match regRow a with
  | none => 0
  | some (p, r, i) =>
    let o := a - p.base
    if o < 0x040 then s.peekCommon p o a
    else if !s.bit (p.base + 4) 0 || absentReg p r.off i then 0
    else s.peekBody p r o a

/-- A word anywhere in BAR0: a register or four bytes of a memory window. -/
def State.peekAny (s : State) (a : Nat) : W32 :=
  if 0x01000000 ≤ a then BitVec.ofNat 32 (s.memNat a 4) else s.peek a

end Sys2Proof.Machine
end

