-- ==== Sys2Proof/Machine/Recorder.lean ====
section
/-! DEFINITION. The event recorder: sheaves, records in the ring, flushes to the granary (R460 to R476). -/

namespace Sys2Proof.Machine

/-- The REC page, the ring and the granary. -/
def recPage : Nat := 0x14000
def ringBase : Nat := 0x01800000
def ringSize : Nat := 524288
def granaryBase : Nat := 0x03900000
def granarySize : Nat := 4194304

/-! ### Records -/

/-- The 12 bytes of STAMP of a trigger at device time `t` (R464). -/
def State.recStamp (s : State) (t : Nat) : List Byte :=
  let c := s.ltb.rtcBase + t
  if s.bit REC_REC_CTL 1 then leBytes 4 (s.rd REC_OP_SEC).toNat ++ leBytes 4 (s.rd REC_PWR_CYC).toNat ++ leBytes 4 0
  else if s.bit LTB_STATUS 11 then leBytes 6 (wrapTo 48 (c / 4000000000)) ++ leBytes 2 0 ++ leBytes 4 ((c % 4000000000).toNat / 4)
  else leBytes 12 0

/-- FLAGS of a record (R464). -/
def State.recFlags (s : State) (cause : Nat) : Nat :=
  cause + (if s.bit REC_REC_CTL 1 then 8 else 0) + (if s.bit LTB_STATUS 11 then 16 else 0)

/-- A trigger at device time `t`, with what its record carries of that instant: the flags, the stamp (R462, R464). -/
def State.recTrig (s : State) (sheaf cause source t : Nat) : RecTrig := ⟨sheaf, cause, source, t, s.recFlags cause, s.recStamp t⟩

/-- The bytes of the record of a trigger (R464). -/
def State.recBytes (s : State) (x : RecTrig) (vals : List W32) : List Byte :=
  let body := leBytes 2 (36 + 4 * vals.length) ++ leBytes 1 x.sheaf ++ leBytes 1 x.flags ++ leBytes 4 (s.rd REC_SEQ).toNat ++
    leBytes 8 x.time ++ x.stamp ++ leBytes 4 x.source ++ vals.flatMap fun v => leBytes 4 v.toNat
  body ++ leBytes 4 (crc32 body)

/-- Store bytes in the ring from offset `o`, wrapping at its end (R464). -/
def State.ringPut (s : State) (o : Nat) : List Byte → State
  | [] => s
  | b :: t => (s.putByte (ringBase + o % ringSize) b).ringPut (o + 1) t

/-- The bytes of the ring from offset `o`, wrapping. -/
def State.ringGet (s : State) (o : Nat) : Nat → List Byte
  | 0 => []
  | n + 1 => s.byteAt (ringBase + o % ringSize) :: s.ringGet (o + 1) n

/-- The newest records whose total length stays within `n` bytes, oldest first. -/
def newestWithin (n : Nat) (l : List RecEntry) : List RecEntry :=
  let rec go (n : Nat) : List RecEntry → List RecEntry
    | [] => []
    | x :: t => if x.len ≤ n then x :: go (n - x.len) t else []
  (go n l.reverse).reverse

/-- Write the record of a trigger after the previous one (R464). -/
def State.recWrite (s : State) (x : RecTrig) (vals : List W32) : State :=
  let b := s.recBytes x vals
  let o := s.fld REC_WR_OFS 18 0
  let q := (s.rd REC_SEQ).toNat
  let s1 := s.ringPut o b
  let s2 : State := { s1 with recorder := { s1.recorder with log := newestWithin ringSize (s1.recorder.log ++ [⟨q, o, b.length⟩]) } }
  (s2.wrFld REC_WR_OFS 18 0 ((o + b.length) % ringSize)).wr REC_SEQ (BitVec.ofNat 32 (q + 1))

/-! ### Flushes -/

/-- Bytes in use in the granary. -/
def State.grFill (s : State) : Nat := s.fld REC_GR_FILL 22 0

/-- The bytes of records as they stand in the ring. -/
def State.recsBytes (s : State) (l : List RecEntry) : List Byte := l.flatMap fun e => s.ringGet e.ofs e.len

/-- The length of records. -/
def recsLen (l : List RecEntry) : Nat := (l.map RecEntry.len).sum

/-- The header of a block (R471). -/
def State.blockHeader (s : State) (f : Flush) (complete : Bool) : List Byte :=
  let flags := (if complete then 1 else 0) + (if f.short then 2 else 0) + (if f.pfail then 4 else 0)
  let seqOf (o : Option RecEntry) : Nat := match o with
    | some e => e.seq
    | none => 0
  let body := leBytes 4 0x47524E31 ++ leBytes 4 (64 + recsLen f.recs) ++ leBytes 4 (s.fld REC_GR_BLOCKS 15 0) ++ leBytes 1 f.cause ++ leBytes 1 flags ++
    leBytes 2 f.recs.length ++ leBytes 4 (seqOf f.recs.head?) ++ leBytes 4 (seqOf f.recs.getLast?) ++ leBytes 8 f.time ++
    leBytes 4 (s.rd REC_PWR_CYC).toNat ++ leBytes 24 0
  body ++ leBytes 4 (crc32 body)

/-- Drop the oldest records until the rest fits in `n` bytes; the trigger record, the last, is never dropped (R472). -/
def dropUntilFit (n : Nat) : List RecEntry → List RecEntry
  | [] => []
  | [x] => [x]
  | x :: y :: t => if recsLen (x :: y :: t) ≤ n then x :: y :: t else dropUntilFit n (y :: t)

/-- Whether sequence `q` is newer than FLUSHED_SEQ (R467). -/
def State.seqNewer (s : State) (q : Nat) : Bool := decide (0 < signedOf 32 (q + 2 ^ 32 - (s.rd REC_FLUSHED_SEQ).toNat))

/-- Count a refused flush. -/
def State.flushRefused (s : State) : State := s.count REC_CNT_REC 31 16 recPage 7

/-- The granary is full (R472). -/
def State.granaryFull (s : State) : State := (s.wrBit REC_REC_STAT 2 true).raise recPage 3

/-- Start a flush whose trigger record has the sequence `seq`; the records written after it wait for another (R467 to R469, R472). -/
def State.flushStart (s : State) (cause seq : Nat) : State :=
  if s.bit REC_REC_STAT 2 then s.flushRefused
  else
    match s.recorder.log.find? fun e => e.seq == seq with
    | none => s
    | some trig =>
      let win := s.fld REC_FLUSH_CFG 6 0 * 1024
      let older := s.recorder.log.takeWhile fun e => e.seq != seq
      let recs := newestWithin win (older.filter fun e => s.seqNewer e.seq) ++ [trig]
      let room := granarySize - s.grFill
      let kept := dropUntilFit (room - 64) recs
      if room < 64 + recsLen kept then s.flushRefused.granaryFull
      else
        let short := decide (kept.length < recs.length)
        let f : Flush := ⟨s.grFill, cause, kept, short, false, s.dt⟩
        let s1 := s.putBytes (granaryBase + f.at0) (s.blockHeader f false ++ s.recsBytes kept)
        let s2 : State := ({ s1 with recorder := { s1.recorder with flush := some f } } : State).wrBit REC_REC_STAT 0 true
        s2.when short fun s => (s.raise recPage 2).granaryFull

/-- A flush trigger waits for the end of the block or the clear in progress (R468, R474). -/
def State.flushWaits (s : State) (cause seq : Nat) : State := ({ s with recorder := { s.recorder with pendCause := cause, pendSeq := seq } } : State).wrBit REC_REC_STAT 1 true

/-- One further flush follows a block or a clear, and covers every trigger pending (R468, R474). -/
def State.flushNext (s : State) : State := if s.bit REC_REC_STAT 1 then (s.wrBit REC_REC_STAT 1 false).flushStart s.recorder.pendCause s.recorder.pendSeq else s

/-- The recorder takes a flush trigger (R466, R468): its record, then a flush, or a pending one, or the record appended to the block in progress for PFAIL. -/
def State.flushTake (s : State) (x : RecTrig) : State :=
  let seq := (s.rd REC_SEQ).toNat
  let s1 := s.recWrite x []
  if s1.recorder.clearing then s1.flushWaits x.cause seq
  else
    match s1.recorder.flush with
    | none => s1.flushStart x.cause seq
    | some f =>
      if x.cause = 4 then
        match s1.recorder.log.getLast? with
        | none => s1
        | some e =>
          if granarySize < f.at0 + 64 + recsLen f.recs + e.len then (s1.flushRefused.granaryFull).wrBit REC_REC_STAT 1 false
          else
          let s2 := s1.putBytes (granaryBase + f.at0 + 64 + recsLen f.recs) (s1.recsBytes [e])
          ({ s2 with recorder := { s2.recorder with flush := some { f with recs := f.recs ++ [e], pfail := true } } } : State).wrBit REC_REC_STAT 1 false
      else s1.flushWaits x.cause seq

/-- A sheaf triggered at `t` or before has not been written yet: its trigger waits in the queue, or its action in the router (R463, R466). -/
def State.sheafAhead (s : State) (t : Nat) : Bool :=
  (s.recorder.queue.any fun x => decide (x.time ≤ t)) || s.actions.any fun a => a.target == 1 && decide (a.time ≤ t)

/-- A flush trigger (R466): its record is written after those of the sheaves triggered before it or in its tick; a reset waits for none of them, and a sheaf's own trigger comes at its end (log 55). The recorder takes no trigger while disabled or after a PFAIL flush. -/
def State.flushTrigger (s : State) (cause source : Nat) : State :=
  if !s.bit REC_REC_CTL 0 || s.bit REC_REC_STAT 3 then s
  else
    let x := s.recTrig 0xFF cause source s.dt
    if cause < 6 ∧ s.sheafAhead s.dt = true then { s with recorder := { s.recorder with late := s.recorder.late ++ [x] } }
    else s.flushTake x

/-- The flush triggers that no sheaf keeps waiting any more are taken, oldest first; after a PFAIL flush they are void (R466, R469). -/
def State.flushLate (s : State) : State :=
  s.each s.recorder.late fun x st =>
    if st.sheafAhead x.time then st
    else
      let s1 : State := { st with recorder := { st.recorder with late := st.recorder.late.erase x } }
      if s1.bit REC_REC_STAT 3 then s1 else s1.flushTake x

/-- The entry of a block in the tally after it has been written `n` times: each write counts with probability 2^-18, which the model leaves open (R512). -/
def tallyAfter (free : Nat) (e : Nat) : Nat := if Config.freeBit free then min 65535 (e + 1) else e

/-- The MRAM bytes `[lo, hi)` have been written: the tally of their 64-byte blocks (R512). -/
def State.mramWrote (s : State) (lo hi : Nat) : State :=
  let b0 := (lo - 0x03800000) / 64
  let n := (hi - 1 - 0x03800000) / 64 + 1 - b0
  { s with free := s.free + n, age := { s.age with tally := (List.range n).foldl (fun t i => tabSet (b0 + i) (tallyAfter (s.free + i) (tabGet 0 (b0 + i) t)) t) s.age.tally } }

/-- The block in progress is complete (R467 to R469). -/
def State.flushDone (s : State) : State :=
  match s.recorder.flush with
  | none => s
  | some f =>
    let len := 64 + recsLen f.recs
    let s1 := (s.putBytes (granaryBase + f.at0) (s.blockHeader f true)).mramWrote (granaryBase + f.at0) (granaryBase + f.at0 + len)
    let last := match f.recs.getLast? with
      | some e => e.seq
      | none => 0
    let s2 := ((s1.wrFld REC_GR_FILL 22 0 (f.at0 + len)).wrFld REC_GR_BLOCKS 15 0 (s1.fld REC_GR_BLOCKS 15 0 + 1)).wr REC_FLUSHED_SEQ (BitVec.ofNat 32 last)
    let s3 : State := (({ s2 with recorder := { s2.recorder with flush := none } } : State).wrBit REC_REC_STAT 0 false).raise recPage 1
    if f.cause = 4 ∨ f.pfail then s3.wrBit REC_REC_STAT 3 true
    else s3.flushNext

/-! ### Sheaves -/

/-- Put the queue's depth in REC_STAT. -/
def State.recDepth (s : State) : State := s.wrFld REC_REC_STAT 12 8 s.recorder.queue.length

/-- Put a trigger in the queue: those of one tick in ascending sheaf number (R462). -/
def insertTrig (x : RecTrig) : List RecTrig → List RecTrig
  | [] => [x]
  | y :: t => if y.time = x.time ∧ x.sheaf < y.sheaf then x :: y :: t else y :: insertTrig x t

/-- A sheaf trigger (R462): ignored for a disabled sheaf; dropped and counted when the queue is full. -/
def State.sheafTrigger (s : State) (sheaf cause source time : Nat) : State :=
  if !s.bit REC_REC_CTL 0 || s.bit REC_REC_STAT 3 || !s.bit (REC_SHEAF_CFG sheaf) 6 then s
  else if 16 ≤ s.recorder.queue.length then (s.raise recPage 0).count REC_CNT_REC 15 0 recPage 7
  else ({ s with recorder := { s.recorder with queue := insertTrig (s.recTrig sheaf cause source time) s.recorder.queue } } : State).recDepth

/-- The words of a sheaf's list from entry `i`, `n` entries long: a WIDE entry gives its word and the next one (R460). -/
def State.sheafWords (s : State) (sheaf i : Nat) : Nat → List W32
  | 0 => []
  | 1 => [s.peekAny (s.fld (REC_SHEAF_ADDR sheaf i) 25 2 * 4)]
  | n + 2 =>
    let e := s.rd (REC_SHEAF_ADDR sheaf i)
    let a := fldOf e 25 2 * 4
    if bitOf e 0 then s.peekAny a :: s.peekAny (a + 4) :: s.sheafWords sheaf (i + 2) n
    else s.peekAny a :: s.sheafWords sheaf (i + 1) (n + 1)

/-- The recorder finishes the sheaf at the front of its queue: its record, a flush where the sheaf asks for one, and the flush triggers that have waited for it (R463, R466); none between a PFAIL flush and the return of PFAIL_N (R469). -/
def State.sheafTake (s : State) : State :=
  match s.recorder.queue with
  | [] => s
  | x :: rest =>
    if s.bit REC_REC_STAT 3 then s else
    let vals := s.sheafWords x.sheaf 0 (s.fld (REC_SHEAF_CFG x.sheaf) 5 0)
    let s1 : State := ({ s with recorder := { s.recorder with queue := rest } } : State).recDepth
    let s2 := s1.recWrite x vals
    (s2.when (s.bit (REC_SHEAF_CFG x.sheaf) 7) fun s => s.flushTrigger 7 0).flushLate

/-- Whether an address may stand in a sheaf list (R460). -/
def sheafAddrOk (a : Nat) : Bool := decide (a ≤ 0x00308FFF) || (decide (0x02000000 ≤ a) && decide (a < 0x02800000))

/-- Whether the first `n` entries of a sheaf's list permit EN (R460). -/
def State.sheafOk (s : State) (sheaf i : Nat) : Nat → Bool
  | 0 => true
  | 1 => sheafAddrOk (s.fld (REC_SHEAF_ADDR sheaf i) 25 2 * 4) && !s.bit (REC_SHEAF_ADDR sheaf i) 0
  | n + 2 =>
    sheafAddrOk (s.fld (REC_SHEAF_ADDR sheaf i) 25 2 * 4) &&
      (if s.bit (REC_SHEAF_ADDR sheaf i) 0 then s.sheafOk sheaf (i + 2) n else s.sheafOk sheaf (i + 1) (n + 1))

/-! ### The meanings of the recorder's commands -/

/-- The meaning of REC_CMD_SHEAF (R462). -/
def execRecCmdSheaf (sheaf : Fin 16) (s : State) : Host.Outcome State Fault Refusal := .next (s.sheafTrigger sheaf 2 0 s.dt)

/-- The meaning of REC_CMD_FLUSH (R466). -/
def execRecCmdFlush (s : State) : Host.Outcome State Fault Refusal := .next (s.flushTrigger 5 0)

/-- REC_CMD with CMD 3: refused with a wrong key, or during a flush or a clear (R474). -/
def State.recClear (s : State) (key : Nat) : State :=
  if key ≠ 0xC3A5 then s.err recPage .key 0x48
  else if s.recorder.flush.isSome ∨ s.recorder.clearing then s.err recPage .busy 0x48
  else ({ s with recorder := { s.recorder with clearing := true } } : State).wrBit REC_REC_STAT 4 true

/-- The meaning of REC_CMD_CLEAR. -/
def execRecCmdClear (key : BitVec 16) (s : State) : Host.Outcome State Fault Refusal := .next (s.recClear key.toNat)

/-- The meaning of SHEAF_TAKEN. -/
def execSheafTaken (s : State) : Host.Outcome State Fault Refusal := .next s.sheafTake

/-- The meaning of FLUSH_DONE. -/
def execFlushDone (s : State) : Host.Outcome State Fault Refusal := .next s.flushDone

/-- The meaning of PFAIL_RECOVERY: recording resumes (R469). -/
def execPfailRecovery (s : State) : Host.Outcome State Fault Refusal := .next (s.wrBit REC_REC_STAT 3 false)

/-- The granary clear ends; a flush that waited starts (R474). -/
def State.clearDone (s : State) : State :=
  if !s.recorder.clearing then s
  else
    let s1 := (s.wipe granaryBase (granaryBase + s.grFill)).when (s.grFill != 0) fun st => st.mramWrote granaryBase (granaryBase + s.grFill)
    let s2 := (((s1.wrFld REC_GR_FILL 22 0 0).wrFld REC_GR_BLOCKS 15 0 0).wrBit REC_REC_STAT 2 false).wrBit REC_REC_STAT 4 false
    let s3 : State := ({ s2 with recorder := { s2.recorder with clearing := false } } : State).raise recPage 5
    s3.flushNext

/-- The meaning of CLEAR_DONE. -/
def execClearDone (s : State) : Host.Outcome State Fault Refusal := .next s.clearDone

/-- The meaning of OP_SEC_TICK: one more operating second, written to MRAM's configuration partition by its register's store (R465). -/
def execOpSecTick (s : State) : Host.Outcome State Fault Refusal := .next (s.wr REC_OP_SEC (s.rd REC_OP_SEC + 1))

end Sys2Proof.Machine
end

