-- ==== Sys2Proof/Machine/Ledger.lean ====
section
/-! DEFINITION. Cold and warm resets of the whole device, what each keeps (R4, R5, R14, R564 to R570), and the records of the health ledger (R513, R514). -/

namespace Sys2Proof.Machine

/-! ### The health ledger -/

/-- Where the ledger and its record ring lie in BAR0 (R513). -/
def ledgerBase : Nat := 0x03D00000
def ledgerRecs : Nat := 24320

/-- Write one 32-byte ledger record at the next place of the ring (R513, R514). `data` is bytes 12 to 27. -/
def State.ledgerRecord (s : State) (kind inst : Nat) (data : List Byte) : State :=
  let d := (data ++ List.replicate 16 0).take 16
  let body := leBytes 1 kind ++ leBytes 1 inst ++ leBytes 2 0 ++ leBytes 4 (s.rd REC_OP_SEC).toNat ++ leBytes 4 (s.rd REC_PWR_CYC).toNat ++ d
  let a := ledgerBase + 0x42000 + 32 * s.age.next
  let s1 := (s.putBytes a (body ++ leBytes 4 (crc32 body))).mramWrote a (a + 32)
  { s1 with age := { s1.age with next := (s.age.next + 1) % ledgerRecs } }

/-! ### The granary at a reset (R473) -/

/-- A reset cuts the block in progress short: how many of its records had been written whole is left open (R469, R473, log 44). -/
def State.tearBlock (s : State) : State :=
  match s.recorder.flush with
  | none => s
  | some f =>
    let n := (Config.freeWord s.free).toNat % (f.recs.length + 1)
    s.nextFree.2.wipe (granaryBase + f.at0 + 64 + recsLen (f.recs.take n)) (granaryBase + f.at0 + 64 + recsLen f.recs)

/-- A good record at granary offset `o`: its length, 0 if there is none (R464, R473). -/
def State.goodRec (s : State) (o : Nat) : Nat :=
  let len := s.memNat (granaryBase + o) 2
  if 36 ≤ len ∧ o + len ≤ granarySize ∧ crc32 (s.bytesAt (granaryBase + o) (len - 4)) = s.memNat (granaryBase + o + len - 4) 4 then len else 0

/-- The good records that follow offset `o`: their number and where they end. -/
def State.goodRecs (s : State) : Nat → Nat → Nat → Nat × Nat
  | 0, o, n => (n, o)
  | k + 1, o, n => if s.goodRec o = 0 then (n, o) else s.goodRecs k (o + s.goodRec o) (n + 1)

/-- The walk found `blocks` blocks that end at `o`. -/
def State.walked (s : State) (o blocks : Nat) : State := (s.wrFld REC_GR_FILL 22 0 o).wrFld REC_GR_BLOCKS 15 0 blocks

/-- The block at offset `o` is incomplete: its header is rewritten over its good records, and RECOVERED is raised (R473). -/
def State.recoverBlock (s : State) (o blocks : Nat) : State :=
  let (n, stop) := s.goodRecs 2048 (o + 64) 0
  let h := s.bytesAt (granaryBase + o) 60
  let body := h.take 4 ++ leBytes 4 (stop - o) ++ (h.drop 8).take 5 ++ leBytes 1 (natAt h 13 ||| 3) ++ leBytes 2 n ++ h.drop 16
  (((s.putBytes (granaryBase + o) (body ++ leBytes 4 (crc32 body))).mramWrote (granaryBase + o) (granaryBase + o + 64)).walked stop (blocks + 1)).raise recPage 6
where
  natAt (l : List Byte) (i : Nat) : Nat := (l.getD i 0).toNat

/-- Walk the granary from offset `o` by BLEN. An offset with no header at all, 64 zero bytes, is the end of what has been written (log 44). -/
def State.walkFrom (s : State) : Nat → Nat → Nat → State
  | 0, o, blocks => s.walked o blocks
  | k + 1, o, blocks =>
    let a := granaryBase + o
    if granarySize < o + 64 ∨ s.memNat a 64 = 0 then s.walked o blocks
    else if s.memNat a 4 = 0x47524E31 ∧ crc32 (s.bytesAt a 60) = s.memNat (a + 60) 4 ∧ s.memNat (a + 13) 1 % 2 = 1 ∧ 64 ≤ s.memNat (a + 4) 4 then
      s.walkFrom k (o + s.memNat (a + 4) 4) (blocks + 1)
    else s.recoverBlock o blocks

/-- The recorder walks the granary at each cold and warm reset (R473): at most 65,536 blocks of 64 bytes. -/
def State.granaryWalk (s : State) : State := s.walkFrom 65536 0 0

/-! ### Resets -/

/-- The MRAM window (R584). -/
def mramLo : Nat := 0x03800000
def mramHi : Nat := 0x04000000

/-- The first local address of the external DRAM (R525). -/
def dramLo : Nat := 0x100000000

/-- The ranges of the local space (R525, R584). Each memory of the MRAM is read-only; every address in no range is unmapped. -/
inductive LocalRegion
  | registers | lpuMem | recRing | sram | capture | mram | dram | unmapped
deriving DecidableEq, Repr

/-- The range in which a local address lies: below 0x0400_0000 the BAR0 map, from 0x1_0000_0000 the DRAM up to DRC SIZE, every other address unmapped (R525, R584). -/
def State.regionOf (s : State) (a : Nat) : LocalRegion :=
  if a < 0x01000000 then .registers
  else if a < 0x01240000 then .lpuMem
  else if 0x01800000 ≤ a ∧ a < 0x01880000 then .recRing
  else if 0x02000000 ≤ a ∧ a < 0x02800000 then .sram
  else if 0x03000000 ≤ a ∧ a < 0x03800000 then .capture
  else if mramLo ≤ a ∧ a < mramHi then .mram
  else if dramLo ≤ a ∧ a < dramLo + s.fld DRC_SIZE 12 0 * 2 ^ 20 then .dram
  else .unmapped

/-- The registers whose cold reset value comes from fuses, from MRAM or from the ledger, and the field die's shut-down records (R504, R515, R517, R582, R465, R473). -/
def keptCold : List Nat :=
  [LCS_LC_STATE, LCS_LC_RESULT, LCS_MIN_VER, LCS_DEV_UID 0, LCS_DEV_UID 1, LCS_DEV_UID 2, LCS_DEV_UID 3, LCS_KEY_STAT, REC_OP_SEC, REC_PWR_CYC,
    REC_GR_FILL, REC_GR_BLOCKS, AGE_MARGIN, AGE_FORECAST, AGE_AVS, AGE_DT_RAISE, AGE_SCRUB, AGE_WEAR, THM_SD_REC, THM_SD_CNT]

/-- THM_STAT shows the bands; a band not yet set shows cold (R505, R515). -/
def State.showBands (s : State) : State := (s.wrFld THM_THM_STAT 2 1 (s.bands.1.getD 0)).wrFld THM_THM_STAT 4 3 (s.bands.2.getD 0)

/-- A cold reset of cause `cause` (R564, R579): the MRAM, the fuses, the ledger and the field die's records stay, everything else is at its cold reset value, device time is 0; PWR_CYC counts it (R465). The core die is held until the field die releases it. -/
def State.coldReset (s0 : State) (cause : Nat) (hold : Core) : State :=
  let s := s0.tearBlock
  let s1 : State := { State.reset with
    pending := s.pending
    free := s.free
    regs := s.regs.filter fun kv => keptCold.contains kv.1
    mem := s.mem.filter fun c => decide (mramLo ≤ c.1) && decide (c.1 < mramHi)
    msix := s.msix
    age := s.age
    sensors := s.sensors
    shutdowns := s.shutdowns
    fieldT0 := s.fieldT0 + s.dt
    flash := s.flash
    keys := s.keys
    safStore := s.safStore
    flashGeo := s.flashGeo
    bands := if cause = 4 then (none, none) else s.bands
    core := hold }
  (s1.showBands.wr REC_PWR_CYC (s1.rd REC_PWR_CYC + 1)).wr GLB_RST_CAUSE (BitVec.ofNat 32 cause)

/-- A register keeps its value over a warm reset (R4). -/
def keptWarm (a : Nat) : Bool :=
  match regRow a with
  | none => false
  | some (_, r, _) => r.kept

/-- A shadow at `a`: what it holds beyond the value in force does not outlive a reset (R62, R598). -/
def isShadow (a : Nat) : Bool :=
  match regRow a with
  | none => false
  | some (_, r, _) => r.shadowed

/-- The mask of stage links whose LINK_CTL.EN is 1 (R566). -/
def State.linksOn (s : State) : Nat := (List.range 32).foldl (fun acc k => acc + (if s.bit (SLK_LINK_CTL k) 0 then 2 ^ k else 0)) 0

/-- The line after a warm reset: STOP at the same angle (R62). -/
def State.warmLtb (s : State) : Ltb :=
  { Ltb.reset with line := ⟨s.dt, ⟨(s.lineAt s.dt).p, 0, 0⟩, 0⟩, rtcBase := s.ltb.rtcBase }

/-- STATUS of the line after a warm reset: the source kept, RTC_VALID kept, LOST with source 3 (R62). -/
def State.warmLtbStatus (s : State) : W32 :=
  withBit (withBit (withFld 0 4 3 s.lineSrc) 11 (s.bit LTB_STATUS 11)) 8 (s.lineSrc == 3)

/-- A warm reset of cause `cause` (R566; the active safety set is reloaded after the boot, R427; the lock of DBG_ACCESS stays until a cold reset, R540): SRAM, loop caches and object storage zeroised, kept registers kept, with the lock of every page (R592), the line stopped, device time counting, DRAM and MRAM kept. -/
def State.warmReset (s0 : State) (cause : Nat) : State :=
  let s := if s0.bit REC_FLUSH_CFG 13 then ((s0.flushTrigger 6 0).flushDone).flushDone else s0.tearBlock
  let cnt := s.fld GLB_RST_CAUSE 15 8
  let s1 : State := { State.reset with
    pending := s.pending
    dt := s.dt
    free := s.free
    regs := s.regs.filter fun kv => (keptWarm kv.1 && !isShadow kv.1) || keptCold.contains kv.1 || decide (kv.1 % 0x1000 = 4)
    inForce := s.inForce.filter fun kv => keptWarm kv.1 && decide (kv.1 / 0x1000 ≠ 0xC)
    mem := s.mem.filter fun c => decide (mramLo ≤ c.1)
    msix := s.msix
    lost := s.lost
    ltb := s.warmLtb
    sched := { LpuSched.reset with lastFallow := s.sched.lastFallow, lastRot := s.sched.lastRot }
    age := s.age
    sensors := s.sensors
    shutdowns := s.shutdowns
    fieldT0 := s.fieldT0
    flash := s.flash
    keys := s.keys
    safStore := s.safStore
    bands := s.bands
    flashGeo := s.flashGeo
    core := s.core }
  let s1 := s1.showBands
  let s2 := (s1.each (s1.inForce.map (·.1)) fun a st => st.wr a (st.act a)).when s.lost fun st => st.wr GLB_BRIDGE_STAT (s.rd GLB_BRIDGE_STAT)
  (((s2.wr LTB_STATUS s.warmLtbStatus).wr GLB_REEN_SLK (BitVec.ofNat 32 s.linksOn)).wr GLB_RST_CAUSE (BitVec.ofNat 32 (cause + (if cnt = 255 then 255 else cnt + 1) * 256))).wr
    GLB_BOOT_STAT 1 |>.wr LCS_DBG_STAT (withBit 0 10 (s.bit LCS_DBG_STAT 10)) |>.granaryWalk

end Sys2Proof.Machine
end

