-- ==== Sys2Proof/Machine/Fco.lean ====
section
/-! DEFINITION. The fast compare outputs: levels, pulses, the device-wide SAFE (R79, R80, R82, R643). -/

namespace Sys2Proof.Machine

def ascPage : Nat := 0x9000

/-- The level of pin `k` before inversion (R88). -/
def State.fcoLevel (s : State) (k : Nat) : Bool := s.bit ASC_FCO_LVL k

/-- What stands at the ball of pin `k`: none while EN is 0 (high-impedance) or the device is STANDBY, else the level after INV (R80, R388). -/
def State.fcoBall (s : State) (k : Nat) : Option Bool :=
  if s.bit (ASC_FCO_CTL k) 0 && s.fld XLK_XLK_STAT 4 2 != 2 then some (s.fcoLevel k != s.bit (ASC_FCO_CTL k) 1) else none

/-- Drive pin `k` to `lvl`: a pulse in progress is cancelled; a pin that a device-wide SAFE holds ignores the action (R80, R82). -/
def State.fcoDrive (s : State) (k : Nat) (lvl : Bool) : State :=
  if s.fcoLock / 2 ^ k % 2 = 1 then s
  else ({ s with fcoEnd := tabDrop (fun j => j == k) s.fcoEnd } : State).wrBit ASC_FCO_LVL k lvl

/-- Start or restart a pulse on pin `k` (R71, R80). -/
def State.fcoPulse (s : State) (k : Nat) : State :=
  if s.fcoLock / 2 ^ k % 2 = 1 then s
  else
    let s1 := s.fcoDrive k true
    { s1 with fcoEnd := tabSet k (s.dt + s.fld (ASC_FCO_PULSE_W k) 23 0) s1.fcoEnd }

/-- The pulses that end now (R80). -/
def State.fcoEnds (s : State) : State :=
  s.each ((s.fcoEnd.filter fun e => decide (e.2 ≤ s.dt)).map (·.1)) fun k st => st.fcoDrive k false

/-- A device-wide SAFE: every pin with SAFE_INACT goes inactive and ignores further actions (R82). -/
def State.fcoSafe (s : State) : State :=
  s.each ((List.range 16).filter fun k => s.bit (ASC_FCO_CTL k) 2) fun k st =>
    let s1 := st.fcoDrive k false
    { s1 with fcoLock := s1.fcoLock ||| 2 ^ k, fcoOff := s1.fcoOff &&& (65535 - 2 ^ k) }

/-- A write of FCO_CTL of pin `k`: a held pin takes actions again once it has been disabled and enabled (R82). -/
def State.fcoCtlWrite (s : State) (k : Nat) (v : W32) : State :=
  let s1 := s.wr (ASC_FCO_CTL k) (v &&& 7)
  if s.fcoLock / 2 ^ k % 2 = 0 then s1
  else if !bitOf v 0 then { s1 with fcoOff := s1.fcoOff ||| 2 ^ k }
  else if s.fcoOff / 2 ^ k % 2 = 1 then { s1 with fcoLock := s1.fcoLock - 2 ^ k, fcoOff := s1.fcoOff - 2 ^ k }
  else s1

/-- Writes of FCO_SW_SET and FCO_SW_CLR: each 1 drives its pin (R88, R643). -/
def State.fcoSw (s : State) (mask : BitVec 16) (lvl : Bool) : State :=
  s.each ((List.range 16).filter fun k => mask.getLsbD k) fun k st => st.fcoDrive k lvl

/-- The meaning of FCO_PULSE_END (R80). -/
def execFcoPulseEnd (s : State) : Host.Outcome State Fault Refusal := .next s.fcoEnds

/-- The meaning of FCO_SW_SET (R88, R643). -/
def execFcoSwSet (mask : BitVec 16) (s : State) : Host.Outcome State Fault Refusal := .next (s.softWrite ASC_FCO_SW_SET (mask.zeroExtend 32) fun st => st.fcoSw mask true)

/-- The meaning of FCO_SW_CLR (R88, R643). -/
def execFcoSwClr (mask : BitVec 16) (s : State) : Host.Outcome State Fault Refusal := .next (s.softWrite ASC_FCO_SW_CLR (mask.zeroExtend 32) fun st => st.fcoSw mask false)

end Sys2Proof.Machine
end

