-- ==== Sys2Proof/Machine/LdcOps.lean ====
section
/-! DEFINITION. The shared operations of a local drive channel: its state, its switches, the protective and the normal turn-off (R278, R292, R308). -/

namespace Sys2Proof.Machine

/-- The LDC and GDV pages of channel `c`. -/
def ldcPage (c : Nat) : Nat := 0x220000 + c * 0x1000
def gdvPage (c : Nat) : Nat := 0x230000 + c * 0x1000

/-- Channel `c`. -/
def State.ldc (s : State) (c : Nat) : Ldc := tabGet Ldc.reset c s.ldcs

/-- Replace channel `c`. -/
def State.setLdc (s : State) (c : Nat) (x : Ldc) : State := { s with ldcs := tabSet c x s.ldcs }

/-- The channel state (R308). -/
def State.comState (s : State) (c : Nat) : Nat := s.fld (LDC_COM_STAT c) 2 0

/-- Enter a channel state: PAGE_STAT.STATE, COM_STAT.STATE and STATE_CHG (R308, R331). -/
def State.setComState (s : State) (c st : Nat) : State :=
  if s.comState c = st then s.setLdc c { s.ldc c with since := s.dt }
  else
    let s1 := (((s.wrFld (LDC_COM_STAT c) 2 0 st).wrBit (LDC_COM_STAT c) 7 (st == 4)).wrBit (LDC_COM_STAT c) 8 false).wrFld (ldcPage c + 8) 3 0 st
    (s1.setLdc c { s1.ldc c with since := s.dt }).raise (ldcPage c) 16

/-- The device times at which switches turned off, after the switches of mask `m` turn off now. -/
def offNow (t m : Nat) (l : List Nat) : List Nat := (List.range 6).map fun k => if m / 2 ^ k % 2 = 1 then t else l.getD k 0

/-- A low side that is on turns off: the leg's bootstrap has had its first low-side on-time (R287). -/
def chargeAfter (gates m : Nat) (l : List Bool) : List Bool :=
  (List.range 3).map fun k => l.getD k true && !(decide (gates / 2 ^ (2 * k + 1) % 2 = 1) && decide (m / 2 ^ (2 * k + 1) % 2 = 1))

/-- The drive strength of the band in force, for a turn-on (source) or a turn-off (sink) (R285, R306). -/
def State.strength (s : State) (c : Nat) (on : Bool) : Nat := let b := 4 * s.fld THM_THM_STAT 4 3 + (if on then 0 else 2); s.fld (GDV_DRV_BAND c) (b + 1) b

/-- The strengths after the switches of mask `m` take one of strength `v` (R285). -/
def driveNow (v m : Nat) (l : List Nat) : List Nat := (List.range 6).map fun k => if m / 2 ^ k % 2 = 1 then v else l.getD k 0

/-- Turn off the switches of mask `m` at once, and drop their pending turn-ons. -/
def State.gatesOff (s : State) (c m : Nat) : State :=
  let x := s.ldc c
  let on := x.gates &&& m
  s.setLdc c { x with gates := x.gates - on, due := x.due.filter (fun d => m / 2 ^ d.1 % 2 = 0), offAt := offNow s.dt on x.offAt, drive := driveNow (s.strength c false) on x.drive, charge := chargeAfter x.gates m x.charge }

/-- The normal turn-off of every switch. -/
def State.allOff (s : State) (c : Nat) : State := s.gatesOff c 63

/-- SOFT_T in ticks: (k + 1) × 0.2 µs (R305). -/
def State.softTicks (s : State) (c : Nat) : Nat := (s.fld (GDV_SOFT_CFG c) 8 4 + 1) * 800

/-- The protective turn-off of R292: a detection during the sequence does not restart it. -/
def State.softOff (s : State) (c : Nat) : State :=
  let x := s.ldc c
  let s1 := s.allOff c
  if x.softEnd.isSome ∨ x.gates = 0 then s1
  else (s1.setLdc c { s1.ldc c with softEnd := some (s.dt + s.softTicks c), softMask := x.gates }).wrBit (GDV_FLT_STAT c) 11 true

/-- The engine stops: no commutation is scheduled. -/
def State.engineStop (s : State) (c : Nat) : State :=
  s.setLdc c { s.ldc c with comAt := none, ipd := none, preEnd := none, modes := [3, 3, 3] }

/-- STOP, and every stopping reaction of a bound slot: all switches turn off normally and the channel coasts (R309, R326). -/
def State.ldcCoast (s : State) (c : Nat) : State :=
  let st := s.comState c
  if 1 ≤ st ∧ st ≤ 4 then
    let s1 := (s.allOff c).engineStop c
    (s1.setLdc c { s1.ldc c with recatchAt := none }).setComState c 5
  else s

/-- TORQUE OFF on a channel: the protective turn-off, and FAULT unless the channel is OFF (R292, R309). -/
def State.ldcTorqueOff (s : State) (c : Nat) : State :=
  let s1 := (s.softOff c).engineStop c
  if s.comState c = 0 then s1 else (s1.setLdc c { s1.ldc c with recatchAt := none }).setComState c 6

end Sys2Proof.Machine
end

