-- ==== Sys2Proof/Machine/Sto.lean ====
section
/-! DEFINITION. STO groups: which slots and channels a group holds, de-energising and energising it, the gate enables (R411 to R417). -/

namespace Sys2Proof.Machine

/-- The SAF pages. -/
def saf0Page : Nat := 0xC000
def saf1Page : Nat := 0xD000

/-- Group `g`. -/
def State.group (s : State) (g : Nat) : StoGroup := tabGet StoGroup.reset g s.groups

/-- Replace group `g`. -/
def State.setGroup (s : State) (g : Nat) (x : StoGroup) : State := { s with groups := tabSet g x s.groups }

/-- The mask of group `g` in the active set (R414). -/
def State.groupMask (s : State) (g : Nat) : Nat := s.act64 (SAF0_GRP_MASK_LO g)

/-- Whether group `g` holds slot `n`, by its mask or by a block (R414). -/
def State.groupHas (s : State) (g n : Nat) : Bool :=
  s.safRun && (s.groupMask g / 2 ^ n % 2 == 1 || (List.range 16).any fun k => s.guards k n && s.actFld (SAF0_GA_CFG k) 15 14 == g)

/-- The groups of slot `n`. -/
def State.groupsOf (s : State) (n : Nat) : List Nat := (List.range 4).filter fun g => s.groupHas g n

/-- The slots of group `g`. -/
def State.slotsOf (s : State) (g : Nat) : List Nat := (List.range 64).filter fun n => s.groupHas g n

/-- Whether the active set and the bindings make group `g` claim local channel `c`, by GRP_CFG.LDC or by the mask (R412). -/
def State.claimsNow (s : State) (g c : Nat) : Bool :=
  s.safRun && (s.actFld (SAF0_GRP_CFG g) 23 18 / 2 ^ c % 2 == 1 ||
    (match s.slotOfLdc c with
     | none => false
     | some n => s.groupMask g / 2 ^ n % 2 == 1))

/-- Whether group `g` claims local channel `c`, by the bindings, LDC fields and masks of the last safety cycle boundary (R412). -/
def State.claims (s : State) (g c : Nat) : Bool := s.claimed.contains (g, c)

/-- The claims take effect (R412). -/
def State.latchClaims (s : State) : State := { s with claimed := (List.range 4).flatMap fun g => ((List.range 6).filter fun c => s.claimsNow g c).map fun c => (g, c) }

/-- Whether the dies have lost each other or the reference (R11, R13): kept until a cold reset in GLB's field-die status. -/
def State.dieLost (s : State) : Bool := s.lost

/-- Whether the gate enable of channel `c` is present: every group that claims it energised in both channels, no loss of the dies, no thermal shut-down (R11, R13, R412, R503). -/
def State.gateEnable (s : State) (c : Nat) : Bool :=
  !s.dieLost && s.core != .thermal && s.core != .locked && (List.range 4).all fun g => !(s.claims g c) || !(s.group g).off

/-- The enabled bit of a channel follows its groups; its removal is a protective turn-off (R292, R412). -/
def State.refreshGate (s : State) (c : Nat) : State :=
  let e := s.gateEnable c
  let s1 := s.wrBit (GDV_FLT_STAT c) 13 e
  if e then s1 else s1.softOff c

/-- All six channels. -/
def State.refreshGates (s : State) : State := s.each (List.range 6) fun c s => s.refreshGate c

/-- Output k of the field I/O is on: commanded, no latch, the supply present, its group energised where it is gated, the dies joined (R11, R432, R433, R434). -/
def State.outOn (s : State) (k : Nat) : Bool :=
  !s.dieLost && s.bit FIO_OUT_SET k && !s.bit FIO_OUT_STAT (8 + k) && !s.bit FIO_OUT_STAT (16 + k) && !s.bit FIO_SUP_STAT 17 &&
    !(s.safRun && s.actBit SAF0_OUT_GATE k && (s.group (s.actFld SAF0_OUT_GATE (9 + 2 * k) (8 + 2 * k))).off)

/-- OUT_STAT shows the outputs that are on, and their readbacks (R442). -/
def State.showOutputs (s : State) : State :=
  let on := (List.range 8).foldl (fun acc k => acc + (if s.outOn k then 2 ^ k else 0)) 0
  (s.wrFld FIO_OUT_STAT 7 0 on).wrFld FIO_OUT_STAT 31 24 on

/-- An off group energises again without a safety reset: AUTO, and only demands have acted (R416). -/
def StoGroup.alone (x : StoGroup) (auto : Bool) : Bool := auto && x.onlyDemands

/-- The FIO page. -/
def fioPage : Nat := 0xE000

/-- Input `k` shows its level after INV; `ch`: its undebounced bit of IN_LVL has changed too (R430, R443). -/
def State.inShow (s : State) (k : Nat) (ch : Bool) : State :=
  let v := s.bit FIO_IN_LVL (16 + k) != s.bit (FIO_IN_CFG k) 2
  (s.wrBit FIO_IN_LVL k v).raiseIf (ch || v != s.bit FIO_IN_LVL k) fioPage 0

/-- Four bits, one for each group. -/
def groupBits (f : Nat → Bool) : Nat := (List.range 4).foldl (fun acc g => acc + (if f g then 2 ^ g else 0)) 0

/-- The registers that show the groups: SAF_STAT and B_STAT GRP_OFF and RESET_WAIT, the STO_B commands, the gated outputs (R438, R440). -/
def State.showGroups (s : State) : State :=
  let a := groupBits fun g => (s.group g).offA
  let b := groupBits fun g => (s.group g).offB
  let wait (f : StoGroup → Bool) : Bool := s.safRun && (List.range 4).any fun g => f (s.group g) && !(s.group g).alone (s.actBit (SAF0_GRP_CFG g) 5)
  let s1 := (s.wrFld SAF0_SAF_STAT 5 2 a).wrBit SAF0_SAF_STAT 10 (wait StoGroup.offA)
  let s2 := (s1.wrFld SAF1_B_STAT 5 2 b).wrBit SAF1_B_STAT 10 (wait StoGroup.offB)
  (s2.wrFld SAF1_B_OUT 3 0 (15 - b)).showOutputs

/-- The channels of `a` and `b` de-energise group `g` for a cause: GRP_OFF is raised by each that had it energised, and the gate enables of the channels it claims go (R411, R412). -/
def State.groupOffBy (s : State) (g : Nat) (a b : Bool) (c : SafCause) : State :=
  let x := s.group g
  let na := a && !x.offA
  let nb := b && !x.offB
  let x' : StoGroup := { x with
    offA := x.offA || a
    offB := x.offB || b
    causes := (if c ∈ x.causes then x.causes else c :: x.causes)
    onlyDemands := c.demand && (if x.off then x.onlyDemands else true)
    faulted := c.isFault || (x.off && x.faulted)
    since := if na || nb then s.dt else x.since }
  (((s.setGroup g x').showGroups.raiseIf na saf0Page g).raiseIf nb saf1Page g).refreshGates

/-- Both channels de-energise group `g`. -/
def State.groupOff (s : State) (g : Nat) (c : SafCause) : State := s.groupOffBy g true true c

/-- Both channels energise group `g`. -/
def State.groupOn (s : State) (g : Nat) : State :=
  ((s.setGroup g { s.group g with offA := false, offB := false, causes := [], onlyDemands := false, faulted := false, since := s.dt, pulseA := none, pulseB := none }).showGroups).refreshGates

/-- FIT falls: the bit clears and DEGRADED is raised on the active device (R391). -/
def State.fitFalls (s : State) : State :=
  if s.bit XLK_XLK_STAT 6 then (s.wrBit XLK_XLK_STAT 6 false).raiseIf (s.role == 1) xlkPage 1 else s

end Sys2Proof.Machine
end

