-- ==== Sys2Proof/Machine/Axis.lean ====
section
/-! DEFINITION. The axis of a slot: accessors, formats of its registers, its state as reported, the tuning lock (R23, R24, R122, R187, R188). -/

namespace Sys2Proof.Machine

/-- The encoding of an axis state (R23). -/
def AxState.num : AxState → Nat
  | .off => 0
  | .ready => 1
  | .opened => 2
  | .closed => 3
  | .moving => 4
  | .following => 5
  | .stopping => 6
  | .fault => 7

/-- The encoding and rank of a reaction class (R25). -/
def FaultClass.num : FaultClass → Nat
  | .note => 0
  | .hold => 1
  | .ramp => 2
  | .quick => 3
  | .torqueOff => 4
  | .safe => 5

/-- The class of a class field (R25, R27). Codes 6 and 7, which the spec does not encode, act as NOTE: DESIGN CHOICE, log 47. -/
def classOf (k : Nat) : FaultClass :=
  match k with
  | 1 => .hold
  | 2 => .ramp
  | 3 => .quick
  | 4 => .torqueOff
  | 5 => .safe
  | _ => .note

/-! ### Formats of R122, in units of 2^-64 -/

/-- A 16.16 register value. -/
def v16 (x : Int) : Int := x * 2 ^ 48
/-- A 24.8 register value. -/
def a8 (x : Int) : Int := x * 2 ^ 56

/-- The limits of a move, from the values in force; the engine plans with the smaller of VMAX and VLIM (R122). -/
def State.moveLims (s : State) (n : Nat) : Limits :=
  { vmax := v16 (min (s.act (AXP_VMAX n)).toNat (s.rd (AXP_VLIM n)).toNat)
    acc := a8 (s.act (AXP_ACC n)).toNat
    dec := a8 (s.act (AXP_DEC n)).toNat
    jerk := a8 (s.act (AXP_JERK n)).toNat }

/-- The axis velocity limit VLIM. -/
def State.vlim (s : State) (n : Nat) : Int := v16 (s.rd (AXP_VLIM n)).toNat

/-- The jerk limit in force. -/
def State.axJerk (s : State) (n : Nat) : Int := a8 (s.act (AXP_JERK n)).toNat

/-- A signed 32.32 pair in force, in units of 2^-64. -/
def State.actPair (s : State) (lo : Nat) : Int := q64 (signedOf 64 (s.act64 lo))

/-- A position in units of 2^-64 as a wrapping 32.32 register pair, truncated towards −∞ (R125). -/
def pos32 (p : Int) : Nat := wrapTo 64 (q32 p)

/-- A position as the wrapping counter holds it (R119), in units of 2^-64, and the whole counter ranges by which the model's own position differs from it. -/
def wrapPos (p : Int) : Int := (p + 2 ^ 95) % 2 ^ 96 - 2 ^ 95
def lapOf (p : Int) : Int := p - wrapPos p

/-- A velocity in units of 2^-64 per second as signed 16.16, saturating. -/
def vel16 (v : Int) : W32 := w32 (satTo 32 (v / 2 ^ 48))

/-- An acceleration as signed 24.8, saturating. -/
def acc8 (a : Int) : W32 := w32 (satTo 32 (a / 2 ^ 56))

/-! ### Tuning lock -/

/-- Whether offset `o` of an AXL page lies in the coefficient area (R185). -/
def coefArea (o : Nat) : Bool := o == 0x040 || (decide (0x100 ≤ o) && decide (o ≤ 0x2FC))

/-- Whether a key of a page's shadow belongs to the coefficient area of AXL page `page`. -/
def isCoef (page a : Nat) : Bool := decide (page ≤ a) && coefArea (a - page)

/-- A set of the AXL page whose coefficient values are those in force (R187, R188). -/
def State.keepCoefs (s : State) (n : Nat) (vals : Tab W32) : Tab W32 :=
  let page := axlPage n
  (s.inForce.filter fun e => isCoef page e.1).foldl (fun t e => tabSet e.1 e.2 t) (tabDrop (isCoef page) vals)

/-- A tuning-locked axis leaves OPEN: the coefficient shadow returns to the values in force and a pending commit keeps its other registers (R188). -/
def State.dropCoefs (s : State) (n : Nat) : State :=
  let page := axlPage n
  let s1 : State := { s with commits := s.commits.map fun c => if c.page = page then { c with vals := s.keepCoefs n c.vals } else c }
  s1.each ((s1.regs.map (·.1)).filter (isCoef page)) fun a s => s.wr a (s.act a)

/-! ### The state as reported -/

/-- Enter an axis state: PAGE_STAT.STATE, STATE_CHG; a moved apply instant ends in FAULT, leaving OPEN under tuning lock discards coefficients (R23, R188, R195, R203). -/
def State.setAxState (s : State) (n : Nat) (st : AxState) : State :=
  let x := s.axis n
  if x.st = st then s
  else
    let s1 := (s.setAxis n { x with st := st }).wrFld (axlPage n + 8) 3 0 st.num
    let s2 := (if st = .fault then s1.wrBit (AXL_LOOP_STAT n) 14 false else s1).raise (axlPage n) 7
    if x.st = .opened ∧ s.tuneLocked n then s2.dropCoefs n else s2

/-- PROF_STAT.PHASE at time `t` (R156). -/
def Axis.phase (x : Axis) (t : Nat) : Nat :=
  let part : Nat := match x.plan.partAt t with
    | some .accel => 1
    | some .cruise => 2
    | some .decel => 3
    | some .reversing => 3
    | none => 2
  match x.kind with
  | .idle => 0
  | .ptp => part
  | .vel => part
  | .velLimit => part
  | .stream => 4
  | .starve => if x.plan.ended t then 5 else 3
  | .resume => part
  | .home => 6
  | .stop => 7
  | .ramp => 7
  | .quick => 7

/-- Put PHASE and REVERSING in PROF_STAT. -/
def State.showPhase (s : State) (n : Nat) : State :=
  let x := s.axis n
  let rev := decide (x.plan.partAt s.dt = some .reversing)
  (s.wrFld (AXP_PROF_STAT n) 2 0 (x.phase s.dt)).wrBit (AXP_PROF_STAT n) 3 rev

/-- Give the axis a plan and what it is for. -/
def State.setPlan (s : State) (n : Nat) (k : MoveKind) (pl : Plan) (lm : Limits) : State :=
  (s.setAxis n { s.axis n with kind := k, plan := pl, lims := lm, newLims := none, doneSent := false }).showPhase n

/-- The axis holds position `p` with no motion command. -/
def State.restAt (s : State) (n : Nat) (p : Int) : State := s.setPlan n .idle (restPlan s.dt p) (s.axis n).lims

/-- PROF_STAT.HOMED (R156). -/
def State.homed (s : State) (n : Nat) : Bool := s.bit (AXP_PROF_STAT n) 7

/-- HOLD is latched (R24). -/
def State.holdLatched (s : State) (n : Nat) : Bool := s.bit (AXL_LOOP_STAT n) 15

/-- Homing ends with a HOME_FAIL code (R147). -/
def State.homeFail (s : State) (n code : Nat) : State :=
  ((s.wrFld (AXP_PROF_STAT n) 19 16 code).wrFld (AXP_PROF_STAT n) 15 12 0).raise (axpPage n) 6

/-- The segment silo leaves the engine: a running segment's entry is released (R136). -/
def State.streamEnd (s : State) (n : Nat) : State :=
  let x := s.axis n
  let s1 := if x.seg.isSome then s.siloFree n 1 else s
  (s1.setAxis n { s1.axis n with seg := none, look := .absent }).siloAttach n false

/-- The soft limits are in force (R143). -/
def State.limsOn (s : State) (n : Nat) : Bool := s.actBit (AXP_LIM_CTL n) 0 && s.homed n
def State.limNeg (s : State) (n : Nat) : Int := s.sPair (AXP_SWLIM_NEG_LO n)
def State.limPos (s : State) (n : Nat) : Int := s.sPair (AXP_SWLIM_POS_LO n)

/-- The modulo period, 0 for a linear axis (R119). -/
def State.modPer (s : State) (n : Nat) : Int := q64 (s.act64 (AXP_MOD_LO n) : Nat)

/-- The feedback port `p`, and the port bound to slot `n` (R337). -/
def State.port (s : State) (p : Nat) : Port := tabGet Port.reset p s.ports
def State.setPort (s : State) (p : Nat) (x : Port) : State := { s with ports := tabSet p x s.ports }
def State.portOfSlot (s : State) (n : Nat) : Option Nat :=
  (List.range 12).find? fun p => s.actBit (FBP_BIND p) 6 && s.actFld (FBP_BIND p) 5 0 == n

/-- The stage link and bridge bound to slot `n` (R258). A slot is in one BIND at most, as a COMMIT of a second is refused (R15, log 61); in any other state the lowest link of a bridge-0 binding serves, then of a bridge-1 binding (DESIGN CHOICE, log 61). -/
def State.linkOfSlot (s : State) (n : Nat) : Option (Nat × Nat) :=
  match (List.range 32).find? fun k => s.actBit (SLK_BIND k) 6 && s.actFld (SLK_BIND k) 5 0 == n with
  | some k => some (k, 0)
  | none =>
    match (List.range 32).find? fun k => s.actBit (SLK_BIND k) 14 && s.actFld (SLK_BIND k) 13 8 == n with
    | some k => some (k, 1)
    | none => none

/-- Link `k`. -/
def State.link (s : State) (k : Nat) : Link := tabGet Link.reset k s.links
def State.setLink (s : State) (k : Nat) (x : Link) : State := { s with links := tabSet k x s.links }

/-- LPU `i` runs programs (R228). -/
def State.lpuWorks (s : State) (i : Nat) : Bool :=
  let r := s.fld (LPU_ROLE i) 2 0
  r == 0 || r == 2 || r == 3

/-- A slot carried by a working LPU. -/
def State.carried (s : State) (n : Nat) : Bool :=
  match s.lpuOf n with
  | none => false
  | some (i, _) => s.lpuWorks i

/-- A bridge-1 slot is live only with two bridges, double update, the position of the bridge-0 slot on another LPU, and its sample rate (R258). -/
def State.bridge1Live (s : State) (k n : Nat) : Bool :=
  let m := s.actFld (SLK_BIND k) 5 0
  s.fld (SLK_STAGE_CAPS k) 1 0 == 2 && s.actBit (SLK_LINK_CTL k) 2 && s.act (AXL_SAMPLE_HZ n) == s.act (AXL_SAMPLE_HZ m) &&
    (match s.lpuOf n, s.lpuOf m with
     | some (i, p), some (j, q) => decide (p = q) && decide (i ≠ j)
     | _, _ => false)

/-- A slot of a stage link is live (R244, R258). -/
def State.linkLive (s : State) (n : Nat) : Bool :=
  match s.linkOfSlot n with
  | none => false
  | some (k, b) => s.fld (SLK_LINK_STAT k) 2 0 == 4 && s.bit (SLK_LINK_STAT k) 7 && (b == 0 || s.bridge1Live k n)

/-- A step axis (R148). -/
def State.isStep (s : State) (n : Nat) : Bool := s.actBit (AXP_STEP_CTL n) 0

/-- A stepper stage serves the slot (R224). -/
def State.stageStepper (s : State) (n : Nat) : Bool :=
  match s.linkOfSlot n with
  | none => false
  | some (k, _) => s.bit (SLK_STAGE_CAPS k) 2

/-- A position whose slot is bound to a step pair without a stepper stage runs no program (R17). -/
def State.runsNothing (s : State) (n : Nat) : Bool := s.isStep n && !s.stageStepper n

/-- A slot is bound to a live output: a step pair, a local channel, or a live slot of a stage link (R15, R190, R244). -/
def State.slotLive (s : State) (n : Nat) : Bool := s.isStep n || (s.ldcOfSlot n).isSome || s.linkLive n

/-- The trip bits of the last accepted uplink frame that concern bridge `b` (R265). -/
def State.tripBits (s : State) (k b : Nat) : Nat := s.fld (SLK_STAGE_STAT k) 8 0 &&& (0x1F0 + (if b = 0 then 3 else 12))

/-- A position fault of the slot that waits for a valid field A (R642). -/
def State.posWait (s : State) (n : Nat) : Bool :=
  match s.linkOfSlot n with
  | none => false
  | some (k, b) => if b = 0 then (s.link k).posA.1.wait else (s.link k).posA.2.wait

end Sys2Proof.Machine
end

