-- ==== Sys2Proof/Machine/Cam.lean ====
section
/-! DEFINITION. Cam tables in shared SRAM: knots, descriptors, their check and the shape of their segments (R102 to R106). -/

namespace Sys2Proof.Machine

/-- The address of knot `k` (R102). -/
def knotAddr (k : Nat) : Nat := 0x02000000 + 16 * k

/-- The address of the descriptor of table `t` (R102). -/
def camDescAddr (t : Nat) : Nat := 0x02400000 + 16 * t

/-- One 32-bit word of memory, little-endian. -/
def State.memWord (s : State) (a : Nat) : W32 := BitVec.ofNat 32 (s.memNat a 4)

/-- Store one 32-bit word of memory. -/
def State.putWord (s : State) (a : Nat) (v : W32) : State := s.putNat a 4 v.toNat

/-- A knot: X as 0.32, Y as signed 32.32, SEG, and whether its reserved bits are 0 (R103). -/
structure Knot where
  x : Int
  y : Int
  seg : Nat
  clean : Bool
deriving DecidableEq, Repr

/-- Knot `k` as it stands in memory (R103). -/
def State.knotAt (s : State) (k : Nat) : Knot :=
  let w3 := s.memWord (knotAddr k + 12)
  ⟨(s.memNat (knotAddr k) 4 : Nat), signedOf 64 (s.memNat (knotAddr k + 4) 8), fldOf w3 1 0, fldOf w3 31 2 == 0⟩

/-- The fields of descriptor `t` (R104). -/
def State.camBase (s : State) (t : Nat) : Nat := fldOf (s.memWord (camDescAddr t)) 17 0
def State.camCount (s : State) (t : Nat) : Nat := fldOf (s.memWord (camDescAddr t + 4)) 15 0
def State.camReady (s : State) (t : Nat) : Bool := bitOf (s.memWord (camDescAddr t + 4)) 24
def State.camBusy (s : State) (t : Nat) : Bool := bitOf (s.memWord (camDescAddr t + 4)) 26
def State.camLift (s : State) (t : Nat) : Int := signedOf 64 (s.memNat (camDescAddr t + 8) 8)

/-- Whether X rises strictly over the knots from `k`, the one before having position `x`. -/
def State.knotsRise (s : State) (x : Int) (k : Nat) : Nat → Bool
  | 0 => true
  | n + 1 => decide (x < (s.knotAt k).x) && s.knotsRise (s.knotAt k).x (k + 1) n

/-- Whether every knot from `k` has a valid SEG and clean reserved bits. -/
def State.knotsClean (s : State) (k : Nat) : Nat → Bool
  | 0 => true
  | n + 1 => (s.knotAt k).clean && decide ((s.knotAt k).seg < 3) && s.knotsClean (k + 1) n

/-- The CHK code of a table of `count` knots from `base`, whose descriptor's reserved bits are clean or not (R104, R105): the lowest code that applies. -/
def State.camChk (s : State) (base count : Nat) (clean : Bool) : Nat :=
  if 262144 < base + count then 2
  else if count < 2 then 3
  else if (s.knotAt base).x ≠ 0 then 4
  else if !s.knotsRise (s.knotAt base).x (base + 1) (count - 1) then 5
  else if !(clean && s.knotsClean base count) then 6
  else 1

/-- The check of descriptor `t` (R105). -/
def State.camCheckOf (s : State) (t : Nat) : Nat :=
  let w0 := s.memWord (camDescAddr t)
  let w1 := s.memWord (camDescAddr t + 4)
  s.camChk (s.camBase t) (s.camCount t) (fldOf w0 31 18 == 0 && fldOf w1 31 27 == 0)

/-! ### The shape of a segment (R106) -/

/-- A cam table in use: its first knot, its number of knots, its lift (R105). -/
structure CamRef where
  base : Nat
  count : Nat
  lift : Int
deriving DecidableEq, Repr

/-- Knot index `i` of a table, wrapping with X ± 1 and Y ± LIFT (R106). -/
def State.camKnot (s : State) (c : CamRef) (i : Int) : Knot :=
  let n : Int := c.count
  let w := i / n
  let k := s.knotAt (c.base + (i - w * n).toNat)
  ⟨k.x + w * 4294967296, k.y + w * c.lift, k.seg, k.clean⟩

/-- The width of segment `i`, in units of 2^-32 cam cycles. -/
def State.camH (s : State) (c : CamRef) (i : Int) : Int := (s.camKnot c (i + 1)).x - (s.camKnot c i).x

/-- The chord slope of segment `i`, in units of 2^-64 turns per cam cycle. -/
def State.camD (s : State) (c : CamRef) (i : Int) : Int :=
  let h := s.camH c i
  if h = 0 then 0 else ((s.camKnot c (i + 1)).y - (s.camKnot c i).y) * 2 ^ 64 / h

/-- Whether segment `i` is linear. -/
def State.camLinear (s : State) (c : CamRef) (i : Int) : Bool := (s.camKnot c i).seg == 2

/-- The weighted slope at knot `k` (R106). -/
def State.camWeighted (s : State) (c : CamRef) (k : Int) : Int :=
  let h := s.camH c k
  let h' := s.camH c (k - 1)
  if h + h' = 0 then 0 else (h * s.camD c (k - 1) + h' * s.camD c k) / (h' + h)

/-- The slope of segment `i` at its start knot. -/
def State.camSlope0 (s : State) (c : CamRef) (i : Int) : Int :=
  if s.camLinear c i then s.camD c i else if s.camLinear c (i - 1) then s.camD c (i - 1) else s.camWeighted c i

/-- The slope of segment `i` at its end knot. -/
def State.camSlope1 (s : State) (c : CamRef) (i : Int) : Int :=
  if s.camLinear c i then s.camD c i else if s.camLinear c (i + 1) then s.camD c (i + 1) else s.camWeighted c (i + 1)

/-- The curvature that the cubic segment `i` has at its start and at its end, in units of 2^-64 turns per cam cycle squared. -/
def State.camCurv0 (s : State) (c : CamRef) (i : Int) : Int :=
  let h := s.camH c i
  if h = 0 then 0 else (6 * s.camD c i - 4 * s.camSlope0 c i - 2 * s.camSlope1 c i) * 2 ^ 32 / h
def State.camCurv1 (s : State) (c : CamRef) (i : Int) : Int :=
  let h := s.camH c i
  if h = 0 then 0 else (-6 * s.camD c i + 2 * s.camSlope0 c i + 4 * s.camSlope1 c i) * 2 ^ 32 / h

/-- The segment that holds the cam position `f` (0.32): the last knot whose X is not above it. -/
def State.camFind (s : State) (c : CamRef) (f : Int) : Nat → Nat → Nat
  | 0, k => k
  | n + 1, k => if (s.camKnot c (k + 1 : Nat)).x ≤ f ∧ k + 1 < c.count then s.camFind c f n (k + 1) else k

/-- Y, Y′ and Y″ at cam position `f`: Y in units of 2^-64 turns, the derivatives in units of 2^-64 per cam cycle (R106). -/
def State.camEval (s : State) (c : CamRef) (f : Int) : Int × Int × Int :=
  let i : Int := (s.camFind c f c.count 0 : Nat)
  let k0 := s.camKnot c i
  let k1 := s.camKnot c (i + 1)
  let h := s.camH c i
  let y0 := k0.y * 2 ^ 32
  let dy := (k1.y - k0.y) * 2 ^ 32
  let m0 := s.camSlope0 c i * h / 2 ^ 32
  let m1 := s.camSlope1 c i * h / 2 ^ 32
  let coef : List Int :=
    match k0.seg with
    | 2 => [y0, dy]
    | 1 =>
      let cur0 := if (s.camKnot c (i - 1)).seg = 0 then s.camCurv1 c (i - 1) else 0
      let cur1 := if k1.seg = 0 then s.camCurv0 c (i + 1) else 0
      quinticCoef y0 m0 (cur0 * h * h / 2 ^ 64) k1Y m1 (cur1 * h * h / 2 ^ 64)
    | _ => [y0, m0, 3 * dy - 2 * m0 - m1, -2 * dy + m0 + m1]
  if h ≤ 0 then (y0, 0, 0)
  else
    let (y, d, dd) := polyAt coef (f - k0.x) h
    (y, d * 2 ^ 32 / h, dd * 2 ^ 64 / (h * h))
where
  k1Y : Int := (s.camKnot c ((s.camFind c f c.count 0 : Nat) + 1 : Int)).y * 2 ^ 32

/-- The cam in use at cam position `f`; where the knots no longer pass the checks the manual defines no motion and the value is free (R105, log 10). -/
def State.camUse (s : State) (table : Nat) (c : CamRef) (f : Int) : Int × Int × Int :=
  if s.camChk c.base c.count true = 1 then s.camEval c f else Config.camOpen table f

end Sys2Proof.Machine
end

