-- ==== Sys2Proof/Machine/GearLaw.lean ====
section
/-! DEFINITION. The coupling law and its evaluation: masters, gear and cam, ramps, corrections (R90 to R98, R106 to R110). -/

namespace Sys2Proof.Machine

/-- Position and the first two derivatives with respect to the master, in units of 2^-64 (R93). -/
structure LawVal where
  s : Int
  g : Int
  g2 : Int
deriving DecidableEq, Repr

/-- Fields of the law's GEAR_CTL (R116). -/
def GearLaw.msrc (l : GearLaw) : Nat := fldOf l.ctl 2 0
def GearLaw.minst (l : GearLaw) : Nat := fldOf l.ctl 9 4
def GearLaw.isCam (l : GearLaw) : Bool := bitOf l.ctl 12

/-- m + PHASE_OFS − ORG, read as a signed 64-bit difference, in units of 2^-32 (R6, R92). -/
def GearLaw.diff (l : GearLaw) (m : Int) : Int := signedOf 64 (wrapTo 64 (m - l.org))

/-- The cam table of a law. -/
def GearLaw.cam (l : GearLaw) : CamRef := ⟨l.camBase, l.camCount, l.camLift⟩

/-- The number of cam cycles (or slave turns) of the difference, 32.32, rounded towards −∞ (R91, R92). -/
def GearLaw.quot (l : GearLaw) (m : Int) : Int := if l.den = 0 then 0 else l.diff m * l.num / l.den

/-- u of R91 as unsigned 32.32 cam cycles (R92). -/
def GearLaw.u (l : GearLaw) (m : Int) : Int := (wrapTo 64 (l.quot m) : Nat)

/-- C(u), C′(u) and C″(u), in units of 2^-64 turns (R91, R106). -/
def State.camC (s : State) (l : GearLaw) (u : Int) : Int × Int × Int :=
  let (y, d, dd) := s.camUse l.table l.cam (u % 4294967296)
  (y + l.camLift * 4294967296 * (u / 4294967296), d, dd)

/-- The law at master value `m`, which includes PHASE_OFS (R91, R92). -/
def State.lawAt (s : State) (l : GearLaw) (m : Int) : LawVal :=
  if l.den = 0 then ⟨l.ofs * 4294967296, 0, 0⟩
  else if l.isCam then
    let (y, d, dd) := s.camC l (l.u m)
    ⟨l.ofs * 4294967296 + y, d * l.num / l.den, dd * l.num * l.num / (l.den * l.den)⟩
  else ⟨(l.ofs + l.quot m) * 4294967296, 2 ^ 64 * l.num / l.den, 0⟩

/-- A law's position, a wrapping 32.32 count (R6, R93), taken in the counter range nearest to `p`. -/
def LawVal.near (l : LawVal) (p : Int) : LawVal := { l with s := p + wrapPos (l.s - p) }

/-- What is in force of a correction that ramps (R110). -/
def TravelRamp.now (r : TravelRamp) : Int := smoothStep r.amount r.travel r.dist

/-- PHASE_OFS: completed corrections and the running ramps (R110). -/
def Gear.phaseNow (g : Gear) : Int := g.phaseOfs + (g.regRamps.map TravelRamp.now).sum

/-- The contribution of the running switch ramps: −Δ at the start of each, falling to 0 (R108), in units of 2^-32 turns. -/
def Gear.switchNow (g : Gear) : Int := (g.swRamps.map fun r => r.now - r.amount).sum

/-- The progress of a ramp at master value `m`, as a numerator over the ramp's distance (R98). -/
def GearRamp.prog (r : GearRamp) (m : Int) : Int := r.sigma * signedOf 64 (wrapTo 64 (m - r.m0))

/-- The coefficients, in powers of the progress p, of the quintic of a ramp that ends in `e` (R98, R101). -/
def GearRamp.coef (r : GearRamp) (e0 : LawVal) : List Int :=
  let e := e0.near r.s0
  let n := r.dist
  quinticCoef r.s0 (r.d0 * n * r.sigma / 4294967296) (r.dd0 * n * n / 2 ^ 64) e.s (e.g * n * r.sigma / 4294967296) (e.g2 * n * n / 2 ^ 64)

/-- The ramp at progress `x` over its distance; below 0 it is the quadratic extension of its start (R98). -/
def GearRamp.at (r : GearRamp) (e : LawVal) (x : Int) : LawVal :=
  let n := r.dist
  let c := r.coef e
  let (p, d, dd) := polyAt (if x < 0 then c.take 3 else c) x n
  ⟨p, d * 4294967296 * r.sigma / n, dd * 2 ^ 64 / (n * n)⟩

/-- The end of a RAMP disengage: half of the starting slope × DIS_DIST beyond the start, with zero derivatives (R101). -/
def GearRamp.outEnd (r : GearRamp) : LawVal := ⟨r.s0 + r.d0 * r.dist * r.sigma / 4294967296 / 2, 0, 0⟩

/-- Whether a ramp is complete at master value `m`. -/
def GearRamp.done (r : GearRamp) (m : Int) : Bool := decide (r.dist ≤ r.prog m)

/-- The slave's position and derivatives at master value `m` (which includes PHASE_OFS): the law, a ramp into it, or a ramp out of it. -/
def State.gearAt (s : State) (g : Gear) (m : Int) : LawVal :=
  let base : LawVal := match g.ramp with
    | none => s.lawAt g.law m
    | some r =>
      if g.phase = .rampOut then (if r.done m then r.outEnd else r.at r.outEnd (r.prog m))
      else if r.done m then s.lawAt g.law m
      else r.at (s.lawAt g.law (r.m0 + r.sigma * r.dist)) (r.prog m)
  { base with s := base.s + g.switchNow * 4294967296 }

/-- A correction or switch ramp after `d` more master units of travel. -/
def TravelRamp.advance (d : Int) (r : TravelRamp) : TravelRamp := { r with travel := r.travel + d }

/-- The correction and switch ramps at master position `m` (without PHASE_OFS), after the absolute master travel since the last evaluation; completed corrections join PHASE_OFS, completed switch ramps vanish (R108, R110). -/
def Gear.advance (g : Gear) (m : Int) : Gear :=
  let d : Int := match g.lastM with
    | none => 0
    | some m0 => (signedOf 64 (wrapTo 64 (m - m0))).natAbs
  let rr := g.regRamps.map (TravelRamp.advance d)
  let sr := g.swRamps.map (TravelRamp.advance d)
  let full (r : TravelRamp) : Bool := decide (r.dist ≤ r.travel)
  { g with
    lastM := some m
    phaseOfs := g.phaseOfs + ((rr.filter full).map TravelRamp.amount).sum
    regRamps := rr.filter (fun r => !full r)
    swRamps := sr.filter (fun r => !full r) }

/-- Linear extrapolation from two samples at time `t` (R90). -/
def extrapolate (new old : PosSample) (t : Nat) : Kin :=
  let n : Int := (new.t : Int) - old.t
  let d := new.p - old.p
  if n ≤ 0 then ⟨new.p, 0, 0⟩ else ⟨new.p + d * ((t : Int) - new.t) / n, d * 4000000000 / n, 0⟩

/-- s′ = g v and s″ = g′ v² + g a (R93), at a master moving as `mk`. -/
def LawVal.kin (l : LawVal) (mk : Kin) : Kin :=
  ⟨l.s, l.g * mk.v / 2 ^ 64, l.g2 * mk.v / 2 ^ 64 * mk.v / 2 ^ 64 + l.g * mk.a / 2 ^ 64⟩

/-- The commanded state of slot `n` at time `t`: its plan, or its coupling to a master whose own state is found first (R90, R95). The first argument bounds the chain. -/
def State.cmdKinF : Nat → State → Nat → Nat → Kin
  | 0, s, n, t => (s.axis n).plan.eval t
  | k + 1, s, n, t =>
    let g := s.gear n
    if g.phase = .idle then (s.axis n).plan.eval t
    else
      let mk : Kin := match g.law.msrc with
        | 0 => s.lineAt t
        | 1 => State.cmdKinF k s g.law.minst t
        | 2 => extrapolate (s.axis g.law.minst).act1 (s.axis g.law.minst).act0 t
        | _ => extrapolate (s.port g.law.minst).new (s.port g.law.minst).old t
      -- the ramps are exact at this instant, also between the axis's own samples (R95)
      let g1 := g.advance (q32 mk.p)
      ((s.gearAt g1 (q32 mk.p + g1.phaseNow)).near (s.axis n).cmd.p).kin mk

/-- The commanded state of slot `n` at time `t`; a chain has at most three links (R94). -/
def State.cmdKin (s : State) (n t : Nat) : Kin := State.cmdKinF 4 s n t

/-- The master's state for a law at time `t` (R90). -/
def State.masterKin (s : State) (l : GearLaw) (t : Nat) : Kin :=
  match l.msrc with
  | 0 => s.lineAt t
  | 1 => s.cmdKin l.minst t
  | 2 => extrapolate (s.axis l.minst).act1 (s.axis l.minst).act0 t
  | _ => extrapolate (s.port l.minst).new (s.port l.minst).old t

/-- The position now of the master of slot `n`, in units of 2^-32: of its coupling, or of the committed GEAR_CTL where none is in force (R90, R111). -/
def State.masterRaw (s : State) (n : Nat) : Int :=
  let g := s.gear n
  q32 (s.masterKin (if g.phase = .idle then { GearLaw.none with ctl := s.act (AXG_GEAR_CTL n) } else g.law) s.dt).p

/-- The coupling of slot `n` with its correction and switch ramps advanced to this instant (R95, R108, R110). -/
def State.gearNow (s : State) (n : Nat) : Gear := (s.gear n).advance (s.masterRaw n)

/-- m + PHASE_OFS for slot `n` now, in units of 2^-32. -/
def State.masterM (s : State) (n : Nat) : Int := s.masterRaw n + (s.gearNow n).phaseNow

/-! ### What the AXG page shows -/

/-- GEAR_STAT from the coupling (R97, R117). TABLE shows the TABLE field of the coupling in force also for a gear, of which the spec does not say what it reads (DESIGN CHOICE, log 61). -/
def State.showGear (s : State) (n : Nat) : State :=
  let g := s.gear n
  let ph := match g.phase with
    | .idle => if g.wait.isSome then 1 else 0
    | .rampIn => 2
    | .sync => 3
    | .rampOut => 4
  let a := AXG_GEAR_STAT n
  ((((s.wrFld a 2 0 ph).wrBit a 5 g.wait.isSome).wrFld a 15 8 (if g.phase = .idle then 0 else g.law.table)).wrFld a 18 16 g.regRamps.length).wrFld a 20 19 g.swRamps.length

/-- ORG_ACT, OFS_ACT and PHASE_OFS (R91, R115). -/
def State.showLaw (s : State) (n : Nat) : State :=
  let g := s.gear n
  ((s.wr64 (AXG_ORG_ACT_LO n) (wrapTo 64 g.law.org)).wr64 (AXG_OFS_ACT_LO n) (wrapTo 64 g.law.ofs)).wr64 (AXG_PHASE_OFS_LO n) (wrapTo 64 g.phaseNow)

/-- A coupling that makes its axis FOLLOWING (R94, R98). -/
def State.follows (s : State) (n : Nat) : Bool := (s.gear n).phase == .rampIn || (s.gear n).phase == .sync

/-- The depth of axis `n`: following links back to its root (R94). The first argument bounds the chain. -/
def State.gearDepthF : Nat → State → Nat → Nat
  | 0, _, _ => 0
  | k + 1, s, n =>
    if s.follows n then
      let l := (s.gear n).law
      1 + (if l.msrc = 1 ∨ l.msrc = 2 then State.gearDepthF k s l.minst else 0)
    else 0

/-- GEAR_STAT.DEPTH of every slot that has had a coupling (R94). -/
def State.showDepths (s : State) : State := s.each (s.gears.map (·.1)) fun n st => st.wrFld (AXG_GEAR_STAT n) 4 3 (State.gearDepthF 4 st n)

/-- Replace the coupling and show it. -/
def State.putGear (s : State) (n : Nat) (g : Gear) : State := (((s.setGear n g).showGear n).showLaw n).showDepths

/-- Release the coupling and any wait; the axis goes on from its commanded state at this instant (R113). Registration corrections go on with the travel of the master that GEAR_CTL names, as the spec ends none of them (DESIGN CHOICE, log 61). -/
def State.uncouple (s : State) (n : Nat) : State :=
  let g := s.gear n
  if g.phase = .idle ∧ g.wait.isNone ∧ g.waitDis.isNone then s
  else
    let s1 := s.setGear n { s.gearNow n with phase := .idle, ramp := none, wait := none, waitDis := none, swRamps := [] }
    s1.putGear n { s1.gear n with lastM := some (s1.masterRaw n) }

/-- The rebasing of R93 once the difference reaches 2^30 master units. -/
def GearLaw.rebase (l : GearLaw) (m : Int) : GearLaw :=
  let d := l.diff m
  if d.natAbs < 2 ^ 62 ∨ l.den = 0 then l
  else
    let unit := l.den * 4294967296
    let k := if 0 ≤ d then d / unit else -((-d) / unit)
    { l with
      org := wrapTo 64 (l.org + k * unit)
      ofs := signedOf 64 (wrapTo 64 (l.ofs + (if l.isCam then k * l.num * l.camLift else k * l.num * 4294967296))) }

end Sys2Proof.Machine
end

