-- ==== Sys2Proof/Machine/React.lean ====
section
/-! DEFINITION. Fault reactions: the six classes and what each does to an axis, from every state (R24 to R28, R113, R114, R130, R466). -/

namespace Sys2Proof.Machine

/-- The deceleration and jerk of a stop (R130): STOP and HOLD use the move's own, RAMP uses FAULT_DEC. -/
def State.stopLims (s : State) (n : Nat) (k : MoveKind) : Limits :=
  let x := s.axis n
  let own : Limits := { s.moveLims n with vmax := x.lims.vmax, dec := (if x.kind = .idle ∨ x.kind = .starve ∨ (s.gear n).phase ≠ .idle then (s.moveLims n).dec else x.lims.dec) }
  match k with
  | .ramp => { own with dec := a8 (s.rd (AXP_FAULT_DEC n)).toNat }
  | .quick => { own with dec := a8 (s.rd (AXP_QSTOP_DEC n)).toNat }
  | .starve => { own with dec := a8 (s.rd (AXP_STARVE_DEC n)).toNat }
  | _ => own

/-- The plan of a stop of kind `k` from the axis's present state; QUICK steps its acceleration (R123, R130). -/
def State.stopPlan (s : State) (n : Nat) (k : MoveKind) : State :=
  let c := s.cmdKin n s.dt
  let lm := s.stopLims n k
  let l := if k = .quick then quickPhases lm.dec c else stopPhases lm c
  (s.uncouple n).setPlan n k (openPlan s.dt c l 0) lm

/-- What ends when an axis leaves its motion: a running stream, a homing method (code 2), a waiting engage (R97, R136, R147). -/
def State.endMotion (s : State) (n : Nat) : State :=
  let k := (s.axis n).kind
  let s1 := if k = .stream ∨ k = .starve ∨ k = .resume then s.streamEnd n else s
  if k = .home then s1.homeFail n 2 else s1

/-- Remember the cause of a reaction (R642). -/
def State.addCause (s : State) (n : Nat) (c : Option FaultCause) : State :=
  match c with
  | none => s
  | some c => if c ∈ (s.axis n).causes then s else s.setAxis n { s.axis n with causes := c :: (s.axis n).causes }

/-- Record a fault in ERR_CAP of the AXL page: code STATE, naming LOOP_STAT (R25, R26, log 22). -/
def State.recordFault (s : State) (n : Nat) : State := s.err (axlPage n) .state 0x48

/-- The reaction in force. -/
def State.setReact (s : State) (n : Nat) (c : Option FaultClass) : State := s.setAxis n { s.axis n with react := c }

/-- The channel bound to the slot coasts or loses torque with it (R292, R326). -/
def State.boundLdc (s : State) (n : Nat) (f : Nat → State → State) : State :=
  match s.ldcOfSlot n with
  | none => s
  | some c => f c s

/-- Switching of the slot stops. -/
def State.pwmOff (s : State) (n : Nat) : State := s.setAxis n { s.axis n with pwm := false }

/-- Whether the axis is in motion, in the sense of R24. -/
def AxState.inMotion (st : AxState) : Bool :=
  match st with
  | .moving => true
  | .following => true
  | .stopping => true
  | _ => false

/-- HOLD on an axis (R24, R25). -/
def State.reactHold (s : State) (n : Nat) : State :=
  let s1 := (s.wrBit (AXL_LOOP_STAT n) 15 true).boundLdc n fun c s => s.ldcCoast c
  match (s.axis n).st with
  | .moving => ((((s1.endMotion n).stopPlan n .stop).setReact n (some .hold)).setAxState n .stopping)
  | .following => ((((s1.endMotion n).stopPlan n .stop).setReact n (some .hold)).setAxState n .stopping)
  | .stopping => s1.setReact n (some .hold)
  | .closed => s1.uncouple n
  | _ => s1

/-- RAMP or QUICK on an axis (R24, R25). -/
def State.reactStop (s : State) (n : Nat) (cls : FaultClass) : State :=
  let k : MoveKind := if cls = .quick then .quick else .ramp
  let s1 := s.boundLdc n fun c s => s.ldcCoast c
  if (s.axis n).st.inMotion then (((s1.endMotion n).stopPlan n k).setReact n (some cls)).setAxState n .stopping
  else
    let s2 := ((s1.uncouple n).setReact n (some cls)).setAxState n .fault
    if cls = .quick then s2.pwmOff n else s2

/-- TORQUE OFF on an axis: switching stops at once, the axis coasts and enters FAULT (R25). -/
def State.reactOff (s : State) (n : Nat) (cls : FaultClass) : State :=
  let c := s.cmdKin n s.dt
  let s1 := ((s.endMotion n).uncouple n).boundLdc n fun c s => s.ldcTorqueOff c
  (((s1.restAt n c.p).pwmOff n).setReact n (some cls)).setAxState n .fault

/-- The effect of a reaction on one axis, its groups left aside. -/
def State.reactOne (s : State) (n : Nat) (cls : FaultClass) : State :=
  match cls with
  | .note => s.recordFault n
  | .hold => s.reactHold n
  | .ramp => s.reactStop n .ramp
  | .quick => s.reactStop n .quick
  | .torqueOff => s.reactOff n .torqueOff
  | .safe => (s.reactOff n .safe).addCause n (some .safe)

/-- The strongest class governs: whether `cls` starts on an axis (R26). -/
def Axis.starts (x : Axis) (cls : FaultClass) : Bool :=
  match x.react with
  | none => true
  | some r => decide (r.num < cls.num)

/-- A reaction of class FLUSH_CFG.CLASS or stronger triggers a flush (R466). -/
def State.flushFault (s : State) (n : Nat) (cls : FaultClass) : State :=
  s.when (s.bit REC_FLUSH_CFG 11 && decide (s.fld REC_FLUSH_CFG 10 8 ≤ cls.num)) fun s => s.flushTrigger 3 (n + cls.num * 256)

/-- The reaction starts on slot `n`, without its groups and its slaves: recorded in OFF and where it is not the strongest (R24, R26); a mirrored slot's reaction is sent to the standby (R389). -/
def State.reactSlot (s : State) (n : Nat) (cls : FaultClass) (cause : Option FaultCause) : State :=
  let x := s.axis n
  if x.st = .off then s.recordFault n
  else
    let s1 := s.addCause n cause
    if cls = .note then s1.recordFault n
    else if !x.starts cls then (s1.recordFault n).when (cls == .hold) fun s => s.wrBit (AXL_LOOP_STAT n) 15 true
    else
      let s2 := (s1.reactOne n cls).flushFault n cls
      s2.when (s.role == 1 && s.mirrored n) fun st => st.xlkSend (.react n cls st.dt)

/-- The slots whose coupling in force has axis `m` as its master (R114). -/
def State.slavesOf (s : State) (m : Nat) : List Nat :=
  (List.range 64).filter fun n =>
    let g := s.gear n
    decide (g.phase ≠ .idle) && (g.law.msrc == 1 || g.law.msrc == 2) && g.law.minst == m

/-- Class of MASTER_LOST on slot `n` (R114, R115). -/
def State.mlostClass (s : State) (n : Nat) : FaultClass := classOf (s.fld (AXG_FAULT_CFG n) 2 0)

/-- The channels of `a` and `b` de-energise group `g`, and its slots receive SAFE; a device of a pair tells its peer, and both then need a safety reset (R25, R411, R428). `loss` gives MASTER_LOST to the slaves of a slot that reacts. -/
def State.stoWith (loss : State → Nat → FaultClass → State) (s : State) (g : Nat) (a b : Bool) (c : SafCause) : State :=
  let was := (s.group g).off
  let s1 := s.groupOffBy g a b c
  let s2 := s1.when (!was && s.bit XLK_XLK_CTL 1) fun st =>
    match st.slotsOf g with
    | [] => st
    | n :: _ => (st.setGroup g { st.group g with onlyDemands := false }).showGroups.xlkSend (.react n .safe st.dt)
  s2.each (s.slotsOf g) fun n st =>
    let starts := decide ((st.axis n).st ≠ .off) && (st.axis n).starts .safe
    let st1 := st.reactSlot n .safe (some .safe)
    if starts then loss st1 n .safe else st1

/-- The groups that a SAFE on slot `n` de-energises: its own, and those of the slots they hold, to a fixed point. -/
def State.safeGroups (s : State) (n : Nat) : List Nat :=
  let grow (l : List Nat) : List Nat := (List.range 4).filter fun g => l.contains g || l.any fun h => (s.slotsOf h).any fun m => s.groupHas g m
  grow (grow (grow (s.groupsOf n)))

/-- A reaction of QUICK or stronger of master `m` gives MASTER_LOST to its slaves, along the chain; with class SAFE it de-energises their groups as well (R25, R114, R411). The first argument bounds the chain. -/
def State.masterLostF : Nat → State → Nat → FaultClass → State
  | 0, s, _, _ => s
  | k + 1, s, m, cls =>
    if cls.num < 3 then s
    else
      s.each (s.slavesOf m) fun n st =>
        let c := st.mlostClass n
        let st1 := State.masterLostF k ((st.raise (axgPage n) 5).reactSlot n c none) n c
        if c = .safe then st1.each (st1.safeGroups n) fun g u => u.stoWith (State.masterLostF k) g true true .container else st1

/-- A chain has at most three links, and a group can pull in the masters of further chains: this bounds how far MASTER_LOST runs. -/
def lossDepth : Nat := 8

/-- The channels of `a` and `b` de-energise group `g`, with all that follows (R25, R114, R411). -/
def State.stoBy (s : State) (g : Nat) (a b : Bool) (c : SafCause) : State := s.stoWith (State.masterLostF lossDepth) g a b c

/-- Both safety channels de-energise group `g` (R411). -/
def State.safeGroup (s : State) (g : Nat) (c : SafCause) : State := s.stoBy g true true c

/-- A reaction on slot `n` with all its consequences (R25, R114, R411). -/
def State.react (s : State) (n : Nat) (cls : FaultClass) (cause : Option FaultCause) (sc : SafCause) : State :=
  let starts := decide ((s.axis n).st ≠ .off) && (s.axis n).starts cls
  -- the slaves are those of the coupling before the reaction
  let s1 := s.reactSlot n cls cause
  let s2 := if starts then State.masterLostF lossDepth s1 n cls else s1
  if cls = .safe then s2.each (s.safeGroups n) fun g st => st.safeGroup g sc else s2

/-- A detection that acts on slot `n`: on the standby of a pair it does not act on a mirrored slot (R391). -/
def State.fault (s : State) (n : Nat) (cls : FaultClass) (cause : Option FaultCause) : State :=
  if s.role = 2 ∧ s.mirrored n = true then
    (({ s with xlk := { s.xlk with standbyFault := true } } : State).raise xlkPage 7).fitFalls
  else s.react n cls cause .container

/-- A fault of another page acts on slot `n`: EXT_FLT and the reaction (R28, R479). -/
def State.faultFrom (s : State) (n : Nat) (cls : FaultClass) (cause : Option FaultCause) : State := (s.setExtFlt n).fault n cls cause

/-- A device-wide fault acts on every slot (R28). -/
def State.faultAll (s : State) (cls : FaultClass) (cause : Option FaultCause) : State :=
  (s.each (List.range 64) fun n s => s.faultFrom n cls cause).when (cls == .safe) fun st => st.fcoSafe

/-- The reaction of a local channel fault: on its bound slot, or on the standalone channel alone with its own flush trigger; a torque-off takes the channel itself to FAULT whatever its slot does (R296, R309, R466). -/
def State.ldcFault (s : State) (c : Nat) (cls : FaultClass) (cause : Option FaultCause) : State :=
  match s.slotOfLdc c with
  | some n => if cls = .note then s.fault n cls cause else (s.faultFrom n cls cause).when (decide (4 ≤ cls.num)) fun st => st.ldcTorqueOff c
  | none =>
    if cls.num < 4 then (if cls = .note then s else s.ldcCoast c)
    else (s.ldcTorqueOff c).flushFault (64 + c) cls

/-! ### Acknowledge (R642) -/

/-- Whether a cause of slot `n` still blocks an acknowledge (R642). -/
def State.causeActive (s : State) (n : Nat) (c : FaultCause) : Bool :=
  match c with
  | .frameLoss => !s.linkLive n
  | .stageTrip =>
    match s.linkOfSlot n with
    | none => false
    | some (k, b) => s.tripBits k b != 0
  | .stagePos => s.posWait n
  | .feedback =>
    match s.portOfSlot n with
    | none => false
    | some p => !s.bit (FBP_FB_STAT p) 3
  | .localProt =>
    match s.ldcOfSlot n with
    | none => false
    | some k => s.fld (GDV_FLT_STAT k) 5 0 != 0
  | .lpuBusy => !s.carried n
  | .safe => (s.groupsOf n).any fun g => (s.group g).off
  | .bridge => s.lost

/-- A cause of the axis blocks an acknowledge (R642). A safety reset that energises the slot's group removes the cause of a SAFE (R417). -/
def State.blocked (s : State) (n : Nat) : Bool := (s.axis n).causes.any fun c => s.causeActive n c

end Sys2Proof.Machine
end

