-- ==== Sys2Proof/Machine/Gear.lean ====
section
/-! DEFINITION. Engaging, disengaging, switching, registration, cam descriptors (R94 to R118): the commands of the AXG page and of the cam area. -/

namespace Sys2Proof.Machine

/-- Fields of the committed GEAR_CTL (R116). -/
def State.engMode (s : State) (n : Nat) : Nat := s.actFld (AXG_GEAR_CTL n) 15 14
def State.disMode (s : State) (n : Nat) : Nat := s.actFld (AXG_GEAR_CTL n) 17 16

/-- The law that the committed parameters of slot `n` describe, with the descriptor of table `t` as it stands (R91, R105). -/
def State.lawOf (s : State) (n t : Nat) : GearLaw :=
  { ctl := s.act (AXG_GEAR_CTL n)
    num := signedOf 32 (s.act (AXG_RATIO_NUM n)).toNat
    den := (s.act (AXG_RATIO_DEN n)).toNat
    org := s.act64 (AXG_ORG_LO n)
    ofs := signedOf 64 (s.act64 (AXG_OFS_LO n))
    table := t
    camBase := s.camBase t
    camCount := s.camCount t
    camLift := s.camLift t }

/-- The ramp distance in units of 2^-32 master units from a 16.16 register (R115). -/
def dist16 (v : W32) : Int := (v.toNat : Int) * 65536

/-- A refusal of an engage, disengage, switch: GEAR_STAT.REFUSE, ENG_REFUSED, ERR_CAP (R99, R101, R108). -/
def State.gearRefuse (s : State) (n code : Nat) : State :=
  ((s.wrFld (AXG_GEAR_STAT n) 27 24 code).raise (axgPage n) 3).err (axgPage n) .state 0x44

/-! ### Master chains (R94) -/

/-- The longest chain of axes that follow slot `n`. The first argument bounds the chain. -/
def State.heightF : Nat → State → Nat → Nat
  | 0, _, _ => 0
  | k + 1, s, n => ((s.slavesOf n).filter fun m => s.follows m).foldl (fun acc m => max acc (1 + State.heightF k s m)) 0

/-- Whether slot `n` stands on the chain from axis `m` to its root. The first argument bounds the chain. -/
def State.onChainF : Nat → State → Nat → Nat → Bool
  | 0, _, _, _ => false
  | k + 1, s, m, n =>
    m == n || (s.follows m && ((s.gear m).law.msrc == 1 || (s.gear m).law.msrc == 2) && State.onChainF k s (s.gear m).law.minst n)

/-- The depth that slot `n` would have under a law (R94). -/
def State.depthUnder (s : State) (l : GearLaw) : Nat := 1 + (if l.msrc = 1 ∨ l.msrc = 2 then State.gearDepthF 4 s l.minst else 0)

/-! ### Engaging -/

/-- Whether the master of a law is invalid for slot `n` (R99). -/
def State.masterInvalid (s : State) (n : Nat) (l : GearLaw) : Bool :=
  match l.msrc with
  | 0 => false
  | 3 => decide (12 ≤ l.minst) || s.fld (FBP_FB_STAT l.minst) 2 0 == 0 || !s.bit (FBP_FB_STAT l.minst) 3
  | 1 => decide (l.minst = n) || (s.axis l.minst).st == .off
  | 2 => decide (l.minst = n) || (s.axis l.minst).st == .off
  | _ => true

/-- The axis state lets slot `n` engage (R24, R99). -/
def State.canEngage (s : State) (n : Nat) : Bool :=
  let x := s.axis n
  !s.holdLatched n && (x.st == .closed || x.st == .following || (x.st == .moving && x.kind != .home))

/-- The refusal code of an engage at its command, 0 for none: the first case of R99 that applies. -/
def State.engageRefusal (s : State) (n : Nat) (l : GearLaw) (mode : Nat) (dist : Int) : Nat :=
  let axisMaster := l.msrc = 1 ∨ l.msrc = 2
  if !s.canEngage n then 1
  else if axisMaster ∧ l.minst ≠ n ∧ s.onChainF 4 l.minst n then 3
  else if 3 < s.depthUnder l + s.heightF 4 n then 2
  else if l.den = 0 then 4
  else if l.isCam ∧ !s.camReady l.table then 5
  else if mode = 2 ∧ dist = 0 then 9
  else if s.masterInvalid n l then 8
  else 0

/-- The PHASE_MATCH ramp of slot `n` into law `l` from the present state (R98). -/
def State.matchRamp (s : State) (n : Nat) (l : GearLaw) (dist : Int) : GearRamp :=
  let c := s.cmdKin n s.dt
  let mk := s.masterKin l s.dt
  let v := mk.v
  { sigma := if v < 0 then -1 else 1
    m0 := wrapTo 64 (q32 mk.p + (s.gearNow n).phaseNow)
    dist := dist
    s0 := c.p
    d0 := if v = 0 then 0 else c.v * 2 ^ 64 / v
    dd0 := if v = 0 then 0 else c.a * 2 ^ 64 / v * 2 ^ 64 / v }

/-- The fractions in (0, 2^32) at which `a p² + b p + c` vanishes, for p in units of 2^-32. -/
def quadRoots (a b c : Int) : List Int :=
  let u : Int := 4294967296
  let l := if a = 0 then (if b = 0 then [] else [-c * u / b])
    else
      let disc := b * b - 4 * a * c
      if disc < 0 then [] else
        let r : Int := (isqrt (disc * u * u).toNat : Nat)
        [(-b * u - r) / (2 * a), (-b * u + r) / (2 * a)]
  l.filter fun x => decide (0 < x) && decide (x < u)

/-- A zero of `f`, which changes sign between `lo` and `hi`, by bisection. -/
def signChange (f : Int → Int) : Nat → Int → Int → Int
  | 0, lo, _ => lo
  | n + 1, lo, hi =>
    let mid := (lo + hi) / 2
    if decide (f mid < 0) = decide (f lo < 0) then signChange f n mid hi else signChange f n lo mid

/-- The largest |dq/dp| over 0 ≤ p ≤ 1 of the quintic with coefficients `c`: the slope takes it at an end or where the second derivative vanishes, which it does at most once between two zeros of the third. -/
def slopeMax (c : List Int) : Int :=
  let u : Int := 4294967296
  let at' (x : Int) : Int × Int := ((polyAt c x u).2.1, (polyAt c x u).2.2)
  let w (i : Nat) : Int := c.getD i 0
  let cuts := [0] ++ (let r := quadRoots (60 * w 5) (24 * w 4) (6 * w 3)
    match r with
    | [x, y] => [min x y, max x y]
    | l => l) ++ [u]
  let mids := (cuts.zip (cuts.drop 1)).map fun e => if (at' e.1).2 < 0 ∧ 0 < (at' e.2).2 ∨ 0 < (at' e.1).2 ∧ (at' e.2).2 < 0 then signChange (fun x => (at' x).2) 33 e.1 e.2 else e.1
  (cuts ++ mids).foldl (fun acc x => max acc ((at' x).1.natAbs : Nat)) 0

/-- The largest |ds/dm| of a ramp into law `l`, in units of 2^-64 (R99, log 23). -/
def State.rampMax (s : State) (r : GearRamp) (l : GearLaw) : Int :=
  if r.dist = 0 then 0 else slopeMax (r.coef (s.lawAt l (r.m0 + r.sigma * r.dist))) * 4294967296 / r.dist

/-- The refusal code at the start of a PHASE_MATCH ramp, 0 for none (R99). -/
def State.rampRefusal (s : State) (n : Nat) (l : GearLaw) (r : GearRamp) : Nat :=
  let c := s.cmdKin n s.dt
  let v := (s.masterKin l s.dt).v
  if (v.natAbs : Int) < 2 ^ 54 ∧ c.v ≠ 0 then 7
  else if s.vlim n < s.rampMax r l * v.natAbs / 2 ^ 64 then 6
  else 0

/-- The axis enters FOLLOWING; a running stream ends (R97). -/
def State.enterFollowing (s : State) (n : Nat) : State :=
  let s1 := s.endMotion n
  let s2 := s1.setAxis n { s1.axis n with kind := .idle }
  (s2.setAxState n .following).showPhase n

/-- A coupling starts under law `l`, the gear's wait over (R97, R98, R100). A refusal leaves axis, coupling and wait as they are (R99). -/
def State.engageStart (s : State) (n : Nat) (l : GearLaw) (mode : Nat) (dist : Int) : State :=
  let g := s.gearNow n
  let g0 : Gear := { g with wait := none, waitDis := none, swRamps := [], lastM := some (q32 (s.masterKin l s.dt).p), disengaging := false }
  if mode = 2 then
    let r := s.matchRamp n l dist
    match s.rampRefusal n l r with
    | 0 => ((s.enterFollowing n).putGear n { g0 with phase := .rampIn, law := l, ramp := some r })
    | code => s.gearRefuse n code
  else
    let m := q32 (s.masterKin l s.dt).p + g.phaseNow
    let c := s.cmdKin n s.dt
    let l' : GearLaw := { l with ofs := signedOf 64 (wrapTo 64 (q32 c.p - q32 (s.lawAt { l with ofs := 0 } m).s)) }
    ((s.enterFollowing n).putGear n { g0 with phase := .sync, law := l', ramp := none }).raise (axgPage n) 0

/-- The prediction of a crossing of master position `at0` (units of 2^-32) under a law (R45, R97). -/
def State.masterPredict (s : State) (l : GearLaw) (at0 : Nat) : Outcome45 :=
  let k := s.masterKin l s.dt
  let j := if l.msrc = 0 then s.ltb.line.j else 0
  let d := signedOf 64 (wrapTo 64 ((at0 : Int) - q32 k.p))
  predict ⟨s.dt, k, j⟩ (k.p + q64 d - k.p % 4294967296) 4000000000 s.predVmin

/-- Whether the master stands below crossing `at0`. -/
def State.masterBelow (s : State) (l : GearLaw) (at0 : Int) (t : Nat) : Bool :=
  decide (signedOf 64 (wrapTo 64 (q32 (s.masterKin l t).p - at0)) < 0)

/-- Whether the master has crossed `at0` since a wait began on the side `below`; the predicted instant is rounded to a tick, so the end of this tick counts (R45, R97). -/
def State.masterCrossed (s : State) (l : GearLaw) (at0 : Int) (below : Bool) : Bool :=
  s.masterBelow l at0 s.dt != below || s.masterBelow l at0 (s.dt + 1) != below

/-- A refusal of an engage or disengage: one that the axis state or a latched HOLD gives is also recorded in the AXL page (R24). -/
def State.couplingRefuse (s : State) (n code : Nat) : State := (s.gearRefuse n code).when (code == 1) fun st => st.recordFault n

/-- ENGAGE of slot `n` with law `l` (R97, R99, R100): `now` makes AT_ANGLE act as IMMEDIATE and a PHASE_MATCH start at once, as a scheduler action does (R107). -/
def State.gearEngage (s : State) (n : Nat) (l : GearLaw) (now : Bool) : State :=
  let mode := s.engMode n
  let dist := dist16 (s.act (AXG_ENG_DIST n))
  match s.engageRefusal n l mode dist with
  | 0 =>
    if mode = 0 ∨ now then s.engageStart n l (if mode = 2 then 2 else 0) dist
    else
      let at0 := s.act64 (AXG_ENG_AT_LO n)
      if s.masterPredict l at0 = .behind then s.gearRefuse n 10
      else s.putGear n { s.gear n with wait := some (l, mode, (at0 : Int), dist, s.masterBelow l at0 s.dt) }
  | code => s.couplingRefuse n code

/-- The meaning of GEAR_ENGAGE: ENGAGE with the committed parameters (R96, R97). -/
def execGearEngage (n : Fin 64) (s : State) : Host.Outcome State Fault Refusal :=
  .next (s.gearEngage n (s.lawOf n (s.actFld (AXG_GEAR_CTL n) 31 24)) false)

/-- The law with the descriptor of its table as it stands now: it is cached at the engage (R105). -/
def State.recache (s : State) (l : GearLaw) : GearLaw := if l.isCam then { l with camBase := s.camBase l.table, camCount := s.camCount l.table, camLift := s.camLift l.table } else l

/-- The waiting engage starts once its crossing is reached, judged again by R99 as it starts (R97, R98). A refusal leaves axis and coupling unchanged. -/
def State.gearStartWaiting (s : State) (n : Nat) : State :=
  match (s.gear n).wait with
  | none => s
  | some (l, mode, at0, dist, below) =>
    if s.masterCrossed l at0 below then
      let s1 := s.putGear n { s.gear n with wait := none }
      match s1.engageRefusal n l mode dist with
      | 0 => s1.engageStart n (s1.recache l) mode dist
      | code => s1.couplingRefuse n code
    else s

/-- The meaning of ENGAGE_START. -/
def execEngageStart (n : Fin 64) (s : State) : Host.Outcome State Fault Refusal := .next (s.gearStartWaiting n)

/-! ### Disengaging (R101) -/

/-- A STOP disengage: the profile engine stops the axis at the move's deceleration. -/
def State.disengageStop (s : State) (n : Nat) : State :=
  let s1 := s.stopPlan n .stop
  (s1.setGear n { s1.gear n with disengaging := true }).setAxState n .stopping

/-- A RAMP disengage starts from the present state over `dist` master units. -/
def State.disengageRamp (s : State) (n : Nat) (dist : Int) : State :=
  let g := s.gearNow n
  let r := s.matchRamp n g.law dist
  ((s.putGear n { g with phase := .rampOut, ramp := some r, wait := none, waitDis := none, swRamps := [] }).setAxState n .stopping)

/-- DISENGAGE of slot `n` (R101). -/
def State.gearDisengage (s : State) (n : Nat) : State :=
  let g := s.gear n
  let mode := s.disMode n
  let dist := dist16 (s.act (AXG_DIS_DIST n))
  if g.wait.isSome then (s.putGear n { g with wait := none }).raise (axgPage n) 1
  else if !s.follows n then s.couplingRefuse n 1
  else if mode = 2 ∧ dist = 0 then s.gearRefuse n 9
  else if mode = 0 then s.disengageStop n
  else
    let at0 := s.act64 (AXG_DIS_AT_LO n)
    if s.masterPredict g.law at0 = .behind then s.gearRefuse n 10
    else s.putGear n { g with waitDis := some (mode, (at0 : Int), dist, s.masterBelow g.law at0 s.dt) }

/-- The meaning of GEAR_DISENGAGE. -/
def execGearDisengage (n : Fin 64) (s : State) : Host.Outcome State Fault Refusal := .next (s.gearDisengage n)

/-- The waiting disengage starts once its crossing is reached (R101). Under the reaction of line loss the coupling only ends there: the axis goes on with RAMP at its own FAULT_DEC (R49). -/
def State.gearStopWaiting (s : State) (n : Nat) : State :=
  match (s.gear n).waitDis with
  | none => s
  | some (mode, at0, dist, below) =>
    if s.follows n ∧ s.masterCrossed (s.gear n).law at0 below then
      (if (s.axis n).lineRamp then s.uncouple n else if mode = 2 then s.disengageRamp n dist else s.disengageStop n)
    else s

/-- The meaning of DISENGAGE_START. -/
def execDisengageStart (n : Fin 64) (s : State) : Host.Outcome State Fault Refusal := .next (s.gearStopWaiting n)

/-! ### Switching a cam (R108) -/

/-- ORG moves by whole cam cycles so that floor(u) = 0, and OFS by LIFT for each (R93, R108). -/
def GearLaw.toFirstCycle (l : GearLaw) (m : Int) : GearLaw :=
  let k := l.quot m / 4294967296
  if l.num = 0 ∨ k = 0 then l
  else { l with org := wrapTo 64 (l.org + k * l.den * 4294967296 / l.num), ofs := signedOf 64 (wrapTo 64 (l.ofs + l.u m / 4294967296 * l.camLift)) }

/-- CAM_SWITCH of slot `n` to table `t` (R108). During an engage ramp the ramp runs on to the new law, from the present state over what is left of its distance, so that it ends where it would have ended and the position stays continuous (log 24). -/
def State.gearSwitch (s : State) (n t : Nat) : State :=
  let g := s.gearNow n
  if !(s.follows n && g.law.isCam) then s.gearRefuse n 1
  else if !s.camReady t then s.gearRefuse n 5
  else
    let m := s.masterM n
    let old := g.law.toFirstCycle m
    let new : GearLaw := { old with table := t, camBase := s.camBase t, camCount := s.camCount t, camLift := s.camLift t }
    let u := old.u m
    let delta := q32 ((s.camC new u).1 - (s.camC old u).1)
    let ramped := decide (s.rd (AXG_SW_RAMP n) ≠ 0) && decide (g.swRamps.length < 2)
    let law : GearLaw := if ramped then new else { new with ofs := signedOf 64 (wrapTo 64 (new.ofs - delta)) }
    let sw := if ramped then g.swRamps ++ [⟨delta, dist16 (s.rd (AXG_SW_RAMP n)), 0⟩] else g.swRamps
    let ramp := g.ramp.map fun r =>
      let now := r.at (s.lawAt g.law (r.m0 + r.sigma * r.dist)) (r.prog m)
      let left := r.dist - r.prog m
      { r with m0 := wrapTo 64 m, dist := if left < 1 then 1 else left, s0 := now.s + (if ramped then q64 delta else 0), d0 := now.g, dd0 := now.g2 }
    ((s.wr64 (AXG_SW_DELTA_LO n) (wrapTo 64 delta)).putGear n { g with law := law, swRamps := sw, ramp := ramp }).raise (axgPage n) 2

/-- The meaning of GEAR_SWITCH: the table in GEAR_CTL.TABLE. -/
def execGearSwitch (n : Fin 64) (s : State) : Host.Outcome State Fault Refusal := .next (s.gearSwitch n (s.actFld (AXG_GEAR_CTL n) 31 24))

/-- CAM_START by a scheduler action: an ENGAGE of the action's table with KIND 1, at the firing instant (R107). -/
def State.camStart (s : State) (n t : Nat) : State :=
  let l := s.lawOf n t
  s.gearEngage n { l with ctl := withBit l.ctl 12 true } true

/-! ### The AXG page at its apply point (R96, R112) -/

/-- Start a registration correction of `c` in units of 2^-32 master units (R110, R112). -/
def State.startCorrection (s : State) (n : Nat) (c : Int) : State :=
  let g := s.gearNow n
  if 4 ≤ g.regRamps.length then
    (((s.count (AXG_REG_CNT n) 31 16 (axgPage n) 6).wrFld (AXG_GEAR_STAT n) 27 24 11).raise (axgPage n) 3)
  else
    ((s.putGear n { g with regRamps := g.regRamps ++ [⟨c, dist16 (s.rd (AXG_REG_RAMP n)), 0⟩] }).count (AXG_REG_CNT n) 15 0 (axgPage n) 6).raise (axgPage n) 4

/-- The automatic correction of a MARK with registration error `e`, in units of 2^-32 cy (R111). -/
def State.autoCorrection (s : State) (n w : Nat) (e : Int) : State :=
  let ctl := s.rd (AXG_REG_CTL n)
  if bitOf ctl 0 && (fldOf ctl 1 1 == w) && decide ((s.rd (AXG_REG_DEADBAND n)).toNat ≤ e.natAbs) then
    let c := signedOf 16 (fldOf ctl 31 16) * e / 32768
    let lim : Int := (s.rd (AXG_REG_MAX n)).toNat
    s.startCorrection n (clampInt (-lim) lim c)
  else s

/-- What takes effect at the apply point of the AXG page of slot `n`: a non-zero REG_STEP, then the command (R96, R112). -/
def State.gearApply (s : State) (n cmd : Nat) : State :=
  let step := signedOf 64 (s.act64 (AXG_REG_STEP_LO n))
  let s2 := if step = 0 then s else (s.startCorrection n step).setBoth64 (AXG_REG_STEP_LO n) 0
  let t := s2.actFld (AXG_GEAR_CTL n) 31 24
  match cmd with
  | 1 => s2.gearEngage n (s2.lawOf n t) false
  | 2 => s2.gearDisengage n
  | 3 => s2.gearSwitch n t
  | _ => s2

/-- The window that REG_CTL names has SRC 0 and the axis's master is the line (R111). -/
def State.autoAllowed (s : State) (n w : Nat) : Bool :=
  let src := if w = 0 then s.fld (AXC_WIN0_CTL n) 1 1 else s.fld (AXC_WIN1_CTL n) 1 1
  let m := if (s.gear n).phase = .idle then s.actFld (AXG_GEAR_CTL n) 2 0 else (s.gear n).law.msrc
  src == 0 && m == 0

/-- A write of REG_CTL (R111). -/
def State.regCtlWrite (s : State) (n : Nat) (v : W32) : State :=
  let keep := withFld (withFld 0 1 1 (fldOf v 1 1)) 31 16 (fldOf v 31 16)
  if bitOf v 0 then
    (if s.autoAllowed n (fldOf v 1 1) then s.wr (AXG_REG_CTL n) (withBit keep 0 true)
     else (((s.wr (AXG_REG_CTL n) keep).wrFld (AXG_GEAR_STAT n) 27 24 12).raise (axgPage n) 3).err (axgPage n) .state 0xA0)
  else s.wr (AXG_REG_CTL n) keep

/-- The meaning of REG_CTL_WRITE. -/
def execRegCtlWrite (n : Fin 64) (v : W32) (s : State) : Host.Outcome State Fault Refusal := .next (s.softWrite (AXG_REG_CTL n) v fun st => st.regCtlWrite n v)

/-! ### Cam descriptors (R104, R105) -/

/-- A write of word `w` of descriptor `t`: READY and CHK clear, a check in progress is abandoned, CHECK 1 starts one (R105). -/
def State.camDescWrite (s : State) (t w : Nat) (v : W32) : State :=
  let a := camDescAddr t
  let old := s.memWord (a + 4)
  let kept := withFld (withFld old 19 16 0) 26 24 0
  if w = 1 then
    let w1 := withFld (withFld v 23 16 0) 26 24 0
    s.putWord (a + 4) (if bitOf v 25 then withFld w1 26 25 3 else w1)
  else (s.putWord (a + 4) kept).putWord (a + 4 * w) v

/-- The meaning of CAM_DESCRIPTOR_WRITE. -/
def execCamDescriptorWrite (t : Fin 256) (w : Fin 4) (v : W32) (s : State) : Host.Outcome State Fault Refusal := .next (s.softWrite (camDescAddr t + 4 * w) v fun st => st.camDescWrite t w v)

/-- The check of descriptor `t` ends (R105). -/
def State.camCheckDone (s : State) (t : Nat) : State :=
  if s.camBusy t then
    let c := s.camCheckOf t
    let old := s.memWord (camDescAddr t + 4)
    s.putWord (camDescAddr t + 4) (withFld (withFld old 19 16 c) 26 24 (if c = 1 then 1 else 0))
  else s

/-- The meaning of CAM_CHECK_DONE. -/
def execCamCheckDone (t : Fin 256) (s : State) : Host.Outcome State Fault Refusal := .next (s.camCheckDone t)

/-! ### The coupling at a sample instant -/

/-- A completed RAMP disengage: the axis rests at the ramp's end in CLOSED (R101). -/
def State.rampOutDone (s : State) (n : Nat) : State :=
  let p := (s.cmdKin n s.dt).p
  ((((s.uncouple n).restAt n p).setAxState n .closed).raise (axgPage n) 1)

/-- The gearing engine at a sample of slot `n`: crossings that are observed, ramps that advance or end, rebasing (R93, R97, R98, R101, R108, R110). -/
def State.gearSample (s : State) (n : Nat) : State :=
  let s1 := (s.gearStartWaiting n).gearStopWaiting n
  let g := s1.gear n
  if g.phase = .idle then (if g.regRamps = [] then s1 else s1.putGear n (s1.gearNow n))
  else
    let m1 := s1.masterM n
    let g0 := s1.gearNow n
    let g1 : Gear := { g0 with law := g0.law.rebase m1 }
    let atEnd := match g1.ramp with
      | none => false
      | some r => r.done m1
    match g1.phase with
    | .rampIn =>
      if atEnd then (s1.putGear n { g1 with phase := .sync, ramp := none }).raise (axgPage n) 0
      else s1.putGear n g1
    | .rampOut => if atEnd then (s1.putGear n g1).rampOutDone n else s1.putGear n g1
    | _ => s1.putGear n g1

/-- The axes whose commanded positions slot `n` follows, nearest first. The first argument bounds the chain (R94). -/
def State.mastersF : Nat → State → Nat → List Nat
  | 0, _, _ => []
  | k + 1, s, n => if (s.gear n).phase ≠ .idle ∧ (s.gear n).law.msrc = 1 then (s.gear n).law.minst :: State.mastersF k s (s.gear n).law.minst else []

/-- The gearing engine at a sample of slot `n`: masters before their slaves (R95). -/
def State.gearChain (s : State) (n : Nat) : State := (s.each ((State.mastersF 3 s n).reverse.filter fun m => m != n) fun m st => st.gearSample m).gearSample n

/-- Slot `n` loses its master (R114). -/
def State.masterLost (s : State) (n : Nat) : State :=
  let c := s.mlostClass n
  (s.raise (axgPage n) 5).fault n c none

/-- The slots whose coupling follows feedback port `p`. -/
def State.portSlaves (s : State) (p : Nat) : List Nat :=
  (List.range 64).filter fun n => decide ((s.gear n).phase ≠ .idle) && (s.gear n).law.msrc == 3 && (s.gear n).law.minst == p

end Sys2Proof.Machine
end

