-- ==== Sys2Proof/Machine/Profile.lean ====
section
/-! DEFINITION. The profile engine: moves, velocity moves, streams, homing, stops, limits changed under way (R119 to R147). -/

namespace Sys2Proof.Machine

/-- Fields of the committed MOVE_CTL (R156). -/
def State.moveMode (s : State) (n : Nat) : Nat := s.actFld (AXP_MOVE_CTL n) 6 4
def State.dirPol (s : State) (n : Nat) : Nat := s.actFld (AXP_MOVE_CTL n) 9 8

/-- The committed target (R127). -/
def State.moveTgt (s : State) (n : Nat) : Int := s.actPair (AXP_TGT_LO n)

/-- The shortest step period in ticks (R150). -/
def State.stepPmin (s : State) (n : Nat) : Nat :=
  let w := max 400 (s.actFld (AXP_STEP_TIMING n) 15 0)
  max 1000 (w + 400)

/-! ### Refusal of a START (R128) -/

/-- The axis state permits a motion command of the given mode. -/
def State.motionAllowed (s : State) (n mode : Nat) : Bool :=
  let x := s.axis n
  !s.holdLatched n && (x.st == .closed || (x.st == .moving && !(x.kind == .home && decide (mode < 3))))

/-- The end that an ABS or REL START asks for, before a modulo occurrence is chosen; a position is meant in the counter range that the commanded position is in (R119). -/
def State.moveEnd (s : State) (n mode : Nat) : Int :=
  let p := (s.cmdKin n s.dt).p
  if mode = 1 then p + s.moveTgt n else lapOf p + s.moveTgt n

/-- A position lies outside the soft limits, as the wrapping counter shows it (R119, R143). -/
def State.outsideLims (s : State) (n : Nat) (p : Int) : Bool := decide (wrapPos p < s.limNeg n) || decide (s.limPos n < wrapPos p)

/-- An FLI pin and a field input as homing switch (R644). -/
def State.fliOf (s : State) (k n : Nat) : Bool := s.bit (ASC_FLI_CTL k) 0 && s.fld (ASC_FLI_CTL k) 18 13 == n
def State.homePin (s : State) (n : Nat) : Nat := s.actFld (AXP_HOME_CTL n) 8 5
def State.switchExists (s : State) (n : Nat) : Bool := s.actBit (AXP_HOME_CTL n) 4 || s.fliOf (s.homePin n) n

/-- The port bound to the slot has an index (R337). -/
def State.hasIndex (s : State) (n : Nat) : Bool :=
  match s.portOfSlot n with
  | none => false
  | some p => s.actFld (FBP_FB_CTL p) 2 0 == 1 || (s.actFld (FBP_FB_CTL p) 2 0 == 5 && s.actBit (FBP_FB_CTL p) 5)

/-- The slot's feedback is absolute (R145, R337): only a bound port can be. -/
def State.isAbsolute (s : State) (n : Nat) : Bool :=
  match s.portOfSlot n with
  | none => false
  | some p => s.bit (FBP_FB_STAT p) 4

/-- The slot is a stepper stage (R152, R263). -/
def State.isStepper (s : State) (n : Nat) : Bool :=
  match s.linkOfSlot n with
  | none => false
  | some (k, _) => s.bit (SLK_STAGE_CAPS k) 2

/-- A homing method cannot run on this axis: code 6 (R145). -/
def State.methodBad (s : State) (n : Nat) : Bool :=
  let m := s.actFld (AXP_HOME_CTL n) 3 0
  if m = 0 then false
  else if m = 1 then !s.isAbsolute n
  else if m ≤ 3 then !s.switchExists n
  else if m ≤ 5 then !s.hasIndex n
  else if m ≤ 7 then !(s.switchExists n && s.hasIndex n)
  else if m ≤ 9 then s.isStep n || (s.isStepper n && (s.act (AXP_STALL_KE n) == 0 || s.act (AXP_STALL_RL n) == 0))
  else if m ≤ 11 then !(s.fliOf (s.homePin n) n && s.fld (ASC_FLI_CTL (s.homePin n)) 2 1 != 0)
  else true

/-- The refusal code of a START, 0 for none: the first case of R128 that applies. -/
def State.startRefusal (s : State) (n mode : Nat) : Nat :=
  let per := s.modPer n
  let e := s.moveEnd n mode
  if !s.motionAllowed n mode then 1
  else if 5 ≤ mode ∨ s.dirPol n = 3 ∨ (3 ≤ mode ∧ (s.axis n).st ≠ .closed) then 2
  else if mode = 0 ∧ 0 < per ∧ (s.moveTgt n < 0 ∨ per ≤ s.moveTgt n) then 3
  else if mode ≤ 1 ∧ s.limsOn n = true ∧ s.outsideLims n e = true then 4
  else if s.isStep n ∧ 4000000000 * 65536 < (s.act (AXP_VMAX n)).toNat * (s.act (AXP_STEP_NUM n)).toNat * s.stepPmin n then 5
  else if mode = 4 ∧ s.methodBad n then 6
  else 0

/-- A refused START or RESUME: PROF_STAT.REFUSE, REFUSED, ERR_CAP (R128); one that the axis state does not permit is also recorded in the AXL page (R24). -/
def State.moveRefuse (s : State) (n code : Nat) : State :=
  let byState := decide (code = 1) || (decide (code = 2) && decide (s.moveMode n < 5) && s.dirPol n != 3)
  let s1 := ((s.wrFld (AXP_PROF_STAT n) 27 24 code).raise (axpPage n) 1).err (axpPage n) (if byState ∨ code = 7 then .state else .value) 0x40
  if byState then s1.recordFault n else s1

/-- A motion starts: the axis is MOVING, a running stream ends, ACCEL_DEFERRED clears (R127, R135). -/
def State.beginMove (s : State) (n : Nat) : State :=
  let k := (s.axis n).kind
  let s1 := if k = .stream ∨ k = .starve ∨ k = .resume then s.streamEnd n else s
  ((s1.uncouple n).wrBit (AXP_PROF_STAT n) 4 false).setAxState n .moving

/-- The plan of a move of kind `k` whose goal is `goal`. -/
def State.planTo (s : State) (n : Nat) (k : MoveKind) (goal : Int) (pl : Plan) (lm : Limits) : State :=
  let s1 := s.setPlan n k pl lm
  s1.setAxis n { s1.axis n with goal := goal }

/-! ### Point-to-point and velocity moves -/

/-- A motion command ends: DONE, CLOSED, the axis rests at `p` (R125). -/
def State.moveDone (s : State) (n : Nat) (p : Int) : State := (((s.restAt n p).setAxState n .closed).showPhase n).raise (axpPage n) 0

/-- MODE 0 and 1: a point-to-point move to the end `q` (R124, R131, R132). -/
def State.movePtp (s : State) (n mode : Nat) : State :=
  let c := s.cmdKin n s.dt
  let lm := s.moveLims n
  let per := s.modPer n
  let e := s.moveEnd n mode
  let q := if mode = 0 ∧ 0 < per then modTarget lm c e per (s.dirPol n) else e
  let s1 := (s.beginMove n).planTo n .ptp q (mkPlan s.dt c (moveToRest lm c q) ⟨q, 0, 0⟩) lm
  if c.v = 0 ∧ c.a = 0 ∧ c.p = q then s1.moveDone n q else s1

/-- The committed target velocity, clamped to VLIM (R129). -/
def State.velTgt (s : State) (n : Nat) : Int := clampInt (-(s.vlim n)) (s.vlim n) (v16 (signedOf 32 (s.act (AXP_VEL_TGT n)).toNat))

/-- MODE 2: ramp to the target velocity and run; with soft limits a plan that ends exactly at the limit ahead (R129, R143). -/
def State.moveVel (s : State) (n : Nat) : State :=
  let c := s.cmdKin n s.dt
  let w := s.velTgt n
  let lm := s.moveLims n
  let s1 := s.beginMove n
  if s.limsOn n ∧ w ≠ 0 then
    let q := lapOf c.p + (if w < 0 then s.limNeg n else s.limPos n)
    let lm' : Limits := { lm with vmax := (w.natAbs : Nat) }
    s1.planTo n .velLimit q (mkPlan s.dt c (moveToRest lm' c q) ⟨q, 0, 0⟩) lm'
  else s1.planTo n .vel w (openPlan s.dt c (rampTo lm c w .accel) w) lm

/-! ### Streams (R136 to R142) -/

/-- The segment in an entry (R137). -/
def segOf (e : List W32) : Segment :=
  let w (i : Nat) : W32 := e.getD i 0
  { pos := q64 (signedOf 64 ((w 1).toNat * 2 ^ 32 + (w 0).toNat))
    vel := v16 (signedOf 32 (w 2).toNat)
    durVmax := (w 3).toNat
    acc := (w 4).toNat
    dec := (w 5).toNat
    kind := fldOf (w 6) 1 0
    rel := bitOf (w 6) 2
    last := bitOf (w 6) 3
    mark := bitOf (w 6) 4
    reserved := fldOf (w 6) 31 5 != 0
    tag := w 7 }

/-- The end position of a segment that starts at `p`. -/
def Segment.endAt (g : Segment) (p : Int) : Int := if g.rel then p + g.pos else lapOf p + g.pos

/-- The velocity limit of a MOVE segment (R138). -/
def State.segVmax (s : State) (n : Nat) (g : Segment) : Int :=
  min (s.vlim n) (v16 (if g.durVmax = 0 then (s.act (AXP_VMAX n)).toNat else g.durVmax))

/-- The limits of a MOVE segment (R137, R138). -/
def State.segLims (s : State) (n : Nat) (g : Segment) : Limits :=
  { vmax := s.segVmax n g
    acc := a8 (if g.acc = 0 then (s.act (AXP_ACC n)).toNat else g.acc)
    dec := a8 (if g.dec = 0 then (s.act (AXP_DEC n)).toNat else g.dec)
    jerk := s.axJerk n }

/-- A segment that starts at `p` is invalid (R139). -/
def State.segInvalid (s : State) (n : Nat) (g : Segment) (p : Int) : Bool :=
  let e := g.endAt p
  g.kind == 3 || g.reserved || (decide (g.kind < 2) && g.durVmax == 0) || decide (s.vlim n < (g.vel.natAbs : Int)) ||
    (g.kind == 2 && decide (s.segVmax n g < (g.vel.natAbs : Int))) || (s.limsOn n && s.outsideLims n e)

/-- Read the entry at RD of the segment silo as the look-ahead of a segment that will start at `p` (R136). -/
def State.lookAhead (s : State) (n : Nat) (p : Int) : LookAhead :=
  if (s.silo n).avail = 0 then .absent
  else
    let g := segOf (s.siloHead n)
    if s.segInvalid n g p then .invalid else .valid g

/-- The plan of a segment from state `k` at `t0` time units (R138). -/
def State.segPlan (s : State) (n : Nat) (g : Segment) (k : Kin) (t0 : Int) : Plan :=
  let e := g.endAt k.p
  let d : Int := (g.durVmax : Nat)
  match g.kind with
  | 0 =>
    let c := hermite3 k e g.vel d
    ⟨t0, k, .poly c d, ⟨e, g.vel, (evalPoly c d d).a⟩⟩
  | 1 =>
    let a := a8 (signedOf 32 g.acc)
    ⟨t0, k, .poly (hermite5 k e g.vel a d) d, ⟨e, g.vel, a⟩⟩
  | _ => ⟨t0, k, .phases (moveToVel (s.segLims n g) k e g.vel), ⟨e, g.vel, 0⟩⟩

/-- A segment starts from state `k` at `t0`: its entry is popped, SEG_TAG, SEG_MARK, the next one is looked at (R136, R137). -/
def State.segStart (s : State) (n : Nat) (g : Segment) (k : Kin) (t0 : Int) : State :=
  let s1 := (s.siloPopEntry n).2
  let pl := s1.segPlan n g k t0
  let lm := if g.kind = 2 then s1.segLims n g else s1.moveLims n
  let s2 := s1.setPlan n .stream pl lm
  let s3 := s2.setAxis n { s2.axis n with seg := some g, look := s2.lookAhead n pl.fin.p }
  ((s3.wr (AXP_SEG_TAG n) g.tag).raiseIf g.mark (axpPage n) 5).showPhase n

/-- The stop of starvation or of an invalid segment from state `k` at `t0`; the axis stays MOVING (R139, R140). -/
def State.starveStop (s : State) (n : Nat) (k : Kin) (t0 : Int) : State :=
  let lm : Limits := { s.moveLims n with dec := a8 (s.rd (AXP_STARVE_DEC n)).toNat }
  let l := stopPhases lm k
  let s1 := s.setPlan n .starve ⟨t0, k, .phases l, ⟨(k.afterAll l).p, 0, 0⟩⟩ lm
  (s1.setAxis n { s1.axis n with seg := none, look := .absent }).showPhase n

/-- The class of starvation (R158). -/
def State.starveClass (s : State) (n : Nat) : FaultClass := classOf (s.fld (AXP_FAULT_CFG n) 2 0)

/-- Starvation (R140). -/
def State.segStarved (s : State) (n : Nat) (k : Kin) (t0 : Int) : State :=
  let s1 := ((s.starveStop n k t0).wrBit (AXP_PROF_STAT n) 5 true).raise (axpPage n) 3
  (s1.count (AXP_STARVE_CNT n) 15 0 (axpPage n) 12).fault n (s1.starveClass n) none

/-- An invalid segment stops the stream (R139). -/
def State.segBad (s : State) (n : Nat) (k : Kin) (t0 : Int) : State :=
  let s1 := ((s.starveStop n k t0).wrBit (AXP_PROF_STAT n) 6 true).raise (axpPage n) 4
  (s1.count (AXP_STARVE_CNT n) 31 16 (axpPage n) 12).fault n (s1.starveClass n) none

/-- What follows at the end of a segment or at the start of a stream, in state `k` at `t0`. -/
def State.segNext (s : State) (n : Nat) (look : LookAhead) (k : Kin) (t0 : Int) : State :=
  match look with
  | .valid g => s.segStart n g k t0
  | .invalid => s.segBad n k t0
  | .absent => s.segStarved n k t0

/-- The running segment ends: SEG_DONE, its entry is released; LAST ends the stream (R138, R142). -/
def State.segEnd (s : State) (n : Nat) : State :=
  let x := s.axis n
  let fin := x.plan.fin
  let t0 := x.plan.t0 + x.plan.dur
  let s1 := (s.siloFree n 1).wr (AXP_SEG_DONE n) (s.rd (AXP_SEG_DONE n) + 1)
  let s2 := s1.setAxis n { s1.axis n with segEnd := fin.p, seg := none }
  match x.seg with
  | none => s2
  | some g =>
    if g.last then
      (if fin.v = 0 ∧ fin.a = 0 then (s2.streamEnd n).moveDone n fin.p else s2.segStarved n fin t0)
    else s2.segNext n x.look fin t0

/-- A look-ahead that was absent is read again at a sample until the running segment ends (R136): an entry that comes after the end instant does not avert starvation, though no sample has seen the end yet (DEDUCED, log 61). -/
def State.lookAgain (s : State) (n : Nat) : State :=
  let x := s.axis n
  match x.look with
  | .absent => if x.kind = .stream ∧ x.plan.ended s.dt = false then s.setAxis n { x with look := s.lookAhead n x.plan.fin.p } else s
  | _ => s

/-- The stream at a sample: every segment that has ended is followed by the next. The first argument bounds their number. -/
def State.streamStep : Nat → State → Nat → State
  | 0, s, _ => s
  | k + 1, s, n =>
    let s1 := s.lookAgain n
    let x := s1.axis n
    if x.kind = .stream ∧ x.seg.isSome ∧ x.plan.ended s1.dt then State.streamStep k (s1.segEnd n) n else s1

/-- MODE 3 (R136). A new stream starts with STARVED and SEG_INVALID clear, as after a RESUME (DESIGN CHOICE, log 61). -/
def State.moveStream (s : State) (n : Nat) : State :=
  let c := s.cmdKin n s.dt
  let s1 := (((s.beginMove n).siloAttach n true).wrBit (AXP_PROF_STAT n) 5 false).wrBit (AXP_PROF_STAT n) 6 false
  let s2 := s1.setAxis n { s1.axis n with segEnd := c.p }
  s2.segNext n (s2.lookAhead n c.p) c ((s.dt : Int) * unitsPerTick)

/-- RESUME (R141): back to the end of the last completed segment. -/
def State.moveResume (s : State) (n : Nat) : State :=
  let x := s.axis n
  let p := (s.cmdKin n s.dt).p
  let lm := s.moveLims n
  let s1 := (s.wrBit (AXP_PROF_STAT n) 5 false).wrBit (AXP_PROF_STAT n) 6 false
  s1.setPlan n .resume (mkPlan s.dt ⟨p, 0, 0⟩ (restMove lm p x.segEnd) ⟨x.segEnd, 0, 0⟩) lm

/-! ### Homing (R144 to R147) -/

/-- The method and the step of homing. -/
def State.homeMethod (s : State) (n : Nat) : Nat := s.actFld (AXP_HOME_CTL n) 3 0
def State.homeStep (s : State) (n : Nat) : Nat := s.fld (AXP_PROF_STAT n) 15 12
def State.setHomeStep (s : State) (n k : Nat) : State := s.wrFld (AXP_PROF_STAT n) 15 12 k

/-- The direction d of a method: even methods are positive. -/
def homeDir (m : Nat) : Int := if m % 2 = 0 then 1 else -1

/-- HOME_VFAST and HOME_VSLOW, bounded by VLIM. -/
def State.homeFast (s : State) (n : Nat) : Int := min (s.vlim n) (v16 (s.rd (AXP_HOME_VFAST n)).toNat)
def State.homeSlow (s : State) (n : Nat) : Int := min (s.vlim n) (v16 (s.rd (AXP_HOME_VSLOW n)).toNat)

/-- Step `k` of homing runs at velocity `w` from the present commanded state (R144). -/
def State.homeRun (s : State) (n k : Nat) (w : Int) : State :=
  let c := s.cmdKin n s.dt
  let lm : Limits := { s.moveLims n with vmax := (w.natAbs : Nat) }
  let s1 := (s.setPlan n .home (openPlan s.dt c (rampTo lm c w .accel) w) lm)
  (s1.setAxis n { s1.axis n with homeFrom := c.p, homeEdge := none, homeHard := none, homeIdx := [], homeSeen := false }).setHomeStep n k

/-- Step `k` of homing stops at DEC (R130). -/
def State.homeStopAt (s : State) (n k : Nat) : State :=
  let c := s.cmdKin n s.dt
  let lm := s.moveLims n
  (s.setPlan n .home (openPlan s.dt c (stopPhases lm c) 0) lm).setHomeStep n k

/-- Step `k` of homing moves to `q` under velocity limit `v`. -/
def State.homeMove (s : State) (n k : Nat) (q v : Int) : State :=
  let c := s.cmdKin n s.dt
  let lm : Limits := { s.moveLims n with vmax := v }
  (s.setPlan n .home (mkPlan s.dt c (moveToRest lm c q) ⟨q, 0, 0⟩) lm).setHomeStep n k

/-- Homing is complete: HOMED, DONE, CLOSED (R146). -/
def State.homeFinish (s : State) (n : Nat) : State :=
  let p := (s.cmdKin n s.dt).p
  ((s.wrBit (AXP_PROF_STAT n) 7 true).setHomeStep n 0).moveDone n p

/-- After the method's last step: stop, GOTO, finish (R146). -/
def State.homeTail (s : State) (n : Nat) : State :=
  let c := s.cmdKin n s.dt
  if c.v ≠ 0 ∨ c.a ≠ 0 then s.homeStopAt n 7
  else if s.actBit (AXP_HOME_CTL n) 10 ∧ s.homeStep n ≠ 8 then s.homeMove n 8 (lapOf c.p + s.sPair (AXP_HOME_TGT_LO n)) (s.moveLims n).vmax
  else s.homeFinish n

/-- A plan shifted by a constant position. -/
def Plan.shift (pl : Plan) (c : Int) : Plan :=
  { pl with
    start := { pl.start with p := pl.start.p + c }
    fin := { pl.fin with p := pl.fin.p + c }
    shape := (match pl.shape with
      | .poly (a :: t) n => .poly ((a + c) :: t) n
      | sh => sh) }

/-- The reference event: the same constant is added to the commanded and the actual position, the last sample of the velocity estimate included, so that `ref` reads HOME_POS and the loops see no step (R146). -/
def State.homeShift (s : State) (n : Nat) (c : Int) : State :=
  let x := s.axis n
  (s.setServo n { s.servo n with pPrev := (s.servo n).pPrev + c }).setAxis n { x with
    plan := x.plan.shift c
    cmd := { x.cmd with p := x.cmd.p + c }
    act1 := { x.act1 with p := x.act1.p + c }
    act0 := { x.act0 with p := x.act0.p + c }
    posOfs := x.posOfs + c }

/-- The reference event at position `ref`. -/
def State.homeRef (s : State) (n : Nat) (ref : Int) : State := s.homeShift n (s.sPair (AXP_HOME_POS_LO n) - ref)

/-- MODE 4: the first step of the method (R144, R145). -/
def State.moveHome (s : State) (n : Nat) : State :=
  let m := s.homeMethod n
  let d := homeDir m
  let s1 := ((s.beginMove n).wrBit (AXP_PROF_STAT n) 7 false).wrFld (AXP_PROF_STAT n) 19 16 0
  let c := s1.cmdKin n s1.dt
  let s2 := s1.setPlan n .home (restPlan s1.dt c.p) (s1.moveLims n)
  let s3 := s2.setAxis n { s2.axis n with homeFrom := c.p, homeEdge := none, homeHard := none }
  if m = 0 then ((s3.setHomeStep n 1).homeRef n c.p).homeTail n
  else if m = 1 then
    -- the position becomes the absolute reading plus HOME_POS
    (((s3.setHomeStep n 1).homeShift n (s3.sPair (AXP_HOME_POS_LO n) - (s3.axis n).posOfs)).homeTail n)
  else if m ≤ 3 ∨ (6 ≤ m ∧ m ≤ 7) ∨ 10 ≤ m then s3.homeRun n 1 (d * s3.homeFast n)
  else if m ≤ 5 then s3.homeRun n 1 (d * s3.homeSlow n)
  else s3.homeRun n 2 (d * s3.homeSlow n)

/-- What the engine sees of the homing inputs at a sample: the switch's state (R644), the axis's actual position, a hard-stop condition and whether it is a stall (R145). -/
structure HomeIn where
  switch : Bool
  actual : Int
  torque : Bool
  stall : Bool
deriving DecidableEq, Repr

/-- Whether the current limit of HARDSTOP homing is in force (R145). -/
def State.homeLimits (s : State) (n : Nat) : Bool :=
  decide ((s.axis n).kind = .home) && (s.homeMethod n == 8 || s.homeMethod n == 9) && decide (2 ≤ s.homeStep n) && decide (s.homeStep n ≤ 5)

/-- A search or creep has travelled more than HOME_DIST (R147). -/
def State.homeFar (s : State) (n : Nat) : Bool :=
  decide (((s.rd (AXP_HOME_DIST n)).toNat : Int) * 2 ^ 48 < (((s.cmdKin n s.dt).p - (s.axis n).homeFrom).natAbs : Nat))

/-- Homing ends by distance: HOME_FAIL 1, a stop at DEC that ends in CLOSED (R147). -/
def State.homeTooFar (s : State) (n : Nat) : State := ((s.homeFail n 1).stopPlan n .stop).setAxState n .stopping

/-- The hard stop has been detected: a stall on a stepper stage, a torque condition that has held for HOME_TDET elsewhere (R145). -/
def State.hardNow (s : State) (n : Nat) (i : HomeIn) : Bool × State :=
  let x := s.axis n
  if s.isStepper n then (i.stall, s)
  else if i.torque then
    let t0 := x.homeHard.getD s.dt
    (decide (s.fld (AXP_HOME_TDET n) 15 0 * 4000 ≤ s.dt - t0), (s.setAxis n { x with homeHard := some t0 }).setHomeStep n 3)
  else (false, (s.setAxis n { x with homeHard := none }).setHomeStep n 2)

/-- HARDSTOP's detection: reference, commanded position set to the actual position, then the stop at DEC and the back-off from the detection point (R130, R145, R146). -/
def State.homeHardRef (s : State) (n : Nat) (i : HomeIn) : State :=
  let d := homeDir (s.homeMethod n)
  let lm := s.moveLims n
  let k : Kin := { s.cmdKin n s.dt with p := i.actual }
  let s1 := s.setPlan n .home (openPlan s.dt k (stopPhases lm k) 0) lm
  let s2 := s1.homeRef n i.actual
  let p := ((s2.axis n).plan.eval s2.dt).p
  s2.homeMove n 5 (p - d * ((s2.rd (AXP_HOME_BACKOFF n)).toNat : Int) * 2 ^ 48) (s2.homeSlow n)

/-- Homing at a sample instant (R144 to R147). -/
def State.homeSample (s : State) (n : Nat) (i : HomeIn) : State :=
  let x := s.axis n
  let m := s.homeMethod n
  let d := homeDir m
  let atEnd := x.plan.ended s.dt
  match s.homeStep n with
  | 7 => if atEnd then s.homeTail n else s
  | 8 => if atEnd then s.homeFinish n else s
  | k =>
    if m ≤ 3 ∨ m = 6 ∨ m = 7 then
      match k with
      | 1 => if i.switch then s.homeStopAt n 2 else if s.homeFar n then s.homeTooFar n else s
      | 2 => if atEnd then s.homeRun n 3 (-d * s.homeSlow n) else s
      | 3 =>
        -- the edge of a pin comes with its timestamp, that of a field input is seen when the level falls from active to inactive between two samples
        let edge := if s.actBit (AXP_HOME_CTL n) 4 then (if !i.switch && x.homeSeen then some i.actual else none) else x.homeEdge
        match edge with
        | some p =>
          if m ≤ 3 then (s.homeRef n p).homeTail n
          else
            let s1 := s.setHomeStep n 4
            match x.homeIdx.getLast? with
            | some q => (s1.homeRef n q.2).homeTail n
            | none => s1.setAxis n { x with homeFrom := (s.cmdKin n s.dt).p, homeEdge := none }
        | none => if s.homeFar n then s.homeTooFar n else s.setAxis n { x with homeSeen := x.homeSeen || i.switch }
      | _ =>
        match x.homeEdge with
        | some p => (s.homeRef n p).homeTail n
        | none => if s.homeFar n then s.homeTooFar n else s
    else if m = 8 ∨ m = 9 then
      (if k = 5 then (if atEnd then (s.setHomeStep n 6).homeTail n else s)
       else
         let (hit, s1) := s.hardNow n i
         if hit then s1.homeHardRef n i else if s1.homeFar n then s1.homeTooFar n else s1)
    else
      match x.homeEdge with
      | some p => (s.homeRef n p).homeTail n
      | none => if s.homeFar n then s.homeTooFar n else s

/-- An edge or index that homing of slot `n` waits for came at time `t`, at actual position `p`: step 3 of SWITCH takes an edge of the pin, step 4 and INDEX an index, MARK an edge.
SWITCH_INDEX notes the indexes of step 3 too (newest first), as the first one after the edge may come before the sample that sees the edge (R145). -/
def State.homeCapture (s : State) (n : Nat) (index : Bool) (t : Nat) (p : Int) : State :=
  let x := s.axis n
  let m := s.homeMethod n
  let k := s.homeStep n
  let both := m == 6 || m == 7
  if x.kind ≠ .home then s
  else if index then
    (if k == 3 && both then s.setAxis n { x with homeIdx := (t, p) :: x.homeIdx }
     else if ((k == 4 && both) || (k == 1 && (m == 4 || m == 5))) && x.homeEdge.isNone then s.setAxis n { x with homeEdge := some p }
     else s)
  else if ((k == 3 && (m == 2 || m == 3 || both)) || (k == 1 && (m == 10 || m == 11))) && x.homeEdge.isNone then
    s.setAxis n { x with homeEdge := some p, homeIdx := x.homeIdx.filter fun q => decide (t ≤ q.1) }
  else s

/-! ### The commands of MOVE_CTL -/

/-- START in mode `mode` (R127, R128). -/
def State.moveStart (s : State) (n mode : Nat) : State :=
  match s.startRefusal n mode with
  | 0 =>
    match mode with
    | 0 => s.movePtp n 0
    | 1 => s.movePtp n 1
    | 2 => s.moveVel n
    | 3 => s.moveStream n
    | _ => s.moveHome n
  | code => s.moveRefuse n code

/-- A STOP takes the deceleration committed with it, unless the running MOVE segment gives its own (R126, R130). -/
def State.stopOwn (s : State) (n : Nat) : State :=
  let x := s.axis n
  let own : Bool := match x.seg with
    | some g => decide (x.kind = .stream) && g.kind == 2 && g.dec != 0
    | none => false
  if own then s else s.setAxis n { x with lims := { x.lims with dec := (s.moveLims n).dec } }

/-- STOP (R24, R97, R126, R130). A waiting engage is cancelled by it in any state. -/
def State.moveStop (s : State) (n : Nat) : State :=
  let x := s.axis n
  if x.st = .moving ∨ x.st = .following then (((s.stopOwn n).endMotion n).stopPlan n .stop).setAxState n .stopping
  else if (s.gear n).wait.isSome then s.putGear n { s.gear n with wait := none }
  else s.recordFault n

/-- RESUME (R128, R141). -/
def State.resumeMove (s : State) (n : Nat) : State :=
  let x := s.axis n
  if s.holdLatched n = true ∨ (x.st ≠ .moving ∧ x.st ≠ .closed) then s.moveRefuse n 1
  else if x.st = .closed ∨ x.kind ≠ .starve ∨ !x.plan.ended s.dt ∨ (s.silo n).avail = 0 then s.moveRefuse n 7
  else s.moveResume n

/-- The meanings of the rows of MOVE_CTL: the command with the committed parameters. -/
def execMoveAbs (n : Fin 64) (s : State) : Host.Outcome State Fault Refusal := .next (s.moveStart n 0)
def execMoveRel (n : Fin 64) (s : State) : Host.Outcome State Fault Refusal := .next (s.moveStart n 1)
def execMoveVelocity (n : Fin 64) (s : State) : Host.Outcome State Fault Refusal := .next (s.moveStart n 2)
def execMoveStream (n : Fin 64) (s : State) : Host.Outcome State Fault Refusal := .next (s.moveStart n 3)
def execMoveHome (n : Fin 64) (s : State) : Host.Outcome State Fault Refusal := .next (s.moveStart n 4)
def execMoveStop (n : Fin 64) (s : State) : Host.Outcome State Fault Refusal := .next (s.moveStop n)
def execMoveResume (n : Fin 64) (s : State) : Host.Outcome State Fault Refusal := .next (s.resumeMove n)

/-! ### Limits changed during a move (R133 to R135) -/

/-- The fixed point at which the ramp in progress must end and the velocity it arrives with, if it has one (R135). -/
def State.fixedPoint (s : State) (n : Nat) : Option (Int × Int) :=
  let x := s.axis n
  match x.kind with
  | .ptp => some (x.goal, 0)
  | .velLimit => some (x.goal, 0)
  | .stream =>
    match x.seg with
    | some g => if g.kind = 2 then some (x.plan.fin.p, g.vel) else none
    | none => none
  | .resume => some (x.segEnd, 0)
  | .home => if x.plan.fin.v = 0 then some (x.plan.fin.p, 0) else none
  | .starve => some (x.plan.fin.p, 0)
  | .stop => some (x.plan.fin.p, 0)
  | .ramp => some (x.plan.fin.p, 0)
  | _ => none

/-- The new limits for the motion in progress: a stop of class RAMP or of starvation keeps its own deceleration, a MOVE segment what it gives itself, a velocity move and a homing step their speed;
a stop to a fixed point does not exceed the velocity it has when its braking is released. -/
def State.freshLims (s : State) (n : Nat) : Limits :=
  let x := s.axis n
  let lm := s.moveLims n
  let stopV : Int := (((s.cmdKin n s.dt).settled lm.jerk).natAbs : Nat)
  match x.kind with
  | .velLimit => { lm with vmax := x.lims.vmax }
  | .home => if s.homeStep n = 8 then lm else { lm with vmax := (if s.homeStep n = 2 ∨ s.homeStep n = 7 then stopV else x.lims.vmax) }
  | .stop => { lm with vmax := stopV }
  | .ramp => { lm with vmax := stopV, dec := x.lims.dec }
  | .starve => { lm with vmax := stopV, dec := x.lims.dec }
  | .stream =>
    match x.seg with
    | some g => s.segLims n g
    | none => lm
  | _ => lm

/-- Replan the motion in progress with limits `lm` from the present state: a velocity move and a homing search to their velocity, everything else to its fixed point (R134). -/
def State.replanWith (s : State) (n : Nat) (lm : Limits) : State :=
  let x := s.axis n
  let c := s.cmdKin n s.dt
  let keep (s1 : State) : State := s1.setAxis n { s1.axis n with doneSent := x.doneSent }
  match s.fixedPoint n with
  | some (q, v1) => keep (s.planTo n x.kind x.goal (mkPlan s.dt c (moveToVel lm c q v1) ⟨q, v1, 0⟩) lm)
  | none =>
    if x.kind = .vel then
      let w := clampInt (-(s.vlim n)) (s.vlim n) x.goal
      keep (s.planTo n .vel w (openPlan s.dt c (rampTo lm c w .accel) w) lm)
    else if x.kind = .home then s.planTo n .home x.goal (openPlan s.dt c (rampTo lm c x.plan.fin.v .accel) x.plan.fin.v) lm
    else s

/-- The ramp of `lm` from the present state passes the fixed point that the ramp in progress must end at; a deceleration to a reversal point has none (R135). -/
def State.rampPasses (s : State) (n : Nat) (lm : Limits) (q v1 : Int) : Bool :=
  let c := s.cmdKin n s.dt
  decide (c.dir ≠ 0) && decide ((s.axis n).plan.partAt s.dt ≠ some .reversing) && decide (0 ≤ c.dir * v1) && !reaches lm c c.dir q v1

/-- The changed limits are about to be applied: a smaller DEC that would pass the fixed point is deferred (R135). -/
def State.applyLims (s : State) (n : Nat) : State :=
  let x := s.axis n
  let lm := s.freshLims n
  match s.fixedPoint n with
  | some (q, v1) =>
    if lm.dec < x.lims.dec ∧ s.rampPasses n lm q v1 = true then
      ((s.wrBit (AXP_PROF_STAT n) 4 true).raise (axpPage n) 2).replanWith n { lm with dec := x.lims.dec }
    else s.replanWith n lm
  | none => s.replanWith n lm

/-- A COMMIT has changed VMAX, ACC, DEC or JERK while the axis moves (R133, R134). The deceleration to a reversal point is not the deceleration part: such a COMMIT waits for the next part (DEDUCED, log 61). -/
def State.limsChanged (s : State) (n : Nat) : State :=
  let x := s.axis n
  let part := x.plan.partAt s.dt
  if s.actBit (AXP_MOVE_CTL n) 12 then s.applyLims n
  else if (x.kind = .ptp ∨ x.kind = .vel ∨ x.kind = .velLimit) ∧ part.isSome ∧ part ≠ some .decel then s.setAxis n { x with newLims := some part }
  else s

/-- The next part of the plan has started: the limits that waited apply (R133). -/
def State.limsDue (s : State) (n : Nat) : State :=
  let x := s.axis n
  match x.newLims with
  | none => s
  | some p => if x.plan.partAt s.dt = p then s else (s.setAxis n { x with newLims := none }).applyLims n

/-! ### The profile at a sample instant -/

/-- A motion that has reached its end, or its target velocity (R125, R129, R141, R143). -/
def State.profileSample (s0 : State) (n : Nat) : State :=
  let s := s0.limsDue n
  let x := s.axis n
  let atEnd := x.plan.ended s.dt
  match x.kind with
  | .ptp => if atEnd then s.moveDone n x.plan.fin.p else s.showPhase n
  | .velLimit =>
    if atEnd then s.moveDone n x.plan.fin.p
    else if !x.doneSent && decide (x.plan.partAt s.dt = some .cruise) then ((s.setAxis n { x with doneSent := true }).raise (axpPage n) 0).showPhase n
    else s.showPhase n
  | .vel =>
    if atEnd && !x.doneSent then
      (if x.plan.fin.v = 0 then s.moveDone n x.plan.fin.p else ((s.setAxis n { x with doneSent := true }).raise (axpPage n) 0).showPhase n)
    else s.showPhase n
  | .stream => (State.streamStep 4096 s n).showPhase n
  | .resume =>
    if atEnd then
      let k : Kin := ⟨x.segEnd, 0, 0⟩
      (s.segNext n (s.lookAhead n x.segEnd) k (x.plan.t0 + x.plan.dur))
    else s.showPhase n
  | _ => s.showPhase n

/-- A following axis has crossed a soft limit since its last sample (R143). -/
def State.softLimit (s : State) (n : Nat) (before : Kin) : State :=
  let c := s.cmdKin n s.dt
  let p := wrapPos c.p
  let b := wrapPos before.p
  let out := (decide (p < s.limNeg n) && decide (s.limNeg n ≤ b)) || (decide (s.limPos n < p) && decide (b ≤ s.limPos n))
  if (s.axis n).st = .following ∧ s.limsOn n ∧ out then
    (s.raise (axpPage n) 10).fault n (classOf (s.fld (AXP_FAULT_CFG n) 14 12)) none
  else s

end Sys2Proof.Machine
end

