-- ==== Sys2Proof/Machine/Trig.lean ====
section
/-! DEFINITION. Sine, cosine, arc tangent and exponential in fixed point, in units of 2^-62, for the loop programs (R163, R170, R172, R215). -/

namespace Sys2Proof.Machine

/-- One, in units of 2^-62. -/
def one62 : Int := 4611686018427387904

/-- 2π, ln 10 / 20, √3 and 1 / 2π in units of 2^-62. -/
def twoPi62 : Int := 28976077832308491369
def lnTenth62 : Int := 530939973979998362
def sqrt3x62 : Int := 7987674492471257550
def invTwoPi62 : Int := 733972625820500306

/-- Product and quotient of two numbers in units of 2^-62. -/
def mul62 (a b : Int) : Int := a * b / one62
def div62 (a b : Int) : Int := if b = 0 then 0 else a * one62 / b

/-- A power series in `z`, by Horner's rule: `Σ c_i z^i` with coefficients in units of 2^-62. -/
def series62 (z : Int) : List Int → Int
  | [] => 0
  | c :: t => c + mul62 z (series62 z t)

/-- Coefficients of sin(a)/a and cos(a) in a². -/
def sinCoef : List Int := [1, -6, 120, -5040, 362880, -39916800, 6227020800, -1307674368000, 355687428096000, -121645100408832000].map fun d => one62 / d
def cosCoef : List Int := [1, -2, 24, -720, 40320, -3628800, 479001600, -87178291200, 20922789888000, -6402373705728000].map fun d => one62 / d

/-- Cosine and sine of an angle of `x` × 2^-32 turns, in units of 2^-62. -/
def cosSin (x : Nat) : Int × Int :=
  let q := x / 2 ^ 30 % 4
  let a := ((x % 2 ^ 30 : Nat) : Int) * twoPi62 / 2 ^ 32
  let z := mul62 a a
  let c := series62 z cosCoef
  let s := mul62 a (series62 z sinCoef)
  match q with
  | 0 => (c, s)
  | 1 => (-s, c)
  | 2 => (-c, -s)
  | _ => (s, -c)

/-- The arc tangent of `z` between 0 and 1 in radians, units of 2^-62: the angle is halved twice, then a series. -/
def atanSmall (z : Int) : Int :=
  let half (z : Int) : Int := div62 z (one62 + (isqrt (one62 * one62 + z * z).toNat : Nat))
  let w := half (half z)
  let c := [1, -3, 5, -7, 9, -11, 13, -15, 17, -19, 21, -23, 25, -27].map fun d => one62 / d
  4 * mul62 w (series62 (mul62 w w) c)

/-- atan2(y, x) in turns, units of 2^-62, between −1/2 and +1/2; 0 for the origin. -/
def atan2Turn (y x : Int) : Int :=
  let ay : Int := y.natAbs
  let ax : Int := x.natAbs
  if ax = 0 ∧ ay = 0 then 0
  else
    let r := if ay ≤ ax then mul62 (atanSmall (div62 ay ax)) invTwoPi62 else one62 / 4 - mul62 (atanSmall (div62 ax ay)) invTwoPi62
    let r := if x < 0 then one62 / 2 - r else r
    if y < 0 then -r else r

/-- e^x for a number in units of 2^-62 between −8 and 0: the argument is divided by 64 and the result squared six times. -/
def exp62 (x : Int) : Int :=
  let y := x / 64
  let e := series62 y ([1, 1, 2, 6, 24, 120, 720, 5040, 40320, 362880, 3628800].map fun d => one62 / d)
  let sq (v : Int) : Int := mul62 v v
  sq (sq (sq (sq (sq (sq e)))))

/-- The tangent of π × `f`, with `f` a fraction of the sample rate below 0.45 in units of 2^-32, in units of 2^-62. -/
def tanPi (f : Nat) : Int :=
  let (c, s) := cosSin (f / 2)
  div62 s c

end Sys2Proof.Machine
end

