-- ==== Sys2Proof/Machine/Deadline.lean ====
section
/-! DEFINITION. Deadlines of the loop runs: sample periods, apply offsets, misses and aborts (R192 to R197). -/

namespace Sys2Proof.Machine

/-- The sample rate in force and the sample period in ticks (R199). -/
def State.sampleHz (s : State) (n : Nat) : Nat := s.actFld (AXL_SAMPLE_HZ n) 16 0
def State.sampleTicks (s : State) (n : Nat) : Nat := if s.sampleHz n = 0 then 0 else 4000000000 / s.sampleHz n

/-- Fields of LOOP_CTL (R201). -/
def State.struct (s : State) (n : Nat) : Nat := s.actFld (AXL_LOOP_CTL n) 1 0

/-- A slot bound to a local channel, and a slot of a stage link. -/
def State.isLdc (s : State) (n : Nat) : Bool := (s.ldcOfSlot n).isSome
def State.isStage (s : State) (n : Nat) : Bool := !s.isLdc n && (s.linkOfSlot n).isSome

/-- Output as computed: a slot bound to a local channel (R197, R198). -/
def State.asComputed (s : State) (n : Nat) : Bool := s.isLdc n

/-- The apply offset in force, in ticks (R192, R195). -/
def State.applyOfs (s : State) (n : Nat) : Nat :=
  let t := s.sampleTicks n
  if s.bit (AXL_LOOP_STAT n) 14 then t / 2 - 2000
  else if s.act (AXL_APPLY_OFS n) = 0 then t / 4
  else (s.act (AXL_APPLY_OFS n)).toNat

/-- The class of DL_FAULT (R195). -/
def State.dlClass (s : State) (n : Nat) : FaultClass := classOf (s.fld (AXL_DL_CFG n) 10 8)

/-- The consecutive misses have reached the limit, or go on after the apply instant has moved (R195). -/
def State.missLimit (s : State) (n : Nat) : State :=
  let x := s.servo n
  if s.bit (AXL_LOOP_STAT n) 14 then
    let s1 := s.setServo n { x with late := x.late + 1 }
    if x.late + 1 = 2 then (s1.raise (axlPage n) 1).fault n .torqueOff none else s1
  else if s.fld (AXL_DL_CFG n) 3 0 ≤ s.fld (AXL_LOOP_STAT n) 7 4 then
    (((s.setServo n { x with late := 0 }).wrBit (AXL_LOOP_STAT n) 14 true).raise (axlPage n) 1).fault n (s.dlClass n) none
  else s

/-- A run of slot `n` has missed its apply instant, or has been aborted: CONSEC counts it (R192, R193). -/
def State.consecUp (s : State) (n : Nat) : State :=
  let c := s.fld (AXL_LOOP_STAT n) 7 4
  (s.wrFld (AXL_LOOP_STAT n) 7 4 (if c = 15 then 15 else c + 1)).missLimit n

/-- A missed deadline (R192). -/
def State.missDeadline (s : State) (n : Nat) : State :=
  (((s.wrBit (AXL_LOOP_STAT n) 0 true).raise (axlPage n) 0).count (AXL_DL_CNT n) 15 0 (axlPage n) 9).consecUp n

/-- A result delivered on time (R192). -/
def State.onTime (s : State) (n : Nat) : State := (s.setServo n { s.servo n with late := 0 }).wrFld (AXL_LOOP_STAT n) 7 4 0

/-- Words of the repetitive table return to what they were before the run. -/
def State.restoreWords (s : State) : List (Nat × Nat) → State
  | [] => s
  | (a, w) :: t => (s.putNat a 4 w).restoreWords t

/-- The states of slot `n` return to what they were before the run in progress: integrators, filters, the velocity estimate, the region and its blend, the repetitive table (R193). What commands have changed meanwhile stays. -/
def State.undoRun (s : State) (n : Nat) : State :=
  let x := s.servo n
  let o := tabGet x n s.servoUndo
  let s1 := (s.restoreWords x.rcUndo).setServo n { x with
    first := o.first, pPrev := o.pPrev, vAct := o.vAct, iVel := o.iVel, iD := o.iD, iQ := o.iQ, notch := o.notch, nf := o.nf, nfRun := o.nfRun, spd := o.spd, cur := o.cur
    coef := o.coef, coefTo := o.coefTo, blendLeft := o.blendLeft, edges := o.edges, iPrev := o.iPrev, emf := o.emf, stallNow := o.stallNow, torqueNow := o.torqueNow, rcUndo := [] }
  (s1.wrFld (AXL_LOOP_STAT n) 10 8 o.regionAt).wrBit (AXL_LOOP_STAT n) 11 (decide (o.blendLeft ≠ 0))

/-- The run of slot `n` is aborted: it writes back no state, and the abort counts as its miss unless the miss has been counted (R193, R197). A run that has not started has nothing to undo. -/
def State.abortRun (s : State) (n : Nat) : State :=
  let x := s.servo n
  let s1 := if x.started then s.undoRun n else s
  let s2 := s1.setServo n { s1.servo n with ready := false, started := false, doneAt := none, judged := true }
  let s3 := s2.count (AXL_DL_CNT n) 31 16 (axlPage n) 9
  if x.judged then s3
  else if s.asComputed n then s3.consecUp n
  else s3.missDeadline n

/-- What the run of slot `n` is at time `t`: started and not yet done. -/
def Servo.inProgress (x : Servo) (t : Nat) : Bool :=
  x.started && (match x.doneAt with
    | none => true
    | some d => decide (t < d))

/-- The apply instant of slot `n`: the result is taken, or the miss counted and the duties of the previous run's last half-period held (R192, R193). -/
def State.applyInstant (s : State) (n : Nat) : State :=
  let x := s.servo n
  match x.sampleT with
  | none => s
  | some t0 =>
    if x.judged ∨ s.asComputed n ∨ !s.isStage n ∨ s.dt < t0 + s.applyOfs n then s
    else
      let ok := x.started && !x.inProgress s.dt
      let s1 := s.setServo n { x with judged := true, sent := (if ok then x.edges else x.sent.drop 3 ++ x.sent.drop 3) }
      if !(s.axis n).pwm then s1
      else if ok then s1.onTime n
      else s1.missDeadline n

/-- The meaning of APPLY_INSTANT. -/
def execApplyInstant (n : Fin 64) (s : State) : Host.Outcome State Fault Refusal := .next (s.applyInstant n)

end Sys2Proof.Machine
end

