-- ==== Sys2Proof/Machine/Lpu.lean ====
section
/-! DEFINITION. The loop processors' instruction set: registers, address units, loops and the rotating file, moves, numerics, program faults (R204 to R221).
One command is one operation; its flag `last` says that it is the last of its bundle, so that a bundle of several operations is several commands (R213). -/

namespace Sys2Proof.Machine

/-- LPU `i`. -/
def State.lpu (s : State) (i : Nat) : Lpu := tabGet Lpu.reset i s.lpus
def State.setLpu (s : State) (i : Nat) (x : Lpu) : State := { s with lpus := tabSet i x s.lpus }

/-- LPU `i` is busy for `n` cycles more of the present window (UTIL, R235). -/
def State.lpuBusy (s : State) (i n : Nat) : State := { s with sched := { s.sched with busy := tabSet i (tabGet 0 i s.sched.busy + n) s.sched.busy } }

/-- UTIL of every LPU: the busy fraction over the last window of 1 ms (R235). -/
def State.showUtil (s : State) : State :=
  let d := s.dt - s.sched.utilAt
  if d < 4000000 then s
  else
    let s1 := s.each (List.range 9) fun i st => st.wr (LPU_UTIL i) (BitVec.ofNat 32 (min 65535 (tabGet 0 i s.sched.busy * 4 * 65536 / d)))
    { s1 with sched := { s1.sched with busy := [], utilAt := s.dt } }

/-! ### Registers -/

/-- The physical register that the name `k` stands for: D48 to D63 rotate (R211). -/
def Lpu.phys (x : Lpu) (k : Nat) : Nat := if k < 48 then k else 48 + (k - 48 + 16 - x.rot % 16) % 16

/-- The value of register `k`. -/
def Lpu.dreg (x : Lpu) (k : Nat) : W32 := x.d.getD (x.phys k) 0

/-- A data register as a signed Q1.31 number. -/
def Lpu.q (x : Lpu) (k : Nat) : Int := signedOf 32 (x.dreg k).toNat

/-- The operand register next to `k` of a DOT: past D63 there is none, and its value is free (log 25). -/
def State.lpuNext (s : State) (i k : Nat) : Int × State :=
  if k < 63 then ((s.lpu i).q (k + 1), s)
  else
    let (f, s1) := s.nextFree
    (signedOf 32 (Config.freeWord f).toNat, s1)

/-- The accumulator that CACC names, in units of 2^-63. -/
def Lpu.accOf (x : Lpu) (b : Bool) : Int := if b then x.acc1 else x.acc0

/-- Q1.31 saturation: the value and whether it saturated. -/
def sat31 (v : Int) : Int × Bool := (satTo 32 v, decide (satTo 32 v ≠ v))

/-- Accumulator saturation at 80 bits (R217). -/
def sat80 (v : Int) : Int × Bool := (satTo 80 v, decide (satTo 80 v ≠ v))

/-- Set V, which is sticky. -/
def Lpu.orV (x : Lpu) (v : Bool) : Lpu := { x with v := x.v || v }

/-- A result that becomes visible `lat` bundles later (R212); `pri` ranks the slots of a bundle: compute 3, Y 2, X 1, P 0. -/
def Lpu.later (x : Lpu) (lat pri : Nat) (r : LReg) (v : Int) : Lpu := { x with pend := x.pend ++ [⟨x.cyc + lat, x.cyc, pri, r, v⟩] }

/-- Write data register `k`, named at issue; a register past D63 does not exist. -/
def Lpu.laterD (x : Lpu) (lat pri k : Nat) (v : Int) : Lpu := if 63 < k then x else x.later lat pri (.d (x.phys k)) v

/-- A Q1.31 result of the compute slot: saturated, V set on saturation (R215). -/
def Lpu.outD (x : Lpu) (lat k : Nat) (v : Int) : Lpu :=
  let (r, o) := sat31 v
  (x.laterD lat 3 k r).orV o

/-- A result for an accumulator (R217). -/
def Lpu.outA (x : Lpu) (lat : Nat) (b : Bool) (v : Int) : Lpu :=
  let (r, o) := sat80 v
  (x.later lat 3 (.acc b) r).orV o

/-- One pending result lands. -/
def Lpu.land (x : Lpu) (p : PendW) : Lpu :=
  match p.reg with
  | .d k => { x with d := x.d.set k (w32 p.val) }
  | .acc false => { x with acc0 := p.val }
  | .acc true => { x with acc1 := p.val }
  | .pl false => { x with pl0 := w32 p.val }
  | .pl true => { x with pl1 := w32 p.val }
  | .nz => { x with n := decide (2 ≤ p.val), z := decide (p.val % 2 = 1) }

/-- Insert a pending result: the later-issued one after the earlier, a bundle's slots by rank, later ones after equal ones (R212). -/
def insPend (p : PendW) : List PendW → List PendW
  | [] => [p]
  | h :: t => if h.iss < p.iss ∨ (h.iss = p.iss ∧ h.pri ≤ p.pri) then h :: insPend p t else p :: h :: t

/-- Results in the order in which they land: by issue, then by the rank of their slot (R212). -/
def rankDue (l : List PendW) : List PendW := l.foldl (fun acc p => insPend p acc) []

/-- The results due by the present cycle become visible. -/
def Lpu.landDue (x : Lpu) : Lpu :=
  let due := x.pend.filter fun p => decide (p.due ≤ x.cyc)
  (rankDue due).foldl Lpu.land { x with pend := x.pend.filter fun p => decide (x.cyc < p.due) }

/-! ### Program faults (R221) -/

/-- Record a program fault: PFAULT, ERR_CNT.PROG, PROG_FAULT. -/
def State.recordProg (s : State) (i code : Nat) : State :=
  let x := s.lpu i
  let pos := match x.run with
    | some (p, _, _) => p
    | none => 0
  let v := withFld (withFld (withFld 0 3 0 code) 6 4 pos) 19 8 x.pc
  ((s.wr (LPU_PFAULT i) v).count (LPU_ERR_CNT i) 31 16 (lpuPage i) 6).raise (lpuPage i) 7

/-- The slot at position `p` of LPU `i`, by the assignment in force (R225). -/
def State.slotAt (s : State) (i p : Nat) : Option Nat :=
  if s.actBit (LPU_ASSIGN i p) 7 then some (s.actFld (LPU_ASSIGN i p) 5 0) else none

/-- A program fault aborts the run (R193, R221). -/
def State.progFault (s : State) (i code : Nat) : State :=
  let s1 := s.recordProg i code
  let x := s1.lpu i
  match x.run with
  | none => s1
  | some (p, _, _) =>
    let s2 := s1.setLpu i { x with run := none, loops := [], stack := [], pend := [], stall := false }
    match s2.slotAt i p with
    | none => s2
    | some n => s2.abortRun n

/-! ### Bundles and loops (R209 to R211) -/

/-- Whether the present bundle comes from the loop cache: the outermost body that contains it holds at most 32 bundles, and a body that contains it is in its second iteration or later (R210). -/
def Lpu.cached (x : Lpu) : Bool :=
  let l := x.loops.filter fun l => decide (l.start ≤ x.pc) && decide (x.pc ≤ l.stop)
  match l.getLast? with
  | none => false
  | some o => decide (o.stop - o.start < 32) && l.any fun k => decide (0 < k.iter)

/-- The body of level `l` has been run once more; at its end the rotating names advance (R211). -/
def LoopLvl.again (l : LoopLvl) : LoopLvl := { l with iter := l.iter + 1 }

/-- Go to bundle `p`: a loop whose count is 0 is skipped when its start is reached (R209). The first argument bounds the levels. -/
def Lpu.enter : Nat → Lpu → Nat → Lpu
  | 0, x, p => { x with pc := p % 4096 }
  | k + 1, x, p =>
    match x.loops with
    | l :: t => if l.start = p ∧ l.count = 0 then Lpu.enter k { x with loops := t } (l.stop + 1) else { x with pc := p % 4096 }
    | [] => { x with pc := p % 4096 }

/-- The successor of the present bundle: the end of the innermost body returns to its start until its count is done (R209). The first argument bounds the levels. -/
def Lpu.advance : Nat → Lpu → Lpu
  | 0, x => x.enter 4 (x.pc + 1)
  | k + 1, x =>
    match x.loops with
    | [] => x.enter 4 (x.pc + 1)
    | l :: t =>
      if x.pc = l.stop then
        let x1 : Lpu := if l.rot then { x with rot := (x.rot + l.rstep) % 16 } else x
        if l.iter + 1 < l.count then { x1 with loops := l.again :: t, pc := l.start }
        else Lpu.advance k { x1 with loops := t }
      else x.enter 4 (x.pc + 1)

/-- A bundle ends after `cost` cycles at a jump target, or in sequence: a taken branch out of the innermost body ends that level (R209). -/
def Lpu.bundleEnd (x : Lpu) (cost : Nat) (target : Option Nat) : Lpu :=
  let x1 : Lpu := { x with cyc := x.cyc + cost + (if x.stall then 1 else 0), stall := false }
  let x2 : Lpu := match target with
    | none => x1.advance 3
    | some t =>
      let ls := match x1.loops with
        | l :: r => if t < l.start ∨ l.stop < t then r else l :: r
        | [] => []
      ({ x1 with loops := ls } : Lpu).enter 4 t
  x2.landDue

/-- An operation of LPU `i` that changes only the LPU. -/
def State.lpuOp (s : State) (i : Nat) (last : Bool) (f : Lpu → Lpu) : State :=
  let x := f (s.lpu i)
  s.setLpu i (if last then x.bundleEnd 1 none else x)

/-- The bundle of LPU `i` ends if `last` is set. -/
def State.lpuStep (s : State) (i : Nat) (last : Bool) : State := if last then s.setLpu i ((s.lpu i).bundleEnd 1 none) else s

/-! ### Scaled moves (R218 to R220) -/

/-- `v × 2^(sh − drop)` by convergent rounding. -/
def roundShift (v sh : Int) (drop : Nat) : Int :=
  let k := sh - drop
  if 0 ≤ k then v * 2 ^ k.toNat
  else
    let m : Int := 2 ^ (-k).toNat
    let f := v / m
    let r := v - f * m
    if 2 * r < m then f else if m < 2 * r then f + 1 else if f % 2 = 0 then f else f + 1

/-- The scaling shift of a field CSH: −8 to 8, or BS for −16; none for another value (R213, R218). -/
def Lpu.csh (x : Lpu) (c : BitVec 5) : Option Int :=
  let v := c.toInt
  if v = -16 then some x.bs else if -8 ≤ v ∧ v ≤ 8 then some v else none

/-- The shift of a scaled move: BS in block mode (R218, R220). -/
def Lpu.scale (x : Lpu) (own : Int) : Int := if x.blk then x.bs else own

/-- Note the result of a scaled move: GROW in block mode when it is at least one half, V on saturation (R218, R220). -/
def Lpu.noteMove (x : Lpu) (v : Int) (o : Bool) : Lpu :=
  ({ x with grow := x.grow || (x.blk && decide (2 ^ 30 ≤ (v.natAbs : Int))) } : Lpu).orV o

/-- An accumulator moved to Q1.31 with shift `sh` (R218). -/
def Lpu.accOut (x : Lpu) (b : Bool) (sh : Int) : Int × Lpu :=
  let (r, o) := sat31 (roundShift (x.accOf b) sh 32)
  (r, x.noteMove r o)

/-- A data register scaled by `sh` for a store (R218). -/
def Lpu.regOut (x : Lpu) (k : Nat) (sh : Int) : Int × Lpu :=
  let (r, o) := sat31 (roundShift (x.q k) sh 0)
  (r, x.noteMove r o)

/-- A move needs a valid CSH; another value is program fault 2 (R213). -/
def State.withCsh (s : State) (i : Nat) (c : BitVec 5) (f : Int → State) : State :=
  match (s.lpu i).csh c with
  | none => s.progFault i 2
  | some sh => f sh

/-! ### Compute operations (R215) -/

/-- The meanings of the operations that have no operand fields of their own. -/
def execLpuNop (i : Fin 9) (last : Bool) (s : State) : Host.Outcome State Fault Refusal := .next (s.lpuOp i last id)
def execLpuMov (i : Fin 9) (cd ca : Fin 64) (last : Bool) (s : State) : Host.Outcome State Fault Refusal :=
  .next (s.lpuOp i last fun x => x.laterD 1 3 cd (x.q ca))

/-- MVA: one accumulator to a register (R218). -/
def execLpuMva (i : Fin 9) (cd : Fin 64) (acc : Bool) (sh : BitVec 5) (last : Bool) (s : State) : Host.Outcome State Fault Refusal :=
  .next (s.withCsh i sh fun k => s.lpuOp i last fun x =>
    let (v, x1) := x.accOut acc (x.scale k)
    x1.laterD 1 3 cd v)

/-- MVAP: both accumulators to a pair. -/
def execLpuMvap (i : Fin 9) (cd : Fin 64) (sh : BitVec 5) (last : Bool) (s : State) : Host.Outcome State Fault Refusal :=
  .next (s.withCsh i sh fun k => s.lpuOp i last fun x =>
    let (v, x1) := x.accOut false (x.scale k)
    let (w, x2) := x1.accOut true (x.scale k)
    (x2.laterD 1 3 cd v).laterD 1 3 (cd + 1) w)

def execLpuLdacc (i : Fin 9) (ca : Fin 64) (acc last : Bool) (s : State) : Host.Outcome State Fault Refusal :=
  .next (s.lpuOp i last fun x => x.outA 1 acc (x.q ca * 2 ^ 32))
def execLpuClra (i : Fin 9) (acc last : Bool) (s : State) : Host.Outcome State Fault Refusal :=
  .next (s.lpuOp i last fun x => x.outA 1 acc 0)

/-- An operation on two data registers with a Q1.31 result. -/
def State.lpuAlu (s : State) (i cd ca cb : Nat) (last : Bool) (f : Int → Int → Int) : State :=
  s.lpuOp i last fun x => x.outD 1 cd (f (x.q ca) (x.q cb))

def execLpuAdd (i : Fin 9) (cd ca cb : Fin 64) (last : Bool) (s : State) : Host.Outcome State Fault Refusal := .next (s.lpuAlu i cd ca cb last fun a b => a + b)
def execLpuSub (i : Fin 9) (cd ca cb : Fin 64) (last : Bool) (s : State) : Host.Outcome State Fault Refusal := .next (s.lpuAlu i cd ca cb last fun a b => a - b)
def execLpuNeg (i : Fin 9) (cd ca : Fin 64) (last : Bool) (s : State) : Host.Outcome State Fault Refusal := .next (s.lpuAlu i cd ca ca last fun a _ => -a)
def execLpuAbs (i : Fin 9) (cd ca : Fin 64) (last : Bool) (s : State) : Host.Outcome State Fault Refusal := .next (s.lpuAlu i cd ca ca last fun a _ => a.natAbs)
def execLpuMin (i : Fin 9) (cd ca cb : Fin 64) (last : Bool) (s : State) : Host.Outcome State Fault Refusal := .next (s.lpuAlu i cd ca cb last fun a b => min a b)
def execLpuMax (i : Fin 9) (cd ca cb : Fin 64) (last : Bool) (s : State) : Host.Outcome State Fault Refusal := .next (s.lpuAlu i cd ca cb last fun a b => max a b)
def execLpuClamp (i : Fin 9) (cd ca cb : Fin 64) (last : Bool) (s : State) : Host.Outcome State Fault Refusal :=
  .next (s.lpuAlu i cd ca cb last fun a b => clampInt (-(b.natAbs : Int)) b.natAbs a)

/-- The product of two Q1.31 numbers in units of 2^-63 (R217). -/
def mulQ (a b : Int) : Int := 2 * (a * b)

def execLpuMul (i : Fin 9) (ca cb : Fin 64) (acc last : Bool) (s : State) : Host.Outcome State Fault Refusal :=
  .next (s.lpuOp i last fun x => x.outA 2 acc (mulQ (x.q ca) (x.q cb)))
def execLpuMac (i : Fin 9) (ca cb : Fin 64) (acc last : Bool) (s : State) : Host.Outcome State Fault Refusal :=
  .next (s.lpuOp i last fun x => x.outA 2 acc (x.accOf acc + mulQ (x.q ca) (x.q cb)))
def execLpuMsu (i : Fin 9) (ca cb : Fin 64) (acc last : Bool) (s : State) : Host.Outcome State Fault Refusal :=
  .next (s.lpuOp i last fun x => x.outA 2 acc (x.accOf acc - mulQ (x.q ca) (x.q cb)))

/-- The sum of DOT: CA × CB + (CA + 1) × (CB + 1). -/
def State.lpuDot (s : State) (i ca cb : Nat) : Int × State :=
  let x := s.lpu i
  let (a1, s1) := s.lpuNext i ca
  let (b1, s2) := s1.lpuNext i cb
  (mulQ (x.q ca) (x.q cb) + mulQ a1 b1, s2)

def execLpuDot (i : Fin 9) (ca cb : Fin 64) (acc last : Bool) (s : State) : Host.Outcome State Fault Refusal :=
  let (v, s1) := s.lpuDot i ca cb
  .next (s1.lpuOp i last fun x => x.outA 2 acc v)
def execLpuDota (i : Fin 9) (ca cb : Fin 64) (acc last : Bool) (s : State) : Host.Outcome State Fault Refusal :=
  let (v, s1) := s.lpuDot i ca cb
  .next (s1.lpuOp i last fun x => x.outA 2 acc (x.accOf acc + v))

/-- PL0 and PL1 as signed numbers. -/
def Lpu.p0 (x : Lpu) : Int := signedOf 32 x.pl0.toNat
def Lpu.p1 (x : Lpu) : Int := signedOf 32 x.pl1.toNat

def execLpuMulp (i : Fin 9) (ca : Fin 64) (acc last : Bool) (s : State) : Host.Outcome State Fault Refusal :=
  .next (s.lpuOp i last fun x => x.outA 2 acc (mulQ (x.q ca) x.p0))
def execLpuMacp (i : Fin 9) (ca : Fin 64) (acc last : Bool) (s : State) : Host.Outcome State Fault Refusal :=
  .next (s.lpuOp i last fun x => x.outA 2 acc (x.accOf acc + mulQ (x.q ca) x.p0))

/-- A pair whose first register is odd is program fault 4 (R204, R236). -/
def State.evenOr (s : State) (i : Nat) (ks : List Nat) (f : State) : State := if ks.any (fun k => k % 2 == 1) then s.progFault i 4 else f

/-- A complex product into both accumulators: `keep` adds to what they hold, `sg` is −1 for the conjugate of the second factor. -/
def Lpu.cmul (x : Lpu) (ar ai br bi sg : Int) (keep : Bool) : Lpu :=
  let re := mulQ ar br - sg * mulQ ai bi
  let im := sg * mulQ ar bi + mulQ ai br
  let base (b : Bool) : Int := if keep then x.accOf b else 0
  (x.outA 2 false (base false + re)).outA 2 true (base true + im)

/-- The complex operations on pairs CA and CB. -/
def State.lpuComplex (s : State) (i ca cb : Nat) (sg : Int) (keep last : Bool) : State :=
  s.evenOr i [ca, cb] (s.lpuOp i last fun x => x.cmul (x.q ca) (x.q (ca + 1)) (x.q cb) (x.q (cb + 1)) sg keep)

def execLpuCmul (i : Fin 9) (ca cb : Fin 64) (last : Bool) (s : State) : Host.Outcome State Fault Refusal := .next (s.lpuComplex i ca cb 1 false last)
def execLpuCmac (i : Fin 9) (ca cb : Fin 64) (last : Bool) (s : State) : Host.Outcome State Fault Refusal := .next (s.lpuComplex i ca cb 1 true last)
def execLpuCmulc (i : Fin 9) (ca cb : Fin 64) (last : Bool) (s : State) : Host.Outcome State Fault Refusal := .next (s.lpuComplex i ca cb (-1) false last)
def execLpuCmacc (i : Fin 9) (ca cb : Fin 64) (last : Bool) (s : State) : Host.Outcome State Fault Refusal := .next (s.lpuComplex i ca cb (-1) true last)
def execLpuCmulp (i : Fin 9) (ca : Fin 64) (last : Bool) (s : State) : Host.Outcome State Fault Refusal :=
  .next (s.evenOr i [ca.val] (s.lpuOp i last fun x => x.cmul (x.q ca) (x.q (ca + 1)) x.p0 x.p1 1 false))

def execLpuAdda (i : Fin 9) (acc last : Bool) (s : State) : Host.Outcome State Fault Refusal :=
  .next (s.lpuOp i last fun x => x.outA 1 acc (x.acc0 + x.acc1))

/-- SHA: a right shift of a value that is no multiple has no stated rounding: the last bit is free (log 25). -/
def execLpuSha (i : Fin 9) (acc : Bool) (sh : BitVec 5) (last : Bool) (s : State) : Host.Outcome State Fault Refusal :=
  .next (s.withCsh i sh fun k =>
    let v := (s.lpu i).accOf acc
    if 0 ≤ k then s.lpuOp i last fun x => x.outA 1 acc (v * 2 ^ k.toNat)
    else
      let m : Int := 2 ^ (-k).toNat
      let (f, s1) := s.nextFree
      s1.lpuOp i last fun x => x.outA 1 acc (v / m + (if v % m ≠ 0 ∧ Config.freeBit f then 1 else 0)))

/-- ASH: a left shift saturates, a right shift is arithmetic; a shift of −32 lies outside the stated range and gives a free value (log 25). -/
def execLpuAsh (i : Fin 9) (cd ca cb : Fin 64) (last : Bool) (s : State) : Host.Outcome State Fault Refusal :=
  let k := signedOf 6 ((s.lpu i).dreg cb).toNat
  if k = -32 then
    let (f, s1) := s.nextFree
    .next (s1.lpuOp i last fun x => x.laterD 1 3 cd (signedOf 32 (Config.freeWord f).toNat))
  else .next (s.lpuOp i last fun x => x.outD 1 cd (if 0 ≤ k then x.q ca * 2 ^ k.toNat else x.q ca / 2 ^ (-k).toNat))

/-- LSH: a positive count shifts left, a negative one right, zeros come in. -/
def execLpuLsh (i : Fin 9) (cd ca cb : Fin 64) (last : Bool) (s : State) : Host.Outcome State Fault Refusal :=
  let k := signedOf 6 ((s.lpu i).dreg cb).toNat
  .next (s.lpuOp i last fun x =>
    let v := (x.dreg ca).toNat
    x.laterD 1 3 cd (if 0 ≤ k then ((v * 2 ^ k.toNat % 2 ^ 32 : Nat) : Int) else ((v / 2 ^ (-k).toNat : Nat) : Int)))

/-- A bitwise operation. -/
def State.lpuBits (s : State) (i cd ca cb : Nat) (last : Bool) (f : W32 → W32 → W32) : State :=
  s.lpuOp i last fun x => x.laterD 1 3 cd (f (x.dreg ca) (x.dreg cb)).toNat

def execLpuAnd (i : Fin 9) (cd ca cb : Fin 64) (last : Bool) (s : State) : Host.Outcome State Fault Refusal := .next (s.lpuBits i cd ca cb last fun a b => a &&& b)
def execLpuOr (i : Fin 9) (cd ca cb : Fin 64) (last : Bool) (s : State) : Host.Outcome State Fault Refusal := .next (s.lpuBits i cd ca cb last fun a b => a ||| b)
def execLpuXor (i : Fin 9) (cd ca cb : Fin 64) (last : Bool) (s : State) : Host.Outcome State Fault Refusal := .next (s.lpuBits i cd ca cb last fun a b => a ^^^ b)

def execLpuCmp (i : Fin 9) (ca cb : Fin 64) (last : Bool) (s : State) : Host.Outcome State Fault Refusal :=
  .next (s.lpuOp i last fun x => x.later 1 3 .nz ((if x.q ca < x.q cb then 2 else 0) + (if x.q ca = x.q cb then 1 else 0)))
def execLpuSel (i : Fin 9) (cd ca cb : Fin 64) (last : Bool) (s : State) : Host.Outcome State Fault Refusal :=
  .next (s.lpuOp i last fun x => x.laterD 1 3 cd (if x.n then x.q ca else x.q cb))

/-- A value of a function unit: `v` exact in units of 2^-62, an error below 2^-24 that the spec leaves open (log 25). -/
def State.lpuApprox (s : State) (v : Int) (unit : Nat) : Int × State :=
  let (f, s1) := s.nextFree
  (v / 2 ^ unit + clampInt (-126) 126 (Config.freeInt f), s1)

/-- SINCOS: cosine and sine in Q1.31, error below 2^-24. -/
def execLpuSincos (i : Fin 9) (cd ca : Fin 64) (last : Bool) (s : State) : Host.Outcome State Fault Refusal :=
  let (c, n) := cosSin ((s.lpu i).dreg ca).toNat
  let (vc, s1) := s.lpuApprox c 31
  let (vs, s2) := s1.lpuApprox n 31
  .next (s2.lpuOp i last fun x => (x.outD 4 cd vc).outD 4 (cd + 1) vs)

/-- Function unit `k` (0 ATAN2, 1 RECIP, 2 RSQRT) takes an issue, after which it accepts none for `iv` cycles; an issue that comes sooner waits until it does (R215; the wait is the model's reading of the interval, DESIGN CHOICE, log 25). -/
def Lpu.issueFu (x : Lpu) (k iv : Nat) : Lpu :=
  let y := ({ x with cyc := max x.cyc (x.fu.getD k 0) } : Lpu).landDue
  { y with fu := y.fu.set k (y.cyc + iv) }
def State.lpuFu (s : State) (i k iv : Nat) : State := s.setLpu i ((s.lpu i).issueFu k iv)

/-- ATAN2: turns in Q1.31, error below 2^-24 turn; the origin has no stated angle and gives a free value (log 25). -/
def execLpuAtan2 (i : Fin 9) (cd ca cb : Fin 64) (last : Bool) (s0 : State) : Host.Outcome State Fault Refusal :=
  let s := s0.lpuFu i 0 2
  let x := s.lpu i
  if x.q ca = 0 ∧ x.q cb = 0 then
    let (f, s1) := s.nextFree
    .next (s1.lpuOp i last fun x => x.laterD 6 3 cd (signedOf 32 (Config.freeWord f).toNat))
  else
    let (v, s1) := s.lpuApprox (atan2Turn (x.q cb) (x.q ca)) 31
    .next (s1.lpuOp i last fun x => x.outD 6 cd v)

/-- 1 / `a` in units of 2^-16, towards −∞, for a Q1.31 number `a` that is not 0. -/
def recipFloor (a : Int) : Int := if 0 < a then 2 ^ 47 / a else -(2 ^ 47) / -a

/-- RECIP: 1 / CA as signed 16.16, saturating; 1 / 0 saturates at the largest value; the last bit of an inexact quotient is free (log 25). -/
def execLpuRecip (i : Fin 9) (cd ca : Fin 64) (last : Bool) (s0 : State) : Host.Outcome State Fault Refusal :=
  let s := s0.lpuFu i 1 4
  let a := (s.lpu i).q ca
  let (f, s1) := s.nextFree
  let v : Int := if a = 0 then 2 ^ 31 else recipFloor a + (if 2 ^ 47 % a ≠ 0 ∧ Config.freeBit f then 1 else 0)
  .next (s1.lpuOp i last fun x => x.outD 8 cd v)

/-- RSQRT: 1 / √CA as unsigned 16.16; a value not above 0 gives 0x7FFF_FFFF; the last bit of an inexact root is free (log 25). -/
def execLpuRsqrt (i : Fin 9) (cd ca : Fin 64) (last : Bool) (s0 : State) : Host.Outcome State Fault Refusal :=
  let s := s0.lpuFu i 2 4
  let a := (s.lpu i).q ca
  let (f, s1) := s.nextFree
  let r : Nat := if a ≤ 0 then 0 else isqrt (2 ^ 63 / a.toNat)
  let v : Int := if a ≤ 0 then 0x7FFFFFFF else (r : Int) + (if r * r * a.toNat ≠ 2 ^ 63 ∧ Config.freeBit f then 1 else 0)
  .next (s1.lpuOp i last fun x => x.laterD 8 3 cd v)

/-- The number of redundant sign bits of a 32-bit word: copies of the sign below bit 31. -/
def redundantSigns (w : W32) : Nat :=
  let x := if w.getLsbD 31 then (~~~w).toNat else w.toNat
  let rec go : Nat → Nat
    | 0 => 31
    | k + 1 => if x / 2 ^ k % 2 = 1 then 30 - k else go k
  go 31

def execLpuNorm (i : Fin 9) (cd ca : Fin 64) (last : Bool) (s : State) : Host.Outcome State Fault Refusal :=
  .next (s.lpuOp i last fun x => x.laterD 1 3 cd (redundantSigns (x.dreg ca) : Nat))

/-- The 64-bit value of a pair: the low word first (log 5). -/
def Lpu.pair (x : Lpu) (k : Nat) : Nat := (x.dreg k).toNat + (x.dreg (k + 1)).toNat * 2 ^ 32

/-- A 64-bit result for a pair. -/
def Lpu.outPair (x : Lpu) (lat k : Nat) (v : Int) : Lpu := (x.laterD lat 3 k ((wrapTo 32 v : Nat) : Int)).laterD lat 3 (k + 1) ((wrapTo 32 (v / 2 ^ 32) : Nat) : Int)

def execLpuAdd64 (i : Fin 9) (cd ca cb : Fin 64) (last : Bool) (s : State) : Host.Outcome State Fault Refusal :=
  .next (s.evenOr i [cd.val, ca.val, cb.val] (s.lpuOp i last fun x => x.outPair 1 cd ((x.pair ca : Int) + (x.pair cb : Int))))
def execLpuSub64 (i : Fin 9) (cd ca cb : Fin 64) (last : Bool) (s : State) : Host.Outcome State Fault Refusal :=
  .next (s.evenOr i [cd.val, ca.val, cb.val] (s.lpuOp i last fun x => x.outPair 1 cd ((x.pair ca : Int) - (x.pair cb : Int))))

/-- MULFRAC: the fraction of a 32.32 pair times CB, plus CD, as unsigned 0.32. -/
def execLpuMulfrac (i : Fin 9) (cd ca cb : Fin 64) (last : Bool) (s : State) : Host.Outcome State Fault Refusal :=
  .next (s.evenOr i [ca.val] (s.lpuOp i last fun x => x.laterD 2 3 cd (((x.pair ca * (x.dreg cb).toNat + (x.dreg cd).toNat) % 2 ^ 32 : Nat) : Int)))

/-! ### Control operations (R209, R216): each is a bundle of its own -/

/-- A control bundle of LPU `i` that changes only the LPU. -/
def State.lpuCtl (s : State) (i cost : Nat) (target : Option Nat) (f : Lpu → Lpu) : State := s.setLpu i ((f (s.lpu i)).bundleEnd cost target)

def execLpuCnop (i : Fin 9) (s : State) : Host.Outcome State Fault Refusal := .next (s.lpuCtl i 1 none id)

/-- DO: set up a loop. A fourth level is fault 5; a rotating loop inside another, or with C below SD, is fault 7 (R209, R211). -/
def State.lpuDo (s : State) (i count start stop : Nat) (rot : Bool) (rstep sd : Nat) : State :=
  let x := s.lpu i
  if 3 ≤ x.loops.length then s.progFault i 5
  else if rot ∧ (count < sd ∨ x.loops.any LoopLvl.rot) then s.progFault i 7
  else s.lpuCtl i 1 none fun x => { x with loops := ⟨start, stop, count, 0, rot, rstep, sd⟩ :: x.loops }

def execLpuDo (i : Fin 9) (c ea sa : Fin 4096) (rot : Bool) (rstep2 : Bool) (sd1 : Fin 8) (s : State) : Host.Outcome State Fault Refusal :=
  .next (s.lpuDo i c sa ea rot (if rstep2 then 2 else 1) (sd1 + 1))
def execLpuDor (i : Fin 9) (cr : Fin 64) (ea sa : Fin 4096) (rot : Bool) (rstep2 : Bool) (sd1 : Fin 8) (s : State) : Host.Outcome State Fault Refusal :=
  .next (s.lpuDo i (((s.lpu i).dreg cr).toNat % 4096) sa ea rot (if rstep2 then 2 else 1) (sd1 + 1))

def execLpuBr (i : Fin 9) (t : Fin 4096) (s : State) : Host.Outcome State Fault Refusal := .next (s.lpuCtl i 3 (some t) id)

/-- A conditional branch. -/
def State.lpuBrIf (s : State) (i t : Nat) (c : Bool) : State := if c then s.lpuCtl i 3 (some t) id else s.lpuCtl i 1 none id

def execLpuBrn (i : Fin 9) (t : Fin 4096) (s : State) : Host.Outcome State Fault Refusal := .next (s.lpuBrIf i t (s.lpu i).n)
def execLpuBrz (i : Fin 9) (t : Fin 4096) (s : State) : Host.Outcome State Fault Refusal := .next (s.lpuBrIf i t (s.lpu i).z)

/-- CALL: a ninth nested call is fault 6. -/
def execLpuCall (i : Fin 9) (t : Fin 4096) (s : State) : Host.Outcome State Fault Refusal :=
  if 8 ≤ (s.lpu i).stack.length then .next (s.progFault i 6)
  else .next (s.lpuCtl i 3 (some t) fun x => { x with stack := (x.pc + 1) % 4096 :: x.stack })

/-- RET: with an empty call stack it is fault 6 (DEDUCED: the cause call stack). -/
def execLpuRet (i : Fin 9) (s : State) : Host.Outcome State Fault Refusal :=
  match (s.lpu i).stack with
  | [] => .next (s.progFault i 6)
  | t :: r => .next (s.lpuCtl i 3 (some t) fun x => { x with stack := r })

def execLpuLdi (i : Fin 9) (cr : Fin 64) (imm : BitVec 24) (s : State) : Host.Outcome State Fault Refusal := .next (s.lpuCtl i 1 none fun x => x.laterD 1 3 cr imm.toInt)
def execLpuLdih (i : Fin 9) (cr : Fin 64) (imm : BitVec 8) (s : State) : Host.Outcome State Fault Refusal :=
  .next (s.lpuCtl i 1 none fun x => x.laterD 1 3 cr ((imm.toNat * 2 ^ 24 + (x.dreg cr).toNat % 2 ^ 24 : Nat) : Int))

/-- SETA: an address, base, length or modifier register. -/
def execLpuSeta (i : Fin 9) (k : Fin 8) (w : Fin 4) (v : BitVec 16) (s : State) : Host.Outcome State Fault Refusal :=
  .next (s.lpuCtl i 1 none fun x =>
    match w.val with
    | 0 => { x with a := x.a.set k v.toNat }
    | 1 => { x with b := x.b.set k v.toNat }
    | 2 => { x with l := x.l.set k v.toNat }
    | _ => { x with m := x.m.set k v.toNat })

/-- SETSR: the fields of SR that it carries; bit 16 clears V. -/
def execLpuSetsr (i : Fin 9) (v : BitVec 24) (s : State) : Host.Outcome State Fault Refusal :=
  let w := v.toNat
  .next (s.lpuCtl i 1 none fun x => { x with
    msh := signedOf 5 w
    blk := v.getLsbD 5
    bs := signedOf 4 (w / 64)
    bexp := w / 1024 % 64
    v := x.v && !v.getLsbD 16 })

/-- BLK: a pass of a block ends (R220). -/
def execLpuBlk (i : Fin 9) (s : State) : Host.Outcome State Fault Refusal :=
  .next (s.lpuCtl i 1 none fun x =>
    if x.grow then
      (let y : Lpu := if x.bs = -8 then { x with v := true } else { x with bs := x.bs - 1 }
       { y with bexp := (x.bexp + 1) % 64, grow := false })
    else x)

/-! ### Moves on the buses (R205, R208, R214) -/

/-- The bus of a move. -/
def busLo (y : Bool) : Nat := if y then 0x18000 else 0x8000
def busHi (y : Bool) : Nat := if y then 0x40000 else 0x18000

/-- The wrap of an address of register `k` (R208): once, by its length. -/
def Lpu.wrapA (x : Lpu) (k : Nat) (v : Int) : Nat :=
  let b : Int := x.b.getD k 0
  let l : Int := x.l.getD k 0
  let r := if l = 0 then v else if b + l ≤ v then v - l else if v < b then v + l else v
  wrapTo 16 r

/-- The modifier M as a signed number. -/
def Lpu.mod (x : Lpu) (k : Nat) : Int := signedOf 16 (x.m.getD k 0)

/-- Address register `k` advances by its modifier (R208). -/
def Lpu.bump (x : Lpu) (k : Nat) : Lpu := { x with a := x.a.set k (x.wrapA k (x.a.getD k 0 + x.mod k)) }

/-- Stores of the first SD − 1 iterations and loads of the last SD − 1 are suppressed in a rotating loop's body (R211). -/
def Lpu.suppressed (x : Lpu) (store : Bool) : Bool :=
  x.loops.any fun l => l.rot && decide (l.start ≤ x.pc) && decide (x.pc ≤ l.stop) &&
    (if store then decide (l.iter + 1 < l.sd) else decide (l.count + 1 < l.iter + 1 + l.sd))

/-- Whether word address `w` lies in the bus's region. -/
def inBus (y : Bool) (w : Nat) : Bool := decide (busLo y ≤ 4 * w) && decide (4 * w < busHi y)

/-- One word of an LPU's local memory. -/
def State.lpuWord (s : State) (i w : Nat) : Int := signedOf 32 (s.memNat (lpuMem i + 4 * w) 4)
def State.lpuPut (s : State) (i w : Nat) (v : Int) : State := s.putNat (lpuMem i + 4 * w) 4 (wrapTo 32 v)

/-- The rank of a bus within its bundle (R212). -/
def busPri (y : Bool) : Nat := if y then 2 else 1

/-- A load of one word or a pair through address register `k` into register `d`; a suppressed one makes no access, and its address register still advances (R211). -/
def State.lpuLoad (s : State) (i : Nat) (y pair : Bool) (k d : Nat) (last : Bool) : State :=
  let x := s.lpu i
  let a := x.a.getD k 0
  let a1 := x.wrapA k (a + 1)
  if x.suppressed false then (s.setLpu i (x.bump k)).lpuStep i last
  else if pair ∧ (a % 2 = 1 ∨ d % 2 = 1) then s.progFault i 4
  else if !(inBus y a && (!pair || inBus y a1)) then s.progFault i 3
  else
    let x0 := x.laterD 1 (busPri y) d (s.lpuWord i a)
    let x1 := if pair then x0.laterD 1 (busPri y) (d + 1) (s.lpuWord i a1) else x0
    (s.setLpu i (x1.bump k)).lpuStep i last

/-- A store of words through address register `k`; `vals` gives one word or two, and the LPU after the moves; `odd` says that a pair's data register is odd. A suppressed store makes no access (R211). -/
def State.lpuStore (s : State) (i : Nat) (y : Bool) (k : Nat) (vals : Lpu → List Int × Lpu) (pair odd : Bool) (last : Bool) : State :=
  let x := s.lpu i
  let a := x.a.getD k 0
  let a1 := x.wrapA k (a + 1)
  if x.suppressed true then (s.setLpu i (x.bump k)).lpuStep i last
  else if pair ∧ (a % 2 = 1 ∨ odd = true) then s.progFault i 4
  else if !(inBus y a && (!pair || inBus y a1)) then s.progFault i 3
  else
    let (vs, x1) := vals x
    let s1 := s.lpuPut i a (vs.getD 0 0)
    let s2 := if pair then s1.lpuPut i a1 (vs.getD 1 0) else s1
    (s2.setLpu i (x1.bump k)).lpuStep i last

/-- The meanings of the moves; `y` chooses the Y bus. -/
def execLpuLd (i : Fin 9) (y : Bool) (k : Fin 8) (d : Fin 64) (last : Bool) (s : State) : Host.Outcome State Fault Refusal := .next (s.lpuLoad i y false k d last)
def execLpuLdp (i : Fin 9) (y : Bool) (k : Fin 8) (d : Fin 64) (last : Bool) (s : State) : Host.Outcome State Fault Refusal := .next (s.lpuLoad i y true k d last)

def execLpuSt (i : Fin 9) (y : Bool) (k : Fin 8) (d : Fin 64) (last : Bool) (s : State) : Host.Outcome State Fault Refusal :=
  .next (s.lpuStore i y k (fun x =>
    let (v, x1) := x.regOut d (x.scale x.msh)
    ([v], x1)) false false last)

def execLpuStp (i : Fin 9) (y : Bool) (k : Fin 8) (d : Fin 64) (last : Bool) (s : State) : Host.Outcome State Fault Refusal :=
  .next (s.lpuStore i y k (fun x =>
    let (v, x1) := x.regOut d (x.scale x.msh)
    let (w, x2) := x1.regOut (d + 1) (x.scale x.msh)
    ([v, w], x2)) true (d.val % 2 == 1) last)

/-- STA: D[0] names the accumulator, the other bits must be 0 (fault 2 otherwise). -/
def execLpuSta (i : Fin 9) (y : Bool) (k : Fin 8) (d : Fin 64) (last : Bool) (s : State) : Host.Outcome State Fault Refusal :=
  if 2 ≤ d.val then .next (s.progFault i 2)
  else .next (s.lpuStore i y k (fun x =>
    let (v, x1) := x.accOut (d.val == 1) (x.scale x.msh)
    ([v], x1)) false false last)

def execLpuStap (i : Fin 9) (y : Bool) (k : Fin 8) (last : Bool) (s : State) : Host.Outcome State Fault Refusal :=
  .next (s.lpuStore i y k (fun x =>
    let (v, x1) := x.accOut false (x.scale x.msh)
    let (w, x2) := x1.accOut true (x.scale x.msh)
    ([v, w], x2)) true false last)

def execLpuMod (i : Fin 9) (k : Fin 8) (last : Bool) (s : State) : Host.Outcome State Fault Refusal := .next (s.lpuOp i last fun x => x.bump k)

/-- P_FETCH: a word pair of the P region into PL0 and PL1; a bundle that is itself fetched over the P bus stalls one cycle (R210). -/
def execLpuPFetch (i : Fin 9) (k : Fin 8) (last : Bool) (s : State) : Host.Outcome State Fault Refusal :=
  let x := s.lpu i
  let a := x.a.getD k 0
  let a1 := x.wrapA k (a + 1)
  if a % 2 = 1 then .next (s.progFault i 4)
  else if 0x8000 ≤ 4 * a ∨ 0x8000 ≤ 4 * a1 then .next (s.progFault i 3)
  else
    let x1 := (x.later 1 0 (.pl false) (s.lpuWord i a)).later 1 0 (.pl true) (s.lpuWord i a1)
    let x2 : Lpu := { x1 with stall := x1.stall || !x1.cached }
    .next ((s.setLpu i (x2.bump k)).lpuStep i last)

/-! ### The end of a run (R216, R221, R223) -/

/-- The worst-case cycles of library program `p` (R222). -/
def State.worstCase (s : State) (p : Nat) : Nat := ((s.sched.lib.getD p []).getD 4 0)

/-- END: the run's output is ready and its states are written back; an overrun of the worst case by more than 10 % is recorded as code 8 (R223). -/
def State.lpuEndRun (s : State) (i : Nat) : State :=
  let x := s.lpu i
  match x.run with
  | none => s.lpuCtl i 1 none id
  | some (p, prog, c0) =>
    let s1 := s.lpuCtl i 1 none id
    let used := (s1.lpu i).cyc - c0
    let m := (s1.rd (LPU_RUN_MAX i)).toNat
    let s2 := if m < used then s1.wr (LPU_RUN_MAX i) (BitVec.ofNat 32 (min 0xFFFFFFFF used)) else s1
    let s3 := if s2.worstCase prog * 11 < used * 10 then s2.recordProg i 8 else s2
    let s4 := (s3.setLpu i { s3.lpu i with run := none }).lpuBusy i used
    match s4.slotAt i p with
    | none => s4
    | some n => s4.setServo n { s4.servo n with doneAt := some s4.dt }

def execLpuEnd (i : Fin 9) (s : State) : Host.Outcome State Fault Refusal := .next (s.lpuEndRun i)

end Sys2Proof.Machine
end

