-- ==== Sys2Proof/Machine/Servo.lean ====
section
/-! DEFINITION. The stock loop programs: the field-oriented cascade, notches, repetitive control, gain scheduling, the stall estimator (R160 to R183, R152 to R154). Quantities are integers in units of 2^-32 of their unit; rounding inside them is the model's (log 8). -/

namespace Sys2Proof.Machine

/-- One, in units of 2^-32, and the product of two such quantities. -/
def one32 : Int := 4294967296
def mul32 (a b : Int) : Int := a * b / one32
def div32 (a b : Int) : Int := if b = 0 then 0 else a * one32 / b

/-- A 16.16 register in units of 2^-32, unsigned and signed; a 24.8 register. -/
def u16 (v : W32) : Int := (v.toNat : Int) * 65536
def s16 (v : W32) : Int := signedOf 32 v.toNat * 65536
def u8 (v : W32) : Int := (v.toNat : Int) * 16777216

/-- A quantity as a signed 16.16 register, saturating. -/
def toS16 (x : Int) : W32 := w32 (satTo 32 (x / 65536))

/-! ### Positions -/

/-- The position of a step axis without a port: STEP_CNT / STEP_NUM (R148). -/
def State.stepPos (s : State) (n : Nat) : Int :=
  let k : Int := (s.act (AXP_STEP_NUM n)).toNat
  if k = 0 then 0 else signedOf 32 (s.rd (AXP_STEP_CNT n)).toNat * 2 ^ 64 / k

/-- MOD_POS of a position (R119). -/
def State.modFrac (s : State) (n : Nat) (p : Int) : W32 :=
  let per := s.modPer n
  if per = 0 then 0 else BitVec.ofNat 32 ((wrapPos p % per * 2 ^ 32 / per).toNat)

/-- The actual position of slot `n` at time `t` is `p` before the homing offset: it becomes the latest sample, ACT_POS and MOD_POS (R119, R155). -/
def State.takeActual (s : State) (n t : Nat) (p : Int) : State :=
  let x := s.axis n
  let q := p + x.posOfs
  let s1 := s.setAxis n { x with act0 := x.act1, act1 := ⟨t, q⟩, nSamples := min 2 (x.nSamples + 1) }
  (s1.wr64 (AXP_ACT_POS_LO n) (pos32 q)).wr (AXP_MOD_POS n) (s.modFrac n q)

/-- The actual velocity between the two latest samples, units of 2^-64 turns/s. -/
def Axis.rawVel (x : Axis) : Int :=
  let d : Int := (x.act1.t : Int) - x.act0.t
  if d ≤ 0 ∨ x.nSamples < 2 then 0 else (x.act1.p - x.act0.p) * 4000000000 / d

/-! ### Coefficients (R181 to R184) -/

/-- The seven coefficients of set `r` in force, units of 2^-32: KP_POS, KV_FF, KA_FF, KP_VEL, KI_VEL, KP_CUR, KI_CUR. -/
def State.coefSet (s : State) (n r : Nat) : List Int :=
  [u16 (s.act (AXL_SET_KP_POS n r)), min (2 * one32) (u16 (s.act (AXL_SET_KV_FF n r))), u16 (s.act (AXL_SET_KA_FF n r)),
    u16 (s.act (AXL_SET_KP_VEL n r)), u8 (s.act (AXL_SET_KI_VEL n r)), u16 (s.act (AXL_SET_KP_CUR n r)), u8 (s.act (AXL_SET_KI_CUR n r))]

/-- The region in force. -/
def State.region (s : State) (n : Nat) : Nat := s.fld (AXL_LOOP_STAT n) 10 8

/-- BLEND in samples (R182). -/
def State.blendLen (s : State) (n : Nat) : Nat := max 1 (s.actFld (AXL_GS_CTL n) 31 16)

/-- The coefficients of this run, and the blend advanced by one sample (R182). -/
def Servo.stepBlend (x : Servo) : Servo :=
  if x.blendLeft = 0 then x
  else { x with
    coef := (x.coef.zip x.coefTo).map fun c => c.1 + (c.2 - c.1) / (x.blendLeft : Int)
    blendLeft := x.blendLeft - 1 }

/-- A blend from the present values to set `r` starts (R182). -/
def State.startBlend (s : State) (n r : Nat) : State :=
  let x := s.servo n
  let dst := s.coefSet n r
  if x.coef = [] then s.setServo n { x with coef := dst, coefTo := dst, blendLeft := 0 }
  else (s.setServo n { x with coefTo := dst, blendLeft := s.blendLen n }).wrBit (AXL_LOOP_STAT n) 11 true

/-- One band of a measurement with hysteresis: up past the breakpoint × (1 + h), down below it × (1 − h) (R181). -/
def bandStep (m h : Int) (bps : List Int) (b : Nat) : Nat :=
  let upAt := (bps.drop b).takeWhile fun bp => decide (bp + mul32 bp h < m)
  let b1 := b + upAt.length
  let dn := ((bps.take b1).reverse.takeWhile fun bp => decide (m < bp - mul32 bp h)).length
  b1 - dn

/-- The gain-schedule measurement: filters, region, REGION_CHG and its blend (R181, R182). -/
def State.gainSchedule (s : State) (n : Nat) (iqRef : Int) : State :=
  let x := s.servo n
  -- first-order filter of 1 ms
  let al := one62 - exp62 (-(one62 * 1000 / max 1 (s.sampleHz n : Int)))
  let flt (y v : Int) : Int := y + (v - y) * al / one62
  let spd := flt x.spd x.vAct.natAbs
  let cur := flt x.cur iqRef.natAbs
  let s1 := s.setServo n { x with spd := spd, cur := cur }
  let ctl := s.act (AXL_GS_CTL n)
  let h := ((fldOf (s.act (AXL_GS_HYST n)) 15 0 : Nat) : Int) * 65536
  let r := s.region n
  let r' := if s.actBit (AXL_LOOP_CTL n) 13 then
      bandStep spd h ((List.range (fldOf ctl 1 0)).map fun k => u16 (s.act (AXL_GS_SPD_BP n k))) (min (r % 4) (fldOf ctl 1 0)) +
        4 * bandStep cur h (if bitOf ctl 2 then [u16 (s.act (AXL_GS_CUR_BP n))] else []) (if bitOf ctl 2 then r / 4 else 0)
    else 0
  if r' = r then s1
  else ((s1.wrFld (AXL_LOOP_STAT n) 10 8 r').startBlend n r').raise (axlPage n) 5

/-! ### Notches (R172 to R174) -/

/-- b0, b1, b2, a1, a2 in Q2.30 of a notch at `f0`, width `w` (16.16 Hz) and depth `a` (8.8 dB). -/
def notchCoefs (f0 w a fs : Nat) : List Int :=
  if f0 = 0 ∨ fs = 0 then [2 ^ 30, 0, 0, 0, 0]
  else
    let om := tanPi (f0 * 65536 / fs)
    let zp := (w : Int) * one62 / (2 * f0)
    let zz := mul62 zp (exp62 (-(lnTenth62 * a / 256)))
    let om2 := mul62 om om
    let a0 := one62 + 2 * mul62 zp om + om2
    let q (x : Int) : Int := rdiv (div62 x a0) (2 ^ 32)
    [q (one62 + 2 * mul62 zz om + om2), q (2 * (om2 - one62)), q (one62 - 2 * mul62 zz om + om2), q (2 * (om2 - one62)), q (one62 - 2 * mul62 zp om + om2)]

/-- A frequency within the limits of R173. -/
def notchClamp (f fs : Nat) : Nat := max (10 * 65536) (min f (fs * 65536 * 45 / 100))

/-- The sample instant of the present run. -/
def State.runT (s : State) (n : Nat) : Nat := (s.servo n).sampleT.getD s.dt

/-- The centre frequency of notch `k`, tracked from the velocity at the sample boundary (R174). -/
def State.notchF0 (s : State) (n k : Nat) : Nat :=
  let fs := s.sampleHz n
  let harm : Int := (s.act (AXL_NF_HARM n k)).toNat
  match s.actFld (AXL_NF_CFG n k) 17 16 with
  | 1 => notchClamp (harm * (s.lineAt (s.runT n)).v.natAbs / 2 ^ 64).toNat fs
  | 2 => notchClamp (harm * (s.servo n).vAct.natAbs / 2 ^ 32).toNat fs
  | _ => (s.act (AXL_NF_F0 n k)).toNat

/-- The coefficients of notch `k` now. -/
def State.notchNow (s : State) (n k : Nat) : List Int :=
  notchCoefs (s.notchF0 n k) (s.act (AXL_NF_WIDTH n k)).toNat (s.actFld (AXL_NF_CFG n k) 15 0) (s.sampleHz n)

/-- A tracking notch recomputes every 8 samples; the others keep the values of their set (R174). -/
def State.notchRefresh (s : State) (n : Nat) : State :=
  let x := s.servo n
  let cs := (List.range 4).map fun k =>
    let track := s.actFld (AXL_NF_CFG n k) 17 16
    if track = 0 ∨ x.nfRun = 0 ∨ x.nf.length ≠ 4 then s.notchNow n k else x.nf.getD k []
  s.setServo n { x with nf := cs, nfRun := (x.nfRun + 1) % 8 }

/-- One biquad: its output and its new state. -/
def biquad (c st : List Int) (x : Int) : Int × List Int :=
  let g (l : List Int) (i : Nat) : Int := l.getD i 0
  let y := (g c 0 * x + g c 1 * g st 0 + g c 2 * g st 1 - g c 3 * g st 2 - g c 4 * g st 3) / 2 ^ 30
  (y, [x, g st 0, y, g st 2])

/-- The notch cascade over the enabled biquads in ascending order (R172). -/
def notchChain (en : Nat) (cs sts : List (List Int)) (u : Int) : Int × List (List Int) :=
  (List.range 4).foldl (fun acc k =>
    if en / 2 ^ k % 2 = 1 then
      let (y, st) := biquad (cs.getD k []) (sts.getD k []) acc.1
      (y, acc.2 ++ [st])
    else (acc.1, acc.2 ++ [sts.getD k []])) (u, [])

/-! ### The repetitive controller (R175 to R178) -/

/-- Bins (R175). -/
def State.rcBins (s : State) (n : Nat) : Nat := 2 ^ s.actFld (AXL_RC_CTL n) 3 0

/-- One bin, Q1.31 (R175). -/
def State.rcBin (s : State) (n k : Nat) : Int := signedOf 32 (s.memNat (s.rcAddr n + 4 * (k % s.rcBins n)) 4)

/-- The index in bins at the sample instant of the run, units of 2^-32, its velocity and acceleration in units of 2^-64 per second. -/
def State.rcIndex (s : State) (n : Nat) : Int × Int × Int :=
  let bins : Int := (s.rcBins n : Nat)
  if s.actBit (AXL_RC_CTL n) 4 then
    let x := s.axis n
    let per := s.modPer n
    ((if per = 0 then 0 else x.act1.p % per * 2 ^ 32 / per) * bins, x.rawVel, x.cmd.a)
  else
    let k := s.lineAt (s.runT n)
    (q32 k.p % 4294967296 * bins, k.v, k.a)

/-- The axis plays the table (R176), and learns (R178). -/
def AxState.active (st : AxState) : Bool :=
  match st with
  | .closed => true
  | .moving => true
  | .following => true
  | .stopping => true
  | _ => false

/-- u_rc (R176). -/
def State.rcOut (s : State) (n : Nat) : Int :=
  if s.rcEnabled n && (s.axis n).st.active then
    let bins := s.rcBins n
    let ph := ((s.rcIndex n).1 + ((s.actFld (AXL_RC_CTL n) 17 8 : Nat) : Int) * one32) % ((bins : Int) * one32)
    let b := (ph / one32).toNat
    let f := ph % one32
    let t := s.rcBin n b + mul32 (s.rcBin n (b + 1) - s.rcBin n b) f
    let lim := u16 (s.act (AXL_RC_LIM n))
    clampInt (-lim) lim (mul32 (t * 2) (u16 (s.act (AXL_I_SCALE n))))
  else 0

/-- The reasons that the run of a sample finds for freezing learning, F_SPEED, F_ACCEL and F_LIMIT (R178). -/
def State.rcFreeze (s : State) (n : Nat) (limited : Bool) : Nat :=
  let (_, v, a) := s.rcIndex n
  let speed := decide ((v.natAbs : Int) < v16 (s.act (AXL_RC_VMIN n)).toNat) || decide (v16 (s.act (AXL_RC_VMAX n)).toNat < (v.natAbs : Int))
  let acc := decide (a8 (s.act (AXL_RC_AMAX n)).toNat < (a.natAbs : Int))
  (if speed then 1 else 0) + (if acc then 2 else 0) + (if limited then 4 else 0)

/-- The run of this sample records what it finds (R178); without the repetitive controller there is no learning to freeze. -/
def State.rcSeen (s : State) (n : Nat) (limited : Bool) : State := s.wrFld (AXL_RC_STAT n) 3 1 (if s.rcEnabled n then s.rcFreeze n limited else 0)

/-- Store one bin, remembering what stood there (R177, R193). -/
def State.rcPut (s : State) (n k : Nat) (v : Int) : State :=
  let a := s.rcAddr n + 4 * (k % s.rcBins n)
  let x := s.servo n
  let s1 := s.setServo n { x with rcUndo := (a, s.memNat a 4) :: x.rcUndo }
  s1.putNat a 4 (wrapTo 32 (satTo 32 v))

/-- Learning: the two bins that bracket the index, then the Q filter on each (R177). -/
def State.rcLearn (s : State) (n : Nat) (kpVel ev : Int) (limited : Bool) : State :=
  let s1 := s.rcSeen n limited
  if !(s.rcEnabled n) ∨ bitOf (s1.rcStat n) 0 = true ∨ s.rcAddr n = 0 then s1
  else
    let ph := (s.rcIndex n).1
    let b := (ph / one32).toNat
    let f := ph % one32
    let gain := mul32 (((s.actFld (AXL_RC_GAIN n) 15 0 : Nat) : Int) * 65536) (mul32 kpVel ev)
    let full := u16 (s.act (AXL_I_SCALE n))
    let q (x : Int) : Int := div32 x full / 2
    let w : Int := (min 64 (s.actFld (AXL_RC_CTL n) 31 24) : Nat)
    let s2 := s1.rcPut n b (s1.rcBin n b + q (mul32 (one32 - f) gain))
    let s3 := s2.rcPut n (b + 1) (s2.rcBin n (b + 1) + q (mul32 f gain))
    let smooth (s : State) (k : Nat) : State :=
      s.rcPut n k (((256 - 2 * w) * s.rcBin n k + w * (s.rcBin n (k + s.rcBins n - 1) + s.rcBin n (k + 1))) / 256)
    smooth (smooth s3 b) (b + 1)

/-! ### One run of the cascade (R161 to R171) -/

/-- The thermal throttle fraction, 1.16 (R501). -/
def State.throttleFrac (s : State) : Int := if s.bit THM_THM_STAT 0 then ((s.fld THM_THR_FRAC_SET 16 0 : Nat) : Int) else 65536

/-- I_LIM_eff (R145, R167): under QUICK the peak current, during HARDSTOP homing its own limit. -/
def State.currentLimit (s : State) (n : Nat) : Int :=
  let peak := u16 (s.act (AXL_I_PEAK n))
  let lim := u16 (s.rd (AXL_I_LIM n))
  let x := s.axis n
  let base := if x.kind = .quick then peak else min lim peak
  let home := if s.homeLimits n then mul32 (((s.fld (AXP_HOME_I n) 31 16 : Nat) : Int) * 65536) peak else base
  min base home * s.throttleFrac / 65536

/-- The four samples of the slot's bridge, of the valley or of the mid-period sample in the period before the run's sample instant; a missing block reads as not measured. -/
def State.sampleBlock (s : State) (n : Nat) (mid : Bool) : List Int :=
  match s.linkOfSlot n with
  | none => []
  | some (k, b) =>
    let t := ((s.servo n).sampleT).getD s.dt
    let mids := (s.link k).mid.find? fun e => decide (e.1 < t) && decide (t ≤ e.1 + s.sampleTicks n)
    ((if mid then (mids.map Prod.snd).getD [] else (s.link k).valley).drop (4 * b)).take 4

/-- A Q1.15 current of I_FS as units of 2^-32 A (R250, R263). -/
def State.ampsOf (s : State) (n : Nat) (v : Int) : Int :=
  match s.linkOfSlot n with
  | none => 0
  | some (k, _) => v * ((s.rd (SLK_STAGE_IFS k)).toNat : Int) * one32 / 32768000

/-- The three phase currents of a block; an unmeasured third one follows from the others (R162). -/
def State.phaseCur (s : State) (n : Nat) (l : List Int) : Int × Int × Int :=
  let a := s.ampsOf n (l.getD 0 0)
  let b := s.ampsOf n (l.getD 1 0)
  (a, b, if l.getD 2 (-32768) = -32768 then -a - b else s.ampsOf n (l.getD 2 0))

/-- The phase currents of this run: the valley sample, or its mean with the mid-period sample before it (R162, R266). -/
def State.runCurrents (s : State) (n : Nat) : Int × Int × Int :=
  let (a, b, c) := s.phaseCur n (s.sampleBlock n false)
  let m := s.sampleBlock n true
  if s.actBit (AXL_LOOP_CTL n) 3 ∧ m ≠ [] then
    let (a', b', c') := s.phaseCur n m
    ((a + a') / 2, (b + b') / 2, (c + c') / 2)
  else (a, b, c)

/-- The bus voltage, saturated at V_SCALE (R162, R184). -/
def State.busVolts (s : State) (n : Nat) : Int :=
  match s.linkOfSlot n with
  | none => 0
  | some (k, _) => min (u16 (s.rd (SLK_VBUS k))) (u16 (s.act (AXL_V_SCALE n)))

/-- The electrical angle of a position in units of 2^-64 turns, as 0.32 turn (R163). -/
def State.elecAngle (s : State) (n : Nat) (p : Int) : Nat :=
  wrapTo 32 (((s.actFld (AXL_POLE_PAIRS n) 7 0 : Nat) : Int) * q32 p + ((s.act (AXL_ELEC_OFS n)).toNat : Int))

/-- A vector turned by an angle, forwards or backwards. -/
def turnBy (x y : Int) (th : Nat) (back : Bool) : Int × Int :=
  let (c, sn) := cosSin th
  let sg : Int := if back then -1 else 1
  (mul62 x c - sg * mul62 y sn, sg * mul62 x sn + mul62 y c)

/-- The velocity filter: a first-order low-pass with corner VEL_FC, held within 10 Hz and a quarter of the sample rate (R164). -/
def State.velFilter (s : State) (n : Nat) (old new : Int) : Int :=
  let fs : Int := max 1 (s.sampleHz n : Int)
  let fc := clampInt 10 (max 10 (fs / 4)) ((s.actFld (AXL_VEL_FC n) 15 0 : Nat) : Int)
  let al := one62 - exp62 (-(twoPi62 * fc / fs))
  old + (new - old) * al / one62

/-- The velocity estimate of this run (R164). -/
def State.velocityEst (s : State) (n : Nat) : Int :=
  let x := s.servo n
  let a := s.axis n
  if x.first then 0 else s.velFilter n x.vAct (q32 (a.act1.p - x.pPrev) * (s.sampleHz n : Int))

/-- Limit a voltage vector (R169): the limited components. -/
def voltLimit (prop : Bool) (vl vd vq : Int) : Int × Int :=
  if prop then
    let m : Int := (isqrt (vd * vd + vq * vq).toNat : Nat)
    if m ≤ vl ∨ m = 0 then (vd, vq) else (vd * vl / m, vq * vl / m)
  else
    let d := clampInt (-vl) vl vd
    let r : Int := (isqrt (vl * vl - d * d).toNat : Nat)
    (d, clampInt (-r) r vq)

/-- An integrator that the voltage limit reduced does not advance in the direction of its component (R169). -/
def holdInt (i inc v vl : Int) : Int := if v ≠ vl ∧ ((0 < inc ∧ 0 < v) ∨ (inc < 0 ∧ v < 0)) then i else i + inc

/-- The three duties of a voltage vector in units of 2^-32 (R171). -/
def State.modulate (s : State) (n : Nat) (va vb bus : Int) : List Nat × State :=
  let a := va
  let b := -va / 2 + mul62 vb (sqrt3x62 / 2)
  let c := -va / 2 - mul62 vb (sqrt3x62 / 2)
  let v0 := -(max a (max b c) + min a (min b c)) / 2
  let th : Int := (s.sampleTicks n / 2 : Nat)
  let mp : Int := (s.actFld (AXL_MIN_PULSE n) 15 0 : Nat)
  if bus ≤ 0 then
    let (f, s1) := s.nextFree
    ((List.range 3).map fun _ => (Config.freeWord f).toNat, s1)
  else
    let duty (v : Int) : Nat :=
      let d := clampInt 0 one32 (one32 / 2 + div32 (v + v0) bus)
      (if mul32 d th < mp then 0 else if mul32 (one32 - d) th < mp then one32 else d).toNat
    ([duty a, duty b, duty c], s)

/-- Stage 9 and 10: the edge set of both halves (R170, R171). -/
def State.outputs (s : State) (n : Nat) (vd vq v : Int) (th : Nat) (bus : Int) : State :=
  let dbl := match s.linkOfSlot n with
    | some (k, _) => s.actBit (SLK_LINK_CTL k) 2
    | none => true
  let t : Int := s.sampleTicks n
  let adv := signedOf 32 (s.act (AXL_ANGLE_ADV n)).toNat
  let pp : Int := (s.actFld (AXL_POLE_PAIRS n) 7 0 : Nat)
  let angle (quarters : Int) : Nat := wrapTo 32 ((th : Int) + pp * v * (t * quarters / 4 + adv) / 4000000000)
  let (a1, b1) := turnBy vd vq (angle (if dbl then 3 else 6)) false
  let (a2, b2) := turnBy vd vq (angle (if dbl then 5 else 6)) false
  let (d1, s1) := s.modulate n a1 b1 bus
  let (d2, s2) := s1.modulate n a2 b2 bus
  s2.setServo n { s2.servo n with edges := d1 ++ d2 }

/-- The following error (R165): raised while the loops move the axis. -/
def State.checkFe (s : State) (n : Nat) (e : Int) : State :=
  if (s.axis n).st.active ∧ u16 (s.act (AXL_FE_LIM n)) < e.natAbs then
    (s.raise (axlPage n) 2).fault n (classOf (s.fld (AXL_DL_CFG n) 14 12)) none
  else s

/-- The following error of this run in units of 2^-32 turns: a signed 64-bit difference (R165). -/
def State.followErr (s : State) (n : Nat) : Int := signedOf 64 (wrapTo 64 (q32 (s.axis n).cmd.p - q32 (s.axis n).act1.p))

/-- The velocity loop: u, and what its integrator gains before back-calculation (R166). -/
structure VelLoop where
  u : Int
  ev : Int
  vref : Int
deriving DecidableEq, Repr

/-- Stages 4 and 5 by structure (R160, R165, R166). -/
def State.outerLoops (s : State) (n : Nat) (c : List Int) (v urc : Int) : VelLoop :=
  let x := s.servo n
  let k (i : Nat) : Int := c.getD i 0
  let cmd := (s.axis n).cmd
  let st := s.struct n
  if 2 ≤ st then ⟨x.iqExt, 0, 0⟩
  else
    let vref := mul32 (k 1) (q32 cmd.v) + (if st = 0 then mul32 (k 0) (s.followErr n) else 0)
    let ev := vref - v
    ⟨mul32 (k 3) ev + x.iVel + mul32 (k 2) (q32 cmd.a) + urc, ev, vref⟩

/-- The monitor registers of a run (R199). -/
def State.monitors (s : State) (n : Nat) (iqRef iq id vq vd v urc bus : Int) : State :=
  ((((((((s.wr (AXL_MON_IQ_REF n) (toS16 iqRef)).wr (AXL_MON_IQ n) (toS16 iq)).wr (AXL_MON_ID n) (toS16 id)).wr (AXL_MON_VQ n) (toS16 vq)).wr
    (AXL_MON_VD n) (toS16 vd)).wr (AXL_MON_VEL n) (toS16 v)).wr (AXL_MON_FE n) (toS16 (s.followErr n))).wr (AXL_MON_VBUS n) (BitVec.ofNat 32 (bus / 65536).toNat)).wr
    (AXL_MON_RC n) (toS16 urc)

/-- Stages 1 to 3: currents in the rotor frame, angle, velocity. -/
structure Measured where
  id : Int
  iq : Int
  th : Nat
  v : Int
  bus : Int
deriving DecidableEq, Repr

/-- The measurement stages (R162 to R164). -/
def State.measure (s : State) (n : Nat) : Measured :=
  let (a, b, c) := s.runCurrents n
  let al := (2 * a - b - c) / 3
  let be := div62 (b - c) sqrt3x62
  let th := s.elecAngle n (s.axis n).act1.p
  let (d, q) := turnBy al be th true
  ⟨d, q, th, s.velocityEst n, s.busVolts n⟩

/-- A run that only measures: switching is off (R191). -/
def State.runMeasure (s : State) (n : Nat) : State :=
  let m := s.measure n
  let s1 := (s.setServo n { s.servo n with vAct := m.v, pPrev := (s.axis n).act1.p, first := false }).rcSeen n false
  s1.monitors n 0 m.iq m.id 0 0 m.v 0 m.bus

/-- One whole run of the cascade (R161). -/
def State.runCascade (s0 : State) (n : Nat) : State :=
  let s := (s0.setServo n (s0.servo n).stepBlend).notchRefresh n
  let x := s.servo n
  let m := s.measure n
  let fs : Int := max 1 (s.sampleHz n : Int)
  let k (i : Nat) : Int := x.coef.getD i 0
  let urc := if s.struct n < 2 then s.rcOut n else 0
  let o := s.outerLoops n x.coef m.v urc
  let (nt, sts) := notchChain (s.actFld (AXL_LOOP_CTL n) 11 8) x.nf x.notch o.u
  let lim := s.currentLimit n
  let iqRef := clampInt (-lim) lim nt
  let idRef := clampInt (-lim) lim (s16 (s.rd (AXL_ID_REF n)))
  -- a velocity loop without proportional gain has no stated back-calculation: free (log 8)
  let (f, s1) := s.nextFree
  let back := if k 3 = 0 then (if iqRef = nt then 0 else Config.freeInt f) else mul32 (div32 (k 4) (k 3)) (iqRef - nt) / fs
  let iVel := if s.struct n < 2 then x.iVel + mul32 (k 4) o.ev / fs + back else x.iVel
  let pp : Int := (s.actFld (AXL_POLE_PAIRS n) 7 0 : Nat)
  let om := mul62 (m.v * pp) twoPi62
  let dec := s.actBit (AXL_LOOP_CTL n) 4
  let bem := s.actBit (AXL_LOOP_CTL n) 5
  let henry (r : W32) (i : Int) : Int := mul32 om i * (r.toNat : Int) / 65536000000
  let ed := idRef - m.id
  let eq := iqRef - m.iq
  let vd := mul32 (k 5) ed + x.iD - (if dec then henry (s.act (AXL_L_Q n)) m.iq else 0)
  let vq := mul32 (k 5) eq + x.iQ + (if dec then henry (s.act (AXL_L_D n)) m.id else 0) + (if bem then om * ((s.act (AXL_PSI n)).toNat : Int) / 65536000 else 0)
  let vl := div62 (((s.actFld (AXL_MOD_MAX n) 15 0 : Nat) : Int) * m.bus / 65536) sqrt3x62
  let (ld, lq) := voltLimit (s.actBit (AXL_LOOP_CTL n) 6) vl vd vq
  let x1 : Servo := { x with
    vAct := m.v
    pPrev := (s.axis n).act1.p
    first := false
    iVel := iVel
    iD := holdInt x.iD (mul32 (k 6) ed / fs) vd ld
    iQ := holdInt x.iQ (mul32 (k 6) eq / fs) vq lq
    notch := sts
    torqueNow := decide (mul32 (((s.fld (AXP_HOME_I n) 15 0 : Nat) : Int) * 65536) (u16 (s.act (AXL_I_PEAK n))) ≤ (m.iq.natAbs : Int)) }
  let limI := decide (iqRef ≠ nt) || decide (idRef ≠ s16 (s.rd (AXL_ID_REF n)))
  let limV := decide (ld ≠ vd) || decide (lq ≠ vq)
  let s2 := ((s1.setServo n x1).wrBit (AXL_LOOP_STAT n) 1 limV).wrBit (AXL_LOOP_STAT n) 2 limI
  let s3 := ((s2.wrBit (AXL_LOOP_STAT n) 11 (decide (x1.blendLeft ≠ 0))).monitors n iqRef m.iq m.id lq ld m.v urc m.bus).outputs n ld lq m.v m.th m.bus
  let s4 := ((if s.struct n < 2 then s3.rcLearn n (k 3) o.ev (limI || limV) else s3)).gainSchedule n iqRef
  if s.struct n = 0 then s4.checkFe n (s.followErr n) else s4

/-! ### The stall estimator (R152 to R154) -/

/-- The induced voltages, the load angle and the BEMF ratio; a stall after N samples (R152, R153). The commanded current vector turns with the commanded position, PP electrical turns for each (DEDUCED from the commanded
electrical speed of R152, log 26). -/
def State.stallEstimate (s : State) (n : Nat) : State :=
  let x := s.servo n
  let fs : Int := max 1 (s.sampleHz n : Int)
  let blk := s.sampleBlock n false
  let ia := s.ampsOf n (blk.getD 0 0)
  let ib := s.ampsOf n (blk.getD 1 0)
  let volts (v : Int) : Int := match s.linkOfSlot n with
    | none => 0
    | some (k, _) => v * ((s.rd (SLK_STAGE_VFS k)).toNat : Int) * one32 / 32768000
  let r : Int := s.actFld (AXP_STALL_RL n) 15 0
  let l : Int := s.actFld (AXP_STALL_RL n) 31 16
  let e (u i i0 : Int) : Int := u - r * i / 1000 - l * (i - i0) * fs / 1000000
  let al := one62 - exp62 (-(twoPi62 / 8))
  let flt (y v : Int) : Int := y + (v - y) * al / one62
  let ea := flt x.emf.1 (e (volts (blk.getD 2 0)) ia x.iPrev.1)
  let eb := flt x.emf.2 (e (volts (blk.getD 3 0)) ib x.iPrev.2)
  let cmdV := q32 (s.axis n).cmd.v
  let sg : Int := if cmdV < 0 then -1 else 1
  let om := mul62 (cmdV * ((s.actFld (AXP_STALL_CTL n) 31 24 : Nat) : Int)) twoPi62
  let thr := atan2Turn eb ea - sg * (one62 / 4)
  let thi : Int := wrapTo 32 (((s.actFld (AXP_STALL_CTL n) 31 24 : Nat) : Int) * q32 ((s.axis n).cmd.p - (s.axis n).posOfs) + ((s.act (AXL_ELEC_OFS n)).toNat : Int)) * 2 ^ 30
  let dl0 := ((thi - thr) * sg) % one62
  let dl := if one62 / 2 ≤ dl0 then dl0 - one62 else dl0
  let mag : Int := (isqrt (ea * ea + eb * eb).toNat : Nat)
  let ke : Int := (s.act (AXP_STALL_KE n)).toNat
  let full := mul32 om.natAbs (ke * one32 / 1000000)
  let ratio := if full = 0 then one32 * 255 else div32 mag full
  let est := withFld (w32 (wrapTo 16 (satTo 16 (dl / 2 ^ 46)))) 31 16 (clampInt 0 65535 (ratio / 2 ^ 24)).toNat
  let ctl := s.act (AXP_STALL_CTL n)
  let fast := decide (u16 (s.rd (AXP_STALL_VMIN n)) ≤ (cmdV.natAbs : Int))
  let bad := decide (((fldOf ctl 15 8 : Nat) : Int) * one62 / 360 < (dl.natAbs : Int)) || decide (ratio < ((s.fld (AXP_STALL_COLLAPSE n) 15 0 : Nat) : Int) * 65536)
  let a := s.axis n
  let run := if !(bitOf ctl 0 && fast) then 0 else if bad then a.stallRun + 1 else 0
  let need := max 1 (fldOf ctl 19 16)
  let hit := decide (need ≤ run)
  let s1 := (s.setServo n { x with iPrev := (ia, ib), emf := (ea, eb), stallNow := hit }).wr (AXP_STALL_EST n) est
  let s2 := s1.setAxis n { s1.axis n with stallRun := (if hit then 0 else run) }
  let hard := decide (a.kind = .home) && (s.homeMethod n == 8 || s.homeMethod n == 9)
  if hit && !hard then ((s2.raise (axpPage n) 9).wrBit (AXP_PROF_STAT n) 7 false).fault n (classOf (s.fld (AXP_FAULT_CFG n) 10 8)) none else s2

/-- A stepper stage: the estimator runs; how its program turns references into duties is not stated, and the duties are free (log 26). -/
def State.runStepper (s0 : State) (n : Nat) : State :=
  let s := s0.stallEstimate n
  let m := s.measure n
  let (f, s1) := s.takeFree 6
  let duties := (List.range 6).map fun k => (Config.freeWord (f + k)).toNat
  (s1.setServo n { s1.servo n with vAct := m.v, pPrev := (s.axis n).act1.p, first := false, edges := duties }).wr (AXL_MON_VEL n) (toS16 m.v)

end Sys2Proof.Machine
end

