-- ==== Sys2Proof/Machine/LpuSched.lean ====
section
/-! DEFINITION. The scheduler of the loop processors: library loads, fallow rotation, migrations, failover, requests, trump promotion, coefficient conversion and
repetitive-table commands (R179, R180, R185, R196, R222 to R237). -/

namespace Sys2Proof.Machine

/-- Roles (R236). -/
def State.roleOf (s : State) (i : Nat) : Nat := s.fld (LPU_ROLE i) 2 0
def State.setRole (s : State) (i r : Nat) : State := (s.wrFld (LPU_ROLE i) 2 0 r).wrFld (lpuPage i + 8) 3 0 r

/-- The scheduler's registers appear in all nine pages: one set, held in page 0 (R235). -/
def State.spareLpu (s : State) : Option Nat := (List.range 9).find? fun i => s.roleOf i == 1

/-- The thermal throttle is active (R501). -/
def State.throttled (s : State) : Bool := s.bit THM_THM_STAT 0

/-- An LPU is retired (R235). -/
def State.lpuRetired (s : State) (i : Nat) : Bool := s.bit (LPU_RETIRED 0) i

/-- The positions of LPU `i` that hold a slot. -/
def State.usedPositions (s : State) (i : Nat) : List Nat := (List.range 8).filter fun p => s.actBit (LPU_ASSIGN i p) 7

/-- The slots of LPU `i`. -/
def State.lpuSlots (s : State) (i : Nat) : List Nat := (s.usedPositions i).map fun p => s.actFld (LPU_ASSIGN i p) 5 0

/-- A fallow or a migration is in progress. -/
def State.rotating (s : State) : Bool := s.sched.move.isSome || (List.range 9).any fun i => s.roleOf i == 4

/-- SCHED_STAT and the ageing block's CAPACITY follow the roles (R232, R236, R517). -/
def State.showSched (s : State) : State :=
  let spare := s.spareLpu.getD 15
  let fal := ((List.range 9).find? fun i => s.roleOf i == 4 || s.roleOf i == 2).getD 15
  let ret := popCount 9 (s.rd (LPU_RETIRED 0)).toNat
  let s1 := ((s.wrFld (LPU_SCHED_STAT 0) 3 0 spare).wrFld (LPU_SCHED_STAT 0) 11 8 fal).wrFld (LPU_SCHED_STAT 0) 15 12 ret
  let cap := if ret ≤ 1 then 64 else 64 - 8 * (ret - 1)
  (s1.wrFld AGE_CAPACITY 6 0 cap).wrFld AGE_CAPACITY 11 8 ret

/-! ### Requests (R230) -/

/-- The spare carries a failed LPU's group, or there is none left to take. -/
def State.spareBusy (s : State) : Bool := s.bit (LPU_SCHED_STAT 0) 16 || (s.spareLpu.isNone && !s.rotating)

/-- The status of the newest request as it stands, and SPARE_BUSY once for each queued request that meets a busy spare (R230). -/
def State.refreshReq (s : State) : State :=
  let i := s.fld (LPU_REQ_STAT 0) 6 3
  let s1 := s.when (s.sched.queue.any fun q => q.1 == i) fun st => st.wrFld (LPU_REQ_STAT 0) 2 0 (if st.spareBusy then 3 else if st.throttled then 5 else 1)
  let new := if s.spareBusy then s.sched.queue.filter fun q => !s.sched.warned.contains q else []
  let s2 : State := { s1 with sched := { s1.sched with warned := if s.spareBusy then s.sched.queue else s.sched.warned.filter s.sched.queue.contains } }
  s2.each new fun q st => st.raise (lpuPage q.1) 5

/-- The requests of LPU `i` leave the queue, and its request bits read 0 (R230). -/
def State.dropReqs (s : State) (i : Nat) : State :=
  let s1 : State := { s with sched := { s.sched with queue := s.sched.queue.filter fun q => q.1 != i, warned := s.sched.warned.filter fun q => q.1 != i } }
  (s1.wrBit (LPU_TEST_REQ 0) i false).wrBit (LPU_CAL_REQ 0) i false

/-- LPU `i` goes fallow, which takes its requests off the queue; the spare goes directly, with no migration (R229, R230). -/
def State.goFallow (s : State) (i : Nat) : State :=
  let mine := s.sched.queue.filter fun q => q.1 == i
  let s1 := s.dropReqs i
  let s2 : State := { s1 with sched := { s1.sched with fallowReq := tabSet i (!mine.isEmpty, mine.contains (i, true)) s1.sched.fallowReq } }
  ((s2.setRole i 4).wrFld (LPU_ROLE i) 7 4 0).showSched

/-- Whether a rotation may start (R229). -/
def State.mayRotate (s : State) : Bool := s.spareLpu.isSome && !s.throttled && !s.rotating

/-- One request of a self-test or a calibration (R230). -/
def State.request (s : State) (i : Nat) (cal : Bool) : State :=
  let show1 (s : State) (st : Nat) : State := (s.wrFld (LPU_REQ_STAT 0) 2 0 st).wrFld (LPU_REQ_STAT 0) 6 3 i
  if s.lpuRetired i then show1 s 4
  else
    let r := if cal then LPU_CAL_REQ 0 else LPU_TEST_REQ 0
    let q := if s.sched.queue.contains (i, cal) then s.sched.queue else s.sched.queue ++ [(i, cal)]
    let s1 := show1 (({ s with sched := { s.sched with queue := q } } : State).wrBit r i true) 1
    if s.roleOf i = 1 ∧ s.mayRotate then s1.goFallow i else s1.refreshReq

/-- Every bit of a request write: a bit stays 1 until it is served (R230). -/
def State.requests (s : State) (v : Nat) (cal : Bool) : State :=
  s.each ((List.range 9).filter fun i => v / 2 ^ i % 2 == 1) fun i st => st.request i cal

/-- The meanings of TEST_REQ_WRITE and CAL_REQ_WRITE. -/
def execTestReqWrite (v : BitVec 9) (s : State) : Host.Outcome State Fault Refusal := .next (s.requests v.toNat false)
def execCalReqWrite (v : BitVec 9) (s : State) : Host.Outcome State Fault Refusal := .next (s.requests v.toNat true)

/-! ### Rotation and migration (R196, R229) -/

/-- The order of two LPUs by the end of their last fallow. -/
def State.olderFallow (s : State) (i j : Nat) : Bool := decide (tabGet 0 i s.sched.lastFallow ≤ tabGet 0 j s.sched.lastFallow)

/-- The working LPU whose last fallow ended longest ago, the lower number first. -/
def State.oldestFallow (s : State) : Option Nat :=
  ((List.range 9).filter fun i => s.roleOf i == 0).foldl (fun acc i =>
    match acc with
    | none => some i
    | some j => if s.olderFallow j i then some j else some i) none

/-- The target of a rotation: the LPU whose request has been queued longest, else the oldest fallow (R229). -/
def State.rotTarget (s : State) : Option Nat :=
  match s.sched.queue.find? fun q => s.roleOf q.1 == 0 || s.roleOf q.1 == 1 with
  | some q => some q.1
  | none => s.oldestFallow

/-- The group has moved completely: the spare works, the source goes fallow or, failed, stays retired; MIGRATED in the page of the target (R229, R237). -/
def State.groupMoved (s : State) (src dst : Nat) (failover : Bool) : State :=
  let g := s.fld (LPU_ROLE src) 6 4
  let s1 := ((s.setRole dst 0).wrFld (LPU_ROLE dst) 6 4 g).wrBit (LPU_ROLE dst) 7 true
  let s2 := if failover then s1.wrFld (LPU_ROLE src) 7 4 0 else s1.goFallow src
  (({ s2 with sched := { s2.sched with move := none, unreadable := [] } } : State).raise (lpuPage src) 2).showSched

/-- The ASSIGN registers of the positions that hold no slot go with the group (R225). -/
def State.moveEmpty (s : State) (src dst : Nat) : State :=
  s.each ((List.range 8).filter fun p => !(s.usedPositions src).contains p) fun p st =>
    (st.setAct (LPU_ASSIGN dst p) (st.act (LPU_ASSIGN src p))).wr (LPU_ASSIGN dst p) (st.rd (LPU_ASSIGN src p))

/-- The fallow rotation begins: the target gives its group to the spare, or the spare itself goes fallow (R229). -/
def State.startRotation (s : State) : State :=
  match s.rotTarget, s.spareLpu with
  | some i, some sp =>
    let s0 := ({ s with sched := { s.sched with lastRot := s.dt } } : State).wrBit (LPU_SCHED_STAT 0) 17 false
    if i = sp then s0.goFallow i
    else
      let l := s0.usedPositions i
      let s1 := ((s0.setRole i 2).setRole sp 3).moveEmpty i sp
      let s2 : State := { s1 with sched := { s1.sched with move := some (i, sp, l, false) } }
      if l = [] then s2.groupMoved i sp false else s2.showSched
  | _, _ => s.wrBit (LPU_SCHED_STAT 0) 17 true

/-- ROT_CTL.EN and INTERVAL in ticks (R229, R235). -/
def State.rotEnabled (s : State) : Bool := s.bit (LPU_ROT_CTL 0) 0
def State.rotInterval (s : State) : Nat := s.fld (LPU_ROT_CTL 0) 31 8 * 4000000

/-- ROT_CMD.NOW (R229). -/
def State.rotNow (s : State) : State :=
  if !s.rotEnabled then s else if s.mayRotate then s.startRotation else (s.wrBit (LPU_SCHED_STAT 0) 17 true).refreshReq

/-- The interval has elapsed, or the conditions of a waiting rotation hold (R229). -/
def State.rotDue (s : State) : State :=
  if !s.rotEnabled then s
  else if s.bit (LPU_SCHED_STAT 0) 17 ∨ s.sched.lastRot + s.rotInterval ≤ s.dt then
    (if s.mayRotate then s.startRotation else (s.wrBit (LPU_SCHED_STAT 0) 17 true).refreshReq)
  else s

def execRotNow (s : State) : Host.Outcome State Fault Refusal := .next s.rotNow
def execRotationStart (s : State) : Host.Outcome State Fault Refusal := .next s.rotDue

/-- Copy `n` bytes of memory from `src` to `dst`. -/
def State.copyMem (s : State) (src dst n : Nat) : State :=
  let cells := s.mem.filter fun c => decide (src ≤ c.1) && decide (c.1 < src + n)
  (s.wipe dst (dst + n)).each cells fun c st => st.putByte (c.1 - src + dst) c.2

/-- Reaction class fields of the LPU page (R236). -/
def State.lpuClass (s : State) (hi lo : Nat) : FaultClass := classOf (s.fld (LPU_FAULT_CFG 0) hi lo)

/-- A slot whose state could not be read: integrators and filters at zero, LPU_STATE_LOST (R231). -/
def State.stateLost (s : State) (n : Nat) : State :=
  let x := s.servo n
  (s.setServo n { Servo.reset with sampleT := x.sampleT, judged := x.judged, late := x.late, sent := x.sent, edges := x.edges, coef := x.coef, coefTo := x.coefTo }).faultFrom n
    (s.lpuClass 10 8) none

/-- Position `p` moves from LPU `src` to LPU `dst` at the same position: its ASSIGN register, state block, coefficient sets and repetitive table (R196, R225, R229). -/
def State.movePosition (s : State) (src dst p : Nat) : State :=
  let a := s.act (LPU_ASSIGN src p)
  let s1 := ((s.setAct (LPU_ASSIGN dst p) a).wr (LPU_ASSIGN dst p) (s.rd (LPU_ASSIGN src p)))
  let off := withBit a 7 false
  let s2 := (s1.setAct (LPU_ASSIGN src p) off).wr (LPU_ASSIGN src p) off
  let mv (s : State) (o n : Nat) : State := s.copyMem (lpuMem src + o) (lpuMem dst + o) n
  let s3 := mv (mv (mv s2 (0x9000 + p * 0x600) 0x600) (0x18000 + p * 0x800) 0x800) (0x20000 + p * 0x4000) 0x4000
  ((s3.wrFld (AXL_LOOP_STAT (fldOf a 5 0)) 19 16 dst).wr (AXL_RC_TABLE (fldOf a 5 0)) (BitVec.ofNat 32 (lpuMem dst + 0x20000 + p * 0x4000))).wrapUp (LPU_MIG_CNT 0) 15 0

/-- A slot's migration at its sample boundary: the next position in order moves; one that cannot be copied in time, or whose run has not written back, is postponed by one sample (R196, R229, R231). -/
def State.slotMigrate (s : State) (late : Bool) : State :=
  match s.sched.move with
  | none => s
  | some (_, _, [], _) => s
  | some (src, dst, p :: rest, failover) =>
    let n := s.actFld (LPU_ASSIGN src p) 5 0
    if late ∨ ((s.servo n).inProgress s.dt ∧ !failover) then s.count (LPU_MIG_CNT 0) 31 16 (lpuPage src) 6
    else
      let s1 := s.movePosition src dst p
      let s2 := if s.sched.unreadable.contains p then s1.stateLost n else s1
      let s3 : State := { s2 with sched := { s2.sched with move := some (src, dst, rest, failover) } }
      if rest = [] then s3.groupMoved src dst failover else s3

/-- The meaning of SLOT_MIGRATION. -/
def execSlotMigration (late : Bool) (s : State) : Host.Outcome State Fault Refusal := .next (s.slotMigrate late)

/-! ### Fallow, retirement, failover (R229 to R232) -/

/-- LPU `i` is retired: its requests are dropped, with status RETIRED for the newest one, its record goes to the ledger (R230 to R232, R514). -/
def State.retire (s : State) (i : Nat) : State :=
  let s1 := (((s.setRole i 5).wrBit (lpuPage i + 4) 0 false).wrBit (LPU_RETIRED 0) i true).wrFld (LPU_ROLE i) 7 4 0
  let gone := s.sched.queue.any (fun q => q.1 == i) && s.fld (LPU_REQ_STAT 0) 6 3 == i
  let s3 := (s1.dropReqs i).when gone fun st => st.wrFld (LPU_REQ_STAT 0) 2 0 4
  ((s3.raise (lpuPage i) 3).showSched).ledgerRecord 7 i (leBytes 4 (s3.rd (LPU_TEST_RES i)).toNat)

/-- The fallow of LPU `i` ends with the given result: `unit` 0 for a pass, the failing unit otherwise; `slack` is the calibration's, taken where one was queued; the result goes to the ledger (R229, R230, R236). -/
def State.fallowEnd (s : State) (i unit slack : Nat) : State :=
  if s.roleOf i ≠ 4 then s
  else
    let req := tabGet (false, false) i s.sched.fallowReq
    let cal := req.2 && unit == 0
    let res := (if cal then 2 else 1) + (if unit = 0 then 4 else 8) + unit * 16 + (if cal then slack % 65536 * 65536 else s.fld (LPU_TEST_RES i) 31 16 * 65536)
    let s1 := (((s.wr (LPU_TEST_RES i) (BitVec.ofNat 32 res)).wr64 (LPU_TEST_T_LO i) s.dt).wipe (lpuMem i + 0x8000) (lpuMem i + 0x40000)).setLpu i Lpu.reset
    let s2 : State := { s1 with sched := { s1.sched with lastFallow := tabSet i s1.dt s1.sched.lastFallow, fallowReq := tabDrop (fun j => j == i) s1.sched.fallowReq } }
    let s3 := if cal then (if slack < s2.fld AGE_SLACK 15 0 ∨ s2.rd AGE_SLACK = 0 then s2.wr AGE_SLACK (BitVec.ofNat 32 (slack % 65536 + (24 + i) * 65536)) else s2) else s2
    let s4 := s3.when (req.1 && s3.fld (LPU_REQ_STAT 0) 6 3 == i && !(s3.sched.queue.any fun q => q.1 == i)) fun st => st.wrFld (LPU_REQ_STAT 0) 2 0 2
    if unit = 0 then ((((((s4.setRole i 1).count (LPU_TEST_CNT i) 15 0 (lpuPage i) 6).raise (lpuPage i) 0).ledgerRecord 7 i (leBytes 4 res)).showSched).refreshReq)
    else (((s4.count (LPU_TEST_CNT i) 31 16 (lpuPage i) 6).raise (lpuPage i) 1).retire i).refreshReq

/-- The meaning of FALLOW_END. -/
def execFallowEnd (i : Fin 9) (unit : Fin 8) (slack : BitVec 16) (s : State) : Host.Outcome State Fault Refusal := .next (s.fallowEnd i unit slack.toNat)

/-- The runs of an LPU's slots in progress are aborted (R231). -/
def State.abortRuns (s : State) (i : Nat) : State :=
  (s.each (s.lpuSlots i) fun n st => if (st.servo n).inProgress st.dt then st.abortRun n else st).setLpu i Lpu.reset

/-- LPU `i` fails; `bad` names the positions whose state cannot be read (R231). -/
def State.lpuFail (s : State) (i : Nat) (bad : List Nat) : State :=
  let slots := s.lpuSlots i
  let r := s.roleOf i
  if r = 5 then s
  else
    let s1 := s.abortRuns i
    let busy (s : State) (l : List Nat) : State := s.each l fun n st => st.faultFrom n (st.lpuClass 6 4) (some .lpuBusy)
    match r, s1.spareLpu, s1.sched.move with
    | 0, some sp, _ =>
      -- the spare is free
      let g := s1.rd (LPU_ROLE i)
      let s2 := (((s1.retire i).wr (LPU_ROLE i) (withFld g 2 0 5)).setRole sp 3).moveEmpty i sp
      let s3 : State := { s2 with sched := { s2.sched with move := some (i, sp, s1.usedPositions i, true), unreadable := bad } }
      let s4 := ((s3.wrBit (LPU_SCHED_STAT 0) 16 true).raise (lpuPage i) 4).showSched
      let s5 := s4.each slots fun n st => st.faultFrom n (st.lpuClass 2 0) none
      (if s1.usedPositions i = [] then s5.groupMoved i sp true else s5).refreshReq
    | 2, _, some (src, dst, l, _) =>
      -- MIGRATING_OUT: the rest continues by failover
      let g := s1.rd (LPU_ROLE i)
      let s2 := (s1.retire i).wr (LPU_ROLE i) (withFld g 2 0 5)
      let s3 : State := { s2 with sched := { s2.sched with move := some (src, dst, l, true), unreadable := bad } }
      let s4 := ((s3.wrBit (LPU_SCHED_STAT 0) 16 true).raise (lpuPage i) 4).showSched
      (s4.each slots fun n st => st.faultFrom n (st.lpuClass 2 0) none).refreshReq
    | 0, none, _ => ((busy (s1.retire i) slots).raise (lpuPage i) 4).refreshReq
    | 3, _, some (src, _, _, fo) =>
      -- the receiving LPU fails: the slots it has taken have no LPU, the source keeps the rest
      let s2 := busy (s1.retire i) slots
      let s3 : State := { s2 with sched := { s2.sched with move := none, unreadable := [] } }
      ((if fo then busy s3 (s3.lpuSlots src) else s3.setRole src 0).raise (lpuPage i) 4).showSched.refreshReq
    | _, _, _ => (s1.retire i).refreshReq

/-- The meaning of LPU_FAILURE. -/
def execLpuFailure (i : Fin 9) (bad : List (Fin 8)) (s : State) : Host.Outcome State Fault Refusal := .next (s.lpuFail i (bad.map Fin.val))

/-- The life cycle is PRODUCE (R582). -/
def State.inProduce (s : State) : Bool := s.fld LCS_LC_STATE 1 0 == 2

/-- A debug halt of LPU `i`: refused in PRODUCE; else its runs stop, those in progress too: no result of theirs becomes ready (R233). -/
def State.lpuHalt (s : State) (i : Nat) : State :=
  if s.inProduce then s.err (lpuPage i) .access 0x40
  else
    (s.setLpu i { s.lpu i with halted := true }).each (s.lpuSlots i) fun n st =>
      if (st.servo n).inProgress st.dt then st.setServo n { st.servo n with doneAt := none } else st

def execLpuDebugHalt (i : Fin 9) (s : State) : Host.Outcome State Fault Refusal := .next (s.lpuHalt i)

/-! ### The library (R222 to R224) -/

/-- The directory entry at address `a`: identifier, entry, count, flags, worst case, state bytes, coefficient bytes. -/
def State.dirEntry (s : State) (a : Nat) : List Nat :=
  [s.memNat a 2, s.memNat (a + 2) 2, s.memNat (a + 4) 2, s.memNat (a + 6) 2, s.memNat (a + 8) 4, s.memNat (a + 12) 2, s.memNat (a + 14) 2]

/-- A directory entry within the limits of R222. -/
def dirOk (bundles : Nat) (e : List Nat) : Bool :=
  let g (k : Nat) : Nat := e.getD k 0
  decide (g 1 + g 2 ≤ bundles) && decide (g 5 ≤ 1536) && decide (g 6 ≤ 1024)

/-- The library image at `a` passes its checks; the validity of its signature is the device's own finding (R222). -/
def State.libOk (s : State) (a : Nat) (sig : Bool) : Bool :=
  let n := s.memNat (a + 6) 2
  let b := s.memNat (a + 8) 4
  decide (a % 64 = 0) && decide (0x02000000 ≤ a) && decide (a < 0x02800000) &&
  s.memNat a 4 == 0x4C504C42 && s.memNat (a + 4) 2 == 1 && decide (1 ≤ n) && decide (n ≤ 32) && decide (1 ≤ b) && decide (b ≤ 4096) &&
  decide (a + 64 + 32 * n + 8 * b ≤ 0x02800000) && crc32 (s.bytesAt (a + 16) (48 + 32 * n + 8 * b)) == s.memNat (a + 12) 4 &&
  ((List.range n).all fun k => dirOk b (s.dirEntry (a + 64 + 32 * k))) && (sig || !s.inProduce)

/-- A slot with a closed loop, one that runs a program, in a state other than OFF, READY or OPEN (R17, R224). -/
def State.loopsMove (s : State) : Bool :=
  (List.range 64).any fun n => !s.runsNothing n && ((s.axis n).st.active || (s.axis n).st == .fault)

/-- Take the library at `a` (R224). -/
def State.libTake (s : State) (a : Nat) : State :=
  let n := s.memNat (a + 6) 2
  let b := s.memNat (a + 8) 4
  let dir := (List.range n).map fun k => s.dirEntry (a + 64 + 32 * k)
  let s1 := s.each ((List.range 9).filter fun i => !s.lpuRetired i) fun i st => st.copyMem (a + 64 + 32 * n) (lpuMem i) (8 * b)
  ({ s1 with sched := { s1.sched with lib := dir } } : State).wr (LPU_LIB_INFO 0) (BitVec.ofNat 32 (b + n * 65536))

/-- ROT_CMD.LIB_LOAD (R224). -/
def State.libLoad (s : State) (sig : Bool) : State :=
  let a := (s.rd (LPU_LIB_ADDR 0)).toNat
  if s.loopsMove ∨ s.rotating then s.err (lpuPage 0) .state 0x204
  else if !s.libOk a sig then s.err (lpuPage 0) .value 0x204
  else s.libTake a

/-- The meaning of LIB_LOAD. -/
def execLibLoad (sig : Bool) (s : State) : Host.Outcome State Fault Refusal := .next (s.libLoad sig)

/-! ### Trump promotion (R234) -/

/-- The trump counter of requester `r` of an arbiter, the register of its limit, its page and the event of its saturation: 0 the background tasks of LPU `inst`, 1 shared SRAM, 2 DMA, 3 the messages of ring port `inst` (R234). -/
def trumpRegs (arb inst r : Nat) : Nat × Nat × Nat × Nat :=
  match arb with
  | 0 => (LPU_BG_TRUMP inst (r % 4), LPU_BG_CFG 0 (r % 4), lpuPage inst, 6)
  | 1 => (MEM_ARB_TRUMP r, MEM_ARB_CFG r, 0x1D000, 6)
  | 2 => (DMA_TRUMP r, DMA_CH_CTL r, 0x19000, 24)
  | _ => (FRB_CH_TRUMP (inst % 2) r, FRB_CH_CFG (inst % 2) r, 0x260000 + inst % 2 * 0x1000, 4)

/-- A requester has waited `w` ticks without a grant: past its limit it is promoted for one grant and the promotion is counted; a limit of 0 disables it (R234). -/
def State.trump (s : State) (arb inst r w : Nat) : State :=
  let (cnt, cfg, page, ev) := trumpRegs arb inst r
  let lim := s.fld cfg 31 16 * 4000
  if lim = 0 ∨ w ≤ lim then s
  else
    let s1 : State := { s with promoted := if s.promoted.contains (arb, inst, r) then s.promoted else s.promoted ++ [(arb, inst, r)] }
    s1.count cnt 15 0 page ev

/-- Requester `r` of arbiter `arb`, instance `inst`, has its grant: a promotion, which is for exactly one grant, is over (R234). The arbiters of shared SRAM and of the DMA channels have one instance. -/
def State.granted (s : State) (arb inst r : Nat) : State := { s with promoted := s.promoted.filter fun q => !(q.1 == arb && q.2.2 == r && (arb == 1 || arb == 2 || q.2.1 == inst)) }

/-- A background task of the LPU that carries slot `n` has been granted (R234). -/
def State.taskGranted (s : State) (n r : Nat) : State :=
  match s.lpuOf n with
  | none => s
  | some (i, _) => s.granted 0 i r

/-- The meaning of TRUMP_PROMOTION. -/
def execTrumpPromotion (arb : Fin 4) (inst : Fin 9) (r : Fin 8) (w : BitVec 32) (s : State) : Host.Outcome State Fault Refusal := .next (s.trump arb inst r w.toNat)

/-! ### Coefficient conversion and repetitive tables (R179, R180, R185, R186) -/

/-- The MRAM address of an image, and whether an image of `bins` bins lies in the user partition (R179). -/
def State.rcImage (s : State) (n : Nat) : Nat := 0x03E00000 + (s.rd (AXL_RC_MRAM_ADDR n)).toNat
def State.rcInside (s : State) (n bins : Nat) : Bool := decide ((s.rd (AXL_RC_MRAM_ADDR n)).toNat + 32 + 4 * bins ≤ 0x200000)

/-- RC_STAT.RESULT and RC_DONE: a command ends (R179). -/
def State.rcEnd (s : State) (n res : Nat) : State :=
  let s1 := s.setServo n { s.servo n with rcCmd := 0 }
  ((s1.wrFld (AXL_RC_STAT n) 11 9 res).wrBit (AXL_RC_STAT n) 8 false).raise (axlPage n) 6

/-- A command is taken: BUSY; one written while BUSY is ignored and recorded (R179). -/
def State.rcBegin (s : State) (n cmd : Nat) : State :=
  let st := (s.axis n).st
  if s.bit (AXL_RC_STAT n) 8 then s.err (axlPage n) .busy 0x30C
  else if cmd ≠ 1 ∧ st ≠ .ready ∧ st ≠ .opened then s.rcEnd n 5
  else (s.setServo n { s.servo n with rcCmd := cmd }).wrBit (AXL_RC_STAT n) 8 true

def execRcSave (n : Fin 64) (s : State) : Host.Outcome State Fault Refusal := .next (s.softWrite (AXL_RC_CMD n) 1 fun st => st.rcBegin n 1)
def execRcLoad (n : Fin 64) (s : State) : Host.Outcome State Fault Refusal := .next (s.softWrite (AXL_RC_CMD n) 2 fun st => st.rcBegin n 2)
def execRcClear (n : Fin 64) (s : State) : Host.Outcome State Fault Refusal := .next (s.softWrite (AXL_RC_CMD n) 3 fun st => st.rcBegin n 3)

/-- The image that a SAVE writes (R180). -/
def State.rcHeader (s : State) (n : Nat) : List Byte :=
  let sec := if s.bit LTB_STATUS 11 then s.rtcSec else 0
  leBytes 4 0x52430001 ++ leBytes 1 n ++ leBytes 1 (s.actFld (AXL_RC_CTL n) 3 0) ++ leBytes 1 (s.actFld (AXL_RC_CTL n) 4 4) ++ leBytes 1 0 ++
    leBytes 6 sec ++ leBytes 2 0 ++ leBytes 12 0

/-- SAVE: the header, the CRC and the bins go to the user partition (R179, R180). -/
def State.rcSave (s : State) (n : Nat) : State :=
  if !s.rcInside n (s.rcBins n) then s.rcEnd n 6
  else
    let bins := s.bytesAt (s.rcAddr n) (4 * s.rcBins n)
    let h := s.rcHeader n
    (s.putBytes (s.rcImage n) (h ++ leBytes 4 (crc32 (h ++ bins)) ++ bins)).rcEnd n 1

/-- LOAD: the checks in order, then the table (R180). The header must lie in the partition before LAYOUT can be read, and the image's own size must before its CRC can; an image whose own BINS_LOG2 is above 12 is judged as one of 12. -/
def State.rcLoad (s : State) (n : Nat) : State :=
  let a := s.rcImage n
  let bl := s.memNat (a + 5) 1
  let bytes := s.bytesAt (a + 32) (4 * 2 ^ min bl 12)
  if !s.rcInside n 0 then s.rcEnd n 6
  else
    if s.memNat a 4 ≠ 0x52430001 then s.rcEnd n 2
    else if !s.rcInside n (2 ^ min bl 12) then s.rcEnd n 6
    else if crc32 (s.bytesAt a 28 ++ bytes) ≠ s.memNat (a + 28) 4 then s.rcEnd n 3
    else if bl ≠ s.actFld (AXL_RC_CTL n) 3 0 ∨ s.memNat (a + 6) 1 ≠ s.actFld (AXL_RC_CTL n) 4 4 then s.rcEnd n 4
    else (s.when (s.rcAddr n ≠ 0) fun st => st.putBytes (s.rcAddr n) bytes).rcEnd n 1

/-- The command in progress ends (R179). -/
def State.rcDone (s : State) (n : Nat) : State :=
  match (s.servo n).rcCmd with
  | 1 => (s.taskGranted n 2).rcSave n
  | 2 => (s.taskGranted n 2).rcLoad n
  | 3 => ((s.taskGranted n 2).wipe (s.rcAddr n) (s.rcAddr n + 4 * s.rcBins n)).rcEnd n 1
  | _ => s

def execRcCmdDone (n : Fin 64) (s : State) : Host.Outcome State Fault Refusal := .next (s.rcDone n)

end Sys2Proof.Machine
end

