-- ==== Sys2Proof/Machine/LineLoss.lean ====
section
/-! DEFINITION. Line loss: the stop of the local line and the reaction of the axes that follow it (R38, R49, R113). -/

namespace Sys2Proof.Machine

/-- Whether the chain of masters of law `l` ends at the line; the first argument bounds the chain (R94). -/
def State.rootIsLineF : Nat → State → GearLaw → Bool
  | 0, _, _ => false
  | k + 1, s, l =>
    match l.msrc with
    | 0 => true
    | 3 => false
    | _ => s.follows l.minst && State.rootIsLineF k s (s.gear l.minst).law

/-- Reaction RAMP of line loss on a FOLLOWING axis: it stays coupled and the line carries it down (R49, R113). -/
def State.lineRampOn (s : State) (n : Nat) : State :=
  let x := s.axis n
  if !x.starts .ramp then s.recordFault n
  else
    let s1 := ((s.setAxis n { x with lineRamp := true, react := some .ramp }).setAxState n .stopping).flushFault n .ramp
    s1.when (s.role == 1 && s.mirrored n) fun st => st.xlkSend (.react n .ramp st.dt)

/-- The reaction of line loss on slot `n`: only axes that follow the line, or wait to engage to such a master, receive it (R49). The standby of a pair does not act on a mirrored slot (R391). -/
def State.lineLossOn (s : State) (n : Nat) : State :=
  let g := s.gear n
  let waits := match g.wait with
    | none => false
    | some (l, _) => State.rootIsLineF 4 s l
  let coupled := (s.axis n).st == .following && decide (g.phase ≠ .idle) && State.rootIsLineF 4 s g.law
  if coupled && !(s.role == 2 && s.mirrored n) then (s.setExtFlt n).lineRampOn n
  else if coupled || waits then (s.when waits fun st => st.putGear n { st.gear n with wait := none }).faultFrom n .ramp none
  else s

/-- Line loss is declared: LOST, LINE_LOSS, the own stop, reaction RAMP on the followers, SS1 for every guarded axis (R38, R49). -/
def State.lineLoss (s : State) : State :=
  if s.bit LTB_STATUS 8 then s
  else
    let s1 := ((s.wrBit LTB_STATUS 8 true).raise ltbPage 0).lineOwnStop
    let s2 := s1.each (List.range 64) fun n st => if (s.gear n).phase ≠ .idle ∨ (s.gear n).wait.isSome = true then st.lineLossOn n else st
    { s2 with ss1Line := true }

/-- The position of slot `n` is lost or invalid: a source 2 line that depends on it is lost at once (R38). -/
def State.slotPosLost (s : State) (n : Nat) : State :=
  if s.lineSrc = 2 ∧ s.actFld LTB_SRC_CTL 13 8 = n then s.lineLoss else s

/-- The position of feedback port `p` is lost or invalid: a source 1 line that depends on it is lost at once (R38). -/
def State.portLineLost (s : State) (p : Nat) : State :=
  if s.lineSrc = 1 ∧ s.actFld LTB_SRC_CTL 13 8 = p then s.lineLoss else s

end Sys2Proof.Machine
end

