-- ==== Sys2Proof/Machine/SafCore.lean ====
section
/-! DEFINITION. What the safety blocks and the links share: the safety container, the safety events and records, the token of a redundant pair (R386, R387, R418 to R424). -/

namespace Sys2Proof.Machine

/-! ### The safety container (R418, R419, R422) -/

/-- The reflected polynomial of SCRC: 0xF4AC_FB13 reflected (R419). -/
def scrcPoly : Nat := 0xC8DF352F

/-- A container: SEQ, WD, SDATA and the SCRC over the identity, these bytes and the protected bytes. -/
def mkContainer (id seq wd sdata : Nat) (prot : List Byte) : List Byte :=
  let h := leBytes 2 seq ++ leBytes 2 wd ++ leBytes 4 sdata
  h ++ leBytes 4 (crcOf scrcPoly (leBytes 4 id ++ h ++ prot))

/-- `a` is newer than `b`: a signed 16-bit difference above 0 (R254, R422). -/
def newer16 (a b : Nat) : Bool := decide (0 < signedOf 16 (a + 65536 - b % 65536))

def contSeqOf (c : List Byte) : Nat := leNat (c.take 2)
def contWdOf (c : List Byte) : Nat := leNat ((c.drop 2).take 2)
def contDataOf (c : List Byte) : Nat := leNat ((c.drop 4).take 4)

/-- Whether a container is valid for a consumer whose last valid SEQ is `last` (R422). -/
def contOk (id : Nat) (prot : List Byte) (last : Option Nat) (wdMax : Nat) (c : List Byte) : Bool :=
  decide (c.length = 12) && decide (leNat (c.drop 8) = crcOf scrcPoly (leBytes 4 id ++ c.take 8 ++ prot)) &&
    (match last with
     | none => true
     | some l => newer16 (contSeqOf c) l) &&
    decide (1 ≤ contWdOf c) && decide (contWdOf c ≤ wdMax)

/-- WD_TX and WD_MAX (R437). -/
def State.wdTx (s : State) : Nat := s.actFld SAF0_WD_CFG 15 0
def State.wdMax (s : State) : Nat := s.actFld SAF0_WD_CFG 31 16

/-- The identities of R420. -/
def State.connId (s : State) : Nat := (s.act SAF0_CONN_ID).toNat
def State.ringId (s : State) : Nat := (s.act SAF0_RING_ID).toNat

/-- A container that has arrived: taken up when valid (R422). -/
def ContIn.take (x : ContIn) (t : Nat) (c : List Byte) : ContIn := { x with seq := some (contSeqOf c), wd := contWdOf c, at0 := t, error := false }

/-- The last valid WD has lapsed without a valid container (R422). -/
def ContIn.lapsed (x : ContIn) (t : Nat) : Bool := x.seq.isSome && decide (x.at0 + x.wd * 40000 < t)

/-! ### Safety records and events (R437, R441) -/

/-- An event of both channels' pages. -/
def State.safEvent (s : State) (bit : Nat) : State := (s.raise saf0Page bit).raise saf1Page bit

/-- Count in CNT_SAF. -/
def State.safCount (s : State) (hi lo : Nat) : State := s.count SAF0_CNT_SAF hi lo saf0Page 14

/-- LAST_ERR: kind, object, channel. -/
def State.safErr (s : State) (kind obj ch : Nat) : State := s.wr SAF0_LAST_ERR (BitVec.ofNat 32 (kind + obj % 256 * 16 + ch * 4096))

/-- SAFE on every group of a list, with the cause (R406, R411, R415). -/
def State.safeOn (s : State) (gs : List Nat) (c : SafCause) : State := s.each gs fun g st => st.safeGroup g c

/-- The guarded-axis blocks that take their fields from link `k` (R402). -/
def State.blocksOfLink (s : State) (k : Nat) : List Nat :=
  if s.safRun then (List.range 16).filter fun g => s.actBit (SAF0_GA_CFG g) 6 && !s.actBit (SAF0_GA_CFG g) 7 && s.actFld (SAF0_GA_CFG g) 12 8 == k else []

/-- A container error of link `k`: SAFE on the guarded slots of the link and on their groups (R422, R423). The pair's rule R391 does not restrain it (R428). -/
def State.containerError (s : State) (k : Nat) : State :=
  let s1 := ((s.safEvent 7).safCount 7 0).safErr 2 k 0
  s1.each (s.blocksOfLink k) fun g st =>
    let n := st.actFld (SAF0_GA_CFG g) 5 0
    (st.setExtFlt n).react n .safe (some .safe) .container

/-- The channels of `a` and `b` declare the safe position of guarded axis `g` lost: SAFE on the axis's group (R403). -/
def State.positionLost (s : State) (g : Nat) (a b : Bool) : State :=
  let s1 := ((s.raiseIf a saf0Page 8).raiseIf b saf1Page 8).safErr 3 g (if a then 0 else 1)
  s1.stoBy (s.actFld (SAF0_GA_CFG g) 15 14) a b .position

/-! ### The token of a redundant pair (R387, R394) -/

/-- ROLE values (R387). -/
def roleSingle : Nat := 0
def roleActive : Nat := 1
def roleStandby : Nat := 2
def roleOrphan : Nat := 3

/-- EPOCH. -/
def State.epoch (s : State) : Nat := s.fld XLK_XLK_STAT 15 8

/-- Take a role. -/
def State.setPairRole (s : State) (r : Nat) : State := s.wrFld XLK_XLK_STAT 4 2 r

/-- SWITCHOVER: counted, its time shown (R392, R393, R398). -/
def State.switchover (s : State) : State := ((s.wr64 XLK_SW_T_LO s.dt).raise xlkPage 2).count XLK_CNT_XLK 15 8 xlkPage 9

/-- The device takes the token: ACTIVE with EPOCH + 1 (R387, R393, R394). -/
def State.takeToken (s : State) : State := ((s.wrFld XLK_XLK_STAT 15 8 (s.epoch + 1)).setPairRole roleActive)

/-- A link's frames carry ACTIVE, and its epoch (R269). -/
def State.linkActive (s : State) (k : Nat) : Bool := !s.bit (SLK_LINK_CTL k) 1 || s.role == 1
def State.linkEpoch (s : State) (k : Nat) : Nat := if s.bit (SLK_LINK_CTL k) 1 then s.epoch else 0

/-- LINK_STAT shows them on every link. -/
def State.showActive (s : State) (k : Nat) : State := (s.wrBit (SLK_LINK_STAT k) 4 (s.linkActive k)).wrFld (SLK_LINK_STAT k) 23 16 (s.linkEpoch k)

/-- Every link shows what its frames carry (R269). -/
def State.showLinks (s : State) : State := s.each ((List.range 32).filter fun k => s.bit (SLK_LINK_CTL k) 1) fun k st => st.showActive k

/-- The device's part of the copy and of the acknowledges ends with its role. -/
def State.endSync (s : State) : State :=
  let s1 : State := { s with xlk := { s.xlk with sentFit := false, gotFit := false, token := none, copying := false, agreed := [], diverged := [], late := [], first := [] } }
  ((s1.wrBit XLK_XLK_STAT 5 false).wrFld XLK_XLK_STAT 22 16 0)

/-- The token has gone: so have the duties. -/
def State.dropDuty (s : State) : State := s.wrBit (FRB_RING_STAT 0) 3 false

/-- An ACTIVE device releases the token and becomes ORPHAN (R394). -/
def State.tokenLost (s : State) : State := (((((s.setPairRole roleOrphan).fitFalls).endSync).dropDuty).showLinks).raise xlkPage 3

end Sys2Proof.Machine
end

