-- ==== Sys2Proof/Machine/StageLink.lean ====
section
/-! DEFINITION. The stage links: states and bring-up, downlink and uplink frames byte by byte, delay measurement, messages, losses, fault injection (R238 to R273). -/

namespace Sys2Proof.Machine

def slkPage (k : Nat) : Nat := 0x200000 + k * 0x1000

/-- The link state (R243). -/
def State.linkState (s : State) (k : Nat) : Nat := s.fld (SLK_LINK_STAT k) 2 0

/-- Double-update framing in force (R258). -/
def State.isDouble (s : State) (k : Nat) : Bool := s.actBit (SLK_LINK_CTL k) 2

/-- The slot served by bridge `b`, if its place in BIND is valid (R258). -/
def State.bridgeSlot (s : State) (k b : Nat) : Option Nat :=
  if b = 0 then (if s.actBit (SLK_BIND k) 6 then some (s.actFld (SLK_BIND k) 5 0) else none)
  else if s.actBit (SLK_BIND k) 14 then some (s.actFld (SLK_BIND k) 13 8) else none

/-- The slots bound to link `k`. -/
def State.linkSlots (s : State) (k : Nat) : List Nat := (s.bridgeSlot k 0).toList ++ (s.bridgeSlot k 1).toList

/-- Two bridges in the frames: the stage reports two (R247, R258). -/
def State.twoBridges (s : State) (k : Nat) : Bool := s.fld (SLK_STAGE_CAPS k) 1 0 == 2

/-- The message segment of a downlink frame: 14 bytes with one bridge in double update, else 2 (R247). -/
def State.dlMsgLen (s : State) (k : Nat) : Nat := if s.isDouble k && !s.twoBridges k then 14 else 2

/-- Count in CNT_ERR and CNT_STG; CRC, LOST, LATE and SEQ counts raise FRAME_ERR (R271, R273). -/
def State.linkErr (s : State) (k hi lo : Nat) : State := (s.count (SLK_CNT_ERR k) hi lo (slkPage k) 14).raise (slkPage k) 5
def State.linkStg (s : State) (k hi lo : Nat) : State := s.count (SLK_CNT_STG k) hi lo (slkPage k) 14

/-! ### Messages to send (R260 to R264) -/

/-- Queue a message: IDENT_REQ of the link itself, or software's. -/
def State.queueMsg (s : State) (k : Nat) (soft : Bool) (m : List Byte) : State :=
  let x := s.link k
  s.setLink k { x with txQueue := x.txQueue ++ [(soft, m)] }

/-- IDENT_REQ: type 0x02, empty body (R264). -/
def identReqMsg : List Byte := [0x02, 0x00, 0x00, 0x00]

/-- The bytes of the receive buffer that messages hold, in units of 16 (R261, R271). -/
def Link.rxUnits (x : Link) : Nat := (x.rxMsg.length + (x.rxDone.map List.length).sum + 15) / 16

/-- Both channels restart: counters at 0, full credit, a partial message discarded; complete messages stay (R261). -/
def State.resetChannel (s : State) (k : Nat) : State :=
  let x := s.link k
  let cut := match x.txQueue with
    | (soft, _) :: _ => soft && !x.txFirst
    | [] => false
  let q := if x.txFirst then x.txQueue else x.txQueue.drop 1
  let y : Link := { x with txQueue := q, txFirst := true, txSent := 0, txCredit := 0, rxOfs := 0, rxFreed := 0, rxMsg := [], rxOpen := false, rxOld := x.rxDone.length }
  let s1 := s.setLink k y
  (if cut then s1.wrBit (SLK_MSG_TX k) 17 false else s1).wr (SLK_MSG_STAT k) (BitVec.ofNat 32 (0x80 + y.rxUnits % 256 * 256))

/-- The bytes that may still be sent (R261). -/
def Link.room (x : Link) : Nat := 2048 - (x.txSent - 16 * x.txCredit)

/-- The segment of the next frame, at most `n` bytes: MLEN with its flags and the bytes. -/
def Link.segment (x : Link) (n : Nat) : Nat × List Byte :=
  match x.txQueue with
  | [] => (0, [])
  | (_, m) :: _ =>
    let seg := m.take (min n x.room)
    if seg = [] then (0, []) else (seg.length + (if x.txFirst then 32 else 0) + (if seg.length = m.length then 64 else 0), seg)

/-- The segment has left; with the last one of a software message BUSY ends and MSG_TX_DONE is raised (R263). -/
def State.segmentSent (s : State) (k n : Nat) : State :=
  let x := s.link k
  if n = 0 then s
  else
    match x.txQueue with
    | [] => s
    | (soft, m) :: t =>
      let rest := m.drop n
      let s1 := s.setLink k { x with
        txSent := x.txSent + n
        txFirst := decide (rest = [])
        txQueue := (if rest = [] then t else (soft, rest) :: t) }
      let s2 := s1.wrFld (SLK_MSG_STAT k) 7 0 ((s1.link k).room / 16)
      if rest = [] ∧ soft = true then (s2.wrBit (SLK_MSG_TX k) 17 false).raise (slkPage k) 8 else s2

/-! ### Link states (R243) -/

/-- Enter a link state: UP and UP_LOST, the entry actions of ALIGN and UP; the channel is reset on entry to ALIGN and, as every frame of a link that is not UP carries MRST, on leaving UP (R243, R261, R264). -/
def State.setLinkState (s : State) (k st : Nat) : State :=
  let old := s.linkState k
  if old = st then s
  else
    let s1 := (s.wrFld (SLK_LINK_STAT k) 2 0 st).wrFld (slkPage k + 8) 3 0 st
    let s1' := if st = 2 ∨ old = 4 then s1.resetChannel k else s1
    let s2 := if st = 2 then (s1'.setLink k { s1'.link k with delays := [] }).wr (SLK_DELAY k) 0xFFFF else s1'
    let s3 := if st = 4 then ((s2.wrBit (SLK_LINK_STAT k) 7 false).queueMsg k false identReqMsg).raise (slkPage k) 0 else s2
    s3.raiseIf (old == 4) (slkPage k) 1

/-- A write of LINK_CTL: EN starts or silences the link; LOSS_LIM and POS_LIM 0 store 1; DOUBLE goes to the shadow (R243, R258, R265, R272). -/
def State.linkCtlWrite (s : State) (k : Nat) (v : W32) : State :=
  let v0 := v &&& 0xFF07
  let v1 := if fldOf v0 11 8 = 0 then withFld v0 11 8 1 else v0
  let v2 := if fldOf v1 15 12 = 0 then withFld v1 15 12 1 else v1
  let s1 := (s.wr (SLK_LINK_CTL k) v2).showActive k
  let s2 := s1.when (v2 != v0) fun st => st.err (slkPage k) .clamped 0x040
  if !bitOf v 0 then
    let s3 := s2.setLinkState k 0
    let x := s3.link k
    s3.setLink k { Link.reset with dlSeq := x.dlSeq, contSeq := x.contSeq, posA := x.posA, lastDl := x.lastDl, txQueue := x.txQueue, rxDone := x.rxDone, rxOld := x.rxOld }
  else if s2.linkState k = 0 then s2.setLinkState k 1
  else s2

/-- Code-group sync is acquired (R239, R241). -/
def State.syncAcquired (s : State) (k : Nat) (inv : Bool) : State :=
  if s.linkState k = 1 then (s.wrBit (SLK_LINK_STAT k) 3 inv).setLinkState k 2 else s

/-- Sync is lost: the link keeps its frame schedule (R241, R243). -/
def State.linkSyncLost (s : State) (k : Nat) : State :=
  if 2 ≤ s.linkState k then
    let s1 := s.setLinkState k 1
    s1.setLink k { s1.link k with schedule := true }
  else s

/-- LINK_CMD.RETRAIN (R243). -/
def State.linkRetrain (s : State) (k : Nat) : State :=
  if 2 ≤ s.linkState k then
    let s1 := s.setLinkState k 1
    s1.setLink k { s1.link k with schedule := false, waiting := [] }
  else s

/-! ### Downlink frames (R245 to R249, R259) -/

/-- The sample period of the link: that of its bridge-0 slot (R259). -/
def State.linkPeriod (s : State) (k : Nat) : Nat := match s.bridgeSlot k 0 with
  | none => 0
  | some n => s.sampleTicks n

/-- The last sample instant of the link. -/
def State.linkSample (s : State) (k : Nat) : Nat := match s.bridgeSlot k 0 with
  | none => s.dt
  | some n => (s.servo n).sampleT.getD s.dt

/-- The apply instant of the link: the later of those of its live slots (R259). -/
def State.linkApply (s : State) (k : Nat) : Nat :=
  let live := (s.linkSlots k).filter fun n => s.linkLive n
  s.linkSample k + (if live = [] then s.linkPeriod k / 4 else live.foldl (fun m n => max m (s.applyOfs n)) 0)

/-- The instant at which the next downlink frame leaves: 0.05 µs after the apply instant, and half a period later for the second frame of double-update framing (R259). -/
def State.dlInstant (s : State) (k : Nat) : Nat :=
  s.linkApply k + 200 + (if s.isDouble k && (s.link k).second then s.linkPeriod k / 2 else 0)

/-- A frame is due: its instant has come and the frame of this sample and half has not left; a link whose bridge-0 slot has had no sample instant yet has no schedule to keep (R259). -/
def State.dlDue (s : State) (k : Nat) : Bool :=
  match (s.bridgeSlot k 0).bind fun n => (s.servo n).sampleT with
  | none => true
  | some t => decide (s.dlInstant k ≤ s.dt) && (s.link k).sentFor != some (t, s.isDouble k && (s.link k).second)

/-- The smallest SH for which an interval is shorter than 65,535 units (R248). -/
def shOf (t : Nat) : Nat := if t < 65535 then 0 else if t < 2 * 65535 then 1 else if t < 4 * 65535 then 2 else 3

/-- An edge word: an offset in units of 2^SH ticks (R248). -/
def edgeWord (sh : Nat) (t : Int) : List Byte := leBytes 2 (min 65534 ((max 0 t).toNat / 2 ^ sh))

/-- The two edge words of one phase in one half, the half beginning `ofs` ticks after T_BASE (R171, R248). -/
def phaseEdges (sh : Nat) (second : Bool) (d : Nat) (th dead ofs : Int) : List Byte :=
  if d = 0 ∨ one32 ≤ (d : Int) then leBytes 4 0xFFFFFFFF
  else
    let t := (if second then (d : Int) else one32 - d) * th / one32 + ofs
    if second then edgeWord sh t ++ edgeWord sh (t + dead) else edgeWord sh (t - dead) ++ edgeWord sh t

/-- The edge block of bridge `b` for one half; all words are 0xFFFF while its slot has no switching on (R249). -/
def State.edgeBlock (s : State) (k b sh : Nat) (second : Bool) (ofs : Int) : List Byte :=
  match s.bridgeSlot k b with
  | none => leBytes 12 (2 ^ 96 - 1)
  | some n =>
    let d := ((s.servo n).sent.drop (if second then 3 else 0)).take 3
    if !(s.axis n).pwm ∨ s.linkState k ≠ 4 ∨ d.length < 3 then leBytes 12 (2 ^ 96 - 1)
    else d.flatMap fun x => phaseEdges sh second x (s.sampleTicks n / 2 : Nat) ((s.act (AXL_DT_STAGE n)).toNat : Int) ofs

/-- TOFFb: the link is not UP, or the slot of bridge `b` has no switching on (R243, R249). -/
def State.toff (s : State) (k b : Nat) : Bool :=
  s.linkState k != 4 || (match s.bridgeSlot k b with
    | none => true
    | some n => !(s.axis n).pwm)

/-- SDATA of the downlink container (R411, R420). -/
def State.dlSdata (s : State) (k : Nat) : Nat :=
  let gs (b : Nat) : List Nat := match s.bridgeSlot k b with
    | none => []
    | some n => s.groupsOf n
  let dem (b : Nat) : Bool := (gs b).any fun g => (s.group g).off
  let flt := (gs 0 ++ gs 1).any fun g => (s.group g).off && (s.group g).faulted
  (if dem 0 then 1 else 0) + (if dem 1 then 2 else 0) + (if flt then 4 else 0)

/-- The 62 data bytes of the next downlink frame (R247). -/
def State.dlFrame (s : State) (k : Nat) : List Byte :=
  let x := s.link k
  let dbl := s.isDouble k
  let nb2 := s.twoBridges k
  let t := s.linkPeriod k
  let half := dbl && x.second
  let base := s.linkSample k + (if dbl && !x.second then t / 2 else t)
  let sh := shOf (if dbl then t / 2 else t)
  let hdr := 1 + (if s.linkActive k then 16 else 0) + (if half then 32 else 0) + (if dbl then 64 else 0) + (if nb2 then 128 else 0)
  let cmd := (if s.toff k 0 then 1 else 0) + (if s.toff k 1 then 2 else 0) + (if x.clear then 4 else 0) + sh * 8 + (if s.linkState k = 4 then 0 else 32)
  let blocks :=
    if dbl then s.edgeBlock k 0 sh half 0 ++ (if nb2 then s.edgeBlock k 1 sh half 0 else [])
    else s.edgeBlock k 0 sh false 0 ++ s.edgeBlock k 0 sh true (t / 2 : Nat)
  let n := s.dlMsgLen k
  let (mlen, seg) := if s.linkState k = 4 then x.segment n else (0, [])
  let body := leBytes 1 hdr ++ leBytes 2 x.dlSeq ++ leBytes 4 s.dt ++ leBytes 2 (s.fld (SLK_DELAY k) 15 0) ++ leBytes 1 (s.linkEpoch k) ++ leBytes 1 cmd ++
    leBytes 4 base ++ blocks ++ leBytes 2 0 ++ leBytes 1 mlen ++ leBytes 1 x.txSent ++ leBytes 1 (x.rxFreed / 16) ++ (seg ++ List.replicate n 0).take n ++
    mkContainer (s.connId ^^^ (0x01000000 + k)) (x.contSeq + 1) s.wdTx (s.dlSdata k) []
  body ++ leBytes 4 (crc32 body)

/-! ### Fault injection (R270) -/

/-- One frame passes the injector of link `k`: whether it is affected; the counters move, and after COUNT frames ARM reads 0 and INJ_DONE is raised. MODE 0 affects none. -/
def State.injFrame (s : State) (k : Nat) : Bool × State :=
  let x := s.link k
  let ctl := slkPage k + 0x02C
  if !s.bit ctl 31 ∨ s.fld ctl 2 0 = 0 then (false, s)
  else if 0 < x.injSkip then (false, s.setLink k { x with injSkip := x.injSkip - 1 })
  else
    let s1 := (s.setLink k { x with injLeft := x.injLeft - 1 }).wrapUp (SLK_INJ_CNT k) 15 0
    (true, if x.injLeft ≤ 1 then (s1.wrBit ctl 31 false).raise (slkPage k) 11 else s1)

/-- What the injector makes of an affected frame: what goes on now, and the frame held back with the instant that ends its delay (0 for SWAP, which the next frame ends). -/
def State.injApply (s : State) (k : Nat) (f : List Byte) : List (List Byte) × Option (Nat × List Byte) :=
  let v := s.rd (slkPage k + 0x02C)
  match fldOf v 2 0 with
  | 1 => ([], none)
  | 2 =>
    let g := corruptAt (s.fld (SLK_INJ_ARG k) 15 8) (s.fld (SLK_INJ_ARG k) 7 0) f
    ([if bitOf v 4 && !bitOf v 3 then reCrc g else g], none)
  | 3 => ([], some (0, f))
  | 4 => ([], some (s.dt + s.fld (SLK_INJ_DLY k) 23 0, f))
  | _ => ([f], none)

/-- A frame goes through the injector in the direction `dir` (false down): the frames that go on, in order, each with whether it was held back, which keeps it out of the delay measurement. A frame held by SWAP follows the next one. -/
def State.inject (s : State) (k : Nat) (dir : Bool) (f : List Byte) : List (List Byte × Bool) × State :=
  let x := s.link k
  if s.bit (slkPage k + 0x02C) 3 != dir then ([(f, false)], s)
  else
    match x.injHeld.find? fun e => e.1 == 0 with
    | some (_, g) => ([(f, false), (g, true)], s.setLink k { x with injHeld := x.injHeld.filter fun e => e.1 != 0 })
    | none =>
      let (hit, s1) := s.injFrame k
      if hit then
        let (out, held) := s1.injApply k f
        (out.map fun g => (g, false), s1.setLink k { s1.link k with injHeld := x.injHeld ++ held.toList })
      else ([(f, false)], s1)

/-- A frame may not be corrupted past its last byte: BYTE runs to 77 (R270). -/
def injArgBad (v : W32) : Bool := decide (77 < fldOf v 15 8)

/-- INJ_CTL: refused for MODE 5 to 7 and for BYTE above 77, ignored while the page is locked; ARM starts it (R270). -/
def State.slkInjArm (s : State) (k : Nat) (v : W32) : State :=
  if s.bit (slkPage k + 4) 2 then s.err (slkPage k) .locked 0x02C
  else if 5 ≤ fldOf v 2 0 ∨ injArgBad (s.rd (SLK_INJ_ARG k)) = true then s.err (slkPage k) .value 0x02C
  else
    let c := max 1 (fldOf v 23 16)
    let s1 := s.wr (slkPage k + 0x02C) (withFld (v &&& 0x80FFFF1F) 23 16 c)
    if bitOf v 31 then s1.setLink k { s1.link k with injSkip := fldOf v 15 8, injLeft := c } else s1

/-! ### Sending (R259) -/

/-- Whether frames leave on schedule: ALIGN, TIME, UP, or DOWN by loss of sync (R243). -/
def State.sends (s : State) (k : Nat) : Bool := decide (2 ≤ s.linkState k) || (decide (s.linkState k = 1) && (s.link k).schedule)

/-- After the token was taken at a crosslink loss: the half of the last frame is sent again if its interval starts at least 0.5 µs later, else the next one is due early (R393). -/
def State.resendHalf (s : State) (k : Nat) : State :=
  let x := s.link k
  let t := s.linkPeriod k
  let s1 := s.setLink k { x with resend := false, sentFor := none }
  match x.sentFor with
  | some (t0, h) =>
    let base := t0 + (if s.isDouble k && !h then t / 2 else t)
    if t0 = s.linkSample k ∧ s.dt + 2000 ≤ base then s1.setLink k { s1.link k with second := h } else s1
  | none => s1

/-- A downlink frame leaves: the commanded sample instant, the container, the segment, CLR and the half advance (R245, R249, R259, R263). -/
def State.dlFrameSend (s0 : State) (k : Nat) : State :=
  if !(s0.sends k && (s0.dlDue k || (s0.link k).resend)) then s0
  else
    let s := if (s0.link k).resend then s0.resendHalf k else s0
    let x := s.link k
    let f := s.dlFrame k
    let dbl := s.isDouble k
    let n := if s.linkState k = 4 then (x.segment (s.dlMsgLen k)).2.length else 0
    let t := s.linkPeriod k
    let mid := dbl && !x.second
    let base := s.linkSample k + (if mid then t / 2 else t)
    let (out, s2) := s.inject k false f
    let s1 := s2.setLink k { s2.link k with
      dlSeq := (x.dlSeq + 1) % 65536
      contSeq := (x.contSeq + 1) % 65536
      clear := false
      second := dbl && !x.second
      waiting := x.waiting ++ [(x.dlSeq % 256, base, mid)]
      sentFor := some (s.linkSample k, dbl && x.second)
      sent := (if out.any (fun e => e.1 == f && !e.2) then ((x.dlSeq % 256, s.dt) :: x.sent).take 16 else x.sent)
      lastDl := ((out.getLast?).map Prod.fst).getD [] }
    ((s1.wrapUp (SLK_CNT_FRM k) 31 16).segmentSent k n).showActive k

/-! ### Uplink frames (R250 to R254) -/

/-- CRC-8 of R251: `poly` without reflection, initial value and final XOR 0xFF. -/
def crc8Bit (poly c : Nat) : Nat := if 128 ≤ c then (c * 2 % 256) ^^^ poly else c * 2 % 256
def crc8 (poly : Nat) (l : List Byte) : Nat :=
  (l.foldl (fun c b =>
    let x := c ^^^ b.toNat
    crc8Bit poly (crc8Bit poly (crc8Bit poly (crc8Bit poly (crc8Bit poly (crc8Bit poly (crc8Bit poly (crc8Bit poly x)))))))) 0xFF) ^^^ 0xFF

/-- A position field passes its CRC and is VALID (R251, R403). -/
def fieldOk (poly : Nat) (f : List Byte) : Bool :=
  decide (f.length = 6) && decide ((f.getD 5 0).toNat = crc8 poly (f.take 5)) && (f.getD 4 0).getLsbD 0
def fieldPos (f : List Byte) : Nat := leNat (f.take 4)

/-- The offsets of a frame with one or two bridges (R250). -/
def ulTail (nb2 : Bool) : Nat := if nb2 then 53 else 33

def cutAt (l : List Byte) (o n : Nat) : List Byte := (l.drop o).take n

/-- Field `f` (0 for A, 1 for B) of bridge `b` in an uplink frame (R250). -/
def ulPos (nb2 : Bool) (d : List Byte) (b f : Nat) : List Byte := cutAt d ((if nb2 then 29 else 21) + 12 * b + 6 * f) 6

/-- One count of a position field in units of 2^-64 turns, where the identity has given POS_F; before it, the count itself. -/
def posUnit (posF : Nat) : Int := if posF = 0 then 1 else 2 ^ (64 - posF)

/-- A field A of the sample at `t` has arrived (R251, R265): a valid reading extends the position by its signed difference from the previous valid one. The answer is the new field and whether it was valid. -/
def PosField.take (x : PosField) (f : List Byte) (posF t : Nat) : PosField × Bool :=
  if fieldOk 0x2F f then
    let r := fieldPos f
    let unit := posUnit posF
    let was := if x.scaled then x.pos else x.pos * unit
    let p := match x.raw with
      | none => (r : Int) * unit
      | some o => was + signedOf 32 (r + 2 ^ 32 - o) * unit
    ({ raw := some r, seenAt := t, pos := p, scaled := x.scaled || posF != 0, fails := 0, wait := false }, true)
  else ({ x with fails := x.fails + 1 }, false)

/-- The position at `t`: of the last valid reading or, `v` being the velocity, as the stock programs extrapolate it (R265). -/
def PosField.at (x : PosField) (v : Int) (t : Nat) : Int := x.pos + v * one32 * ((t : Int) - x.seenAt) / 4000000000

/-- The field of bridge `b` of a link. -/
def Link.posOf (x : Link) (b : Nat) : PosField := if b = 0 then x.posA.1 else x.posA.2
def Link.setPos (x : Link) (b : Nat) (p : PosField) : Link := { x with posA := if b = 0 then (p, x.posA.2) else (x.posA.1, p) }

/-- A fault source of a link stands for slot `n`: its cause is not yet among those of the slot, and the slot is not OFF (R28, R265). -/
def State.lacksCause (s : State) (n : Nat) (c : FaultCause) : Bool := (s.axis n).st != .off && !(s.axis n).causes.contains c

/-- Field A of bridge `b` at sample instant `t`: the position of its slot, or POS_INVALID and, in POS_LIM consecutive frames or more, its fault (R251, R265), which a line from the slot shares (R38). A slot with a feedback port takes its position from the port (R337). -/
def State.takeField (s : State) (k b t : Nat) (valley : Bool) (f : List Byte) : State :=
  match s.bridgeSlot k b with
  | none => s
  | some n =>
    let x := s.link k
    let (p, ok) := (x.posOf b).take f (s.fld (SLK_STAGE_CAPS k) 13 8) t
    let own := (s.portOfSlot n).isNone && !s.isStep n
    let lost := !ok && decide (max 1 (s.fld (SLK_LINK_CTL k) 15 12) ≤ p.fails)
    let first := lost && !p.wait
    let s1 := s.setLink k (x.setPos b { p with wait := p.wait || lost })
    let s2 := if ok then s1 else (s1.linkStg k 7 0).raise (slkPage k) 4
    let s3 := s2.when (lost && (first || s2.lacksCause n .stagePos)) fun st => st.faultFrom n .torqueOff (some .stagePos)
    let s4 := s3.when (first && own) fun st => st.slotPosLost n
    if valley && own && p.scaled then s4.takeActual n t (p.at (s.servo n).vAct t) else s4

/-- The trips of a new STAT word: the latch, the event, the faults of the slots concerned, a standing trip's too for a slot that has left OFF since (R252, R265). -/
def State.takeTrips (s : State) (k stat : Nat) : State :=
  let old := s.fld (SLK_STAGE_STAT k) 8 0
  let now := stat % 512
  let new := now &&& (511 - old)
  let s1 := (s.wrFld (SLK_TRIP_LATCH k) 8 0 (s.fld (SLK_TRIP_LATCH k) 8 0 ||| now)).raiseIf (new != 0) (slkPage k) 3
  let hit (w b : Nat) : Bool := w &&& (0x1F0 + (if b = 0 then 3 else 12)) != 0
  s1.each [0, 1] fun b st =>
    match st.bridgeSlot k b with
    | none => st
    | some n => st.when (hit new b || (hit now b && st.lacksCause n .stageTrip)) fun u => u.faultFrom n .torqueOff (some .stageTrip)

/-- STAT of an accepted frame (R252, R273). -/
def State.takeStat (s : State) (k stat : Nat) : State :=
  let was := s.fld (SLK_STAGE_STAT k) 15 0
  let s1 := (s.takeTrips k stat).wrFld (SLK_STAGE_STAT k) 15 0 stat
  let tl := stat / 4096 % 2 = 1
  let s2 := s1.raiseIf (was / 4096 % 2 == 1 && !decide tl && s.linkState k == 4) (slkPage k) 6
  let s3 := s2.wrBit (SLK_LINK_STAT k) 6 (decide tl)
  let s4 := if stat / 8192 % 2 = 1 then s3.linkStg k 15 8 else s3
  if stat / 2048 % 2 = 1 ∧ was / 2048 % 2 = 0 then (s4.linkStg k 23 16).raise (slkPage k) 13 else s4

/-- A delay measurement (R245). -/
def State.delayMeasure (s : State) (k ack resid t4 : Nat) : State :=
  let x := s.link k
  match x.sent.find? fun e => e.1 == ack with
  | none => s
  | some (_, t1) =>
    let round := signedOf 32 (t4 + 2 ^ 32 - t1 % 2 ^ 32) - resid
    let d := round + 2 * signedOf 16 (s.fld (SLK_DELAY_ASYM k) 15 0)
    let l := (d :: x.delays).take 16
    let s1 := (s.setLink k { x with delays := l }).wr (SLK_RTT k) (BitVec.ofNat 32 (wrapTo 24 round))
    if l.length < 16 then s1
    else
      let m := rdiv l.sum 32
      if 65534 < m ∨ m < 0 then (s1.wrFld (SLK_DELAY k) 15 0 0xFFFF).err (slkPage k) .value 0x050
      else s1.wrFld (SLK_DELAY k) 15 0 m.toNat

/-- An accepted IDENTITY, or one refused (R264); a changed POS_F loses the positions of the blocks it serves (R402). -/
def State.takeIdentity (s : State) (k : Nat) (m : List Byte) : State :=
  let b := m.drop 4
  let caps := (b.getD 6 0).toNat
  let posF := (b.getD 7 0).toNat
  let ifs := leNat (cutAt b 8 4)
  let vfs := leNat (cutAt b 12 4)
  let nb := caps % 4
  let bad := decide (nb = 0) || decide (nb = 3) || (decide (caps / 4 % 2 = 1) && decide (nb = 2)) || decide (posF < 16) || decide (32 < posF) || decide (ifs = 0) || decide (vfs = 0) ||
    decide (b.length < 16)
  if bad then ((s.wrBit (SLK_LINK_STAT k) 7 false).err (slkPage k) .value 0x088).raise (slkPage k) 10
  else
    let w := caps % 32 + posF % 64 * 2 ^ 8 + leNat (cutAt b 4 2) * 2 ^ 16
    let s1 := (((s.wr (SLK_STAGE_ID k) (BitVec.ofNat 32 (leNat (b.take 4)))).wr (SLK_STAGE_CAPS k) (BitVec.ofNat 32 w)).wr (SLK_STAGE_IFS k) (BitVec.ofNat 32 ifs)).wr
      (SLK_STAGE_VFS k) (BitVec.ofNat 32 vfs)
    let s2 := (s1.wrBit (SLK_LINK_STAT k) 7 true).raise (slkPage k) 10
    s2.each (s.blocksOfLink k) fun g st =>
      if (st.act (SAF0_CPT_A g)).toNat = 2 ^ posF then st else st.positionLost g true true

/-- Bytes of the receive buffer are freed; MSG_STAT shows the units in use (R261). -/
def State.rxFree (s : State) (k n : Nat) : State :=
  let x := s.link k
  (s.setLink k { x with rxFreed := x.rxFreed + n }).wrFld (SLK_MSG_STAT k) 15 8 x.rxUnits

/-- A complete message: IDENTITY and IDENT_REQ are consumed, any other waits for the silo (R263, R264). -/
def State.rxComplete (s : State) (k : Nat) : State :=
  let x := s.link k
  let m := x.rxMsg
  let own := m.getD 0 0 == 0x01 || m.getD 0 0 == 0x02
  let s1 := s.setLink k { x with rxMsg := [], rxOpen := false, rxDone := (if own then x.rxDone else x.rxDone ++ [m]) }
  if own then (s1.when (m.getD 0 0 == 0x01) fun st => st.takeIdentity k m).rxFree k m.length else s1.rxFree k 0

/-- The segment of an uplink frame (R261, R262). -/
def State.rxSegment (s : State) (k mlen mofs : Nat) (bytes : List Byte) : State :=
  let x := s.link k
  let lost := (mofs + 256 - x.rxOfs % 256) % 256
  let s1 := if lost = 0 then s
    else
      let s0 := s.setLink k { x with rxOfs := x.rxOfs + lost, rxMsg := [], rxOpen := false }
      ((s0.rxFree k (lost + x.rxMsg.length)).linkStg k 31 24).raise (slkPage k) 9
  let n := mlen % 32
  let seg := bytes.take n
  if seg = [] then s1
  else
    let y := s1.link k
    let start := mlen / 32 % 2 = 1
    if !y.rxOpen ∧ ¬ start then (s1.setLink k { y with rxOfs := y.rxOfs + seg.length }).rxFree k seg.length
    else
      let s2 := s1.setLink k { y with rxOfs := y.rxOfs + seg.length, rxOpen := true, rxMsg := (if start then seg else y.rxMsg ++ seg) }
      if mlen / 64 % 2 = 1 then s2.rxComplete k else s2.rxFree k 0

/-- The uplink container of a link that serves guarded slots (R422, R423). -/
def State.takeContainer (s : State) (k : Nat) (prot c : List Byte) : State :=
  let x := s.link k
  if s.blocksOfLink k = [] then s
  else if contOk (s.connId ^^^ (0x02000000 + k)) prot x.cont.seq s.wdMax c then s.setLink k { x with cont := x.cont.take s.dt c }
  else (s.setLink k { x with cont := { x.cont with error := true } }).containerError k

/-- Whether the runs of the link's slots become ready (R227). -/
def State.runsReady (s : State) (k : Nat) : State :=
  s.each (s.linkSlots k) fun n st =>
    let x := st.servo n
    if x.sampleT.isSome && !x.started then st.setServo n { x with ready := true } else st

/-- FOLLOW, DUAL and the token (R269, R394). -/
def State.takeFollow (s : State) (k : Nat) (follow dual : Bool) : State :=
  let s1 := (s.wrBit (SLK_LINK_STAT k) 5 follow).wrBit (SLK_LINK_STAT k) 8 dual
  let s2 := s1.raiseIf dual (slkPage k) 12
  let x := s2.link k
  let n := if follow then 0 else x.unfollowed + 1
  let s3 := s2.setLink k { x with unfollowed := n }
  if s.bit (SLK_LINK_CTL k) 1 ∧ s.role = 1 ∧ n = 4 then s3.tokenLost else s3

/-- The words of a frame's sample blocks. -/
def blockWords (l : List Byte) (n : Nat) : List Int := (List.range n).map fun i => signedOf 16 (leNat (cutAt l (2 * i) 2))

/-- TIME to UP: DELAY valid and TLOCK (R243). -/
def State.linkAdvance (s : State) (k : Nat) : State :=
  if s.linkState k = 3 ∧ s.fld (SLK_DELAY k) 15 0 ≠ 0xFFFF ∧ s.bit (SLK_LINK_STAT k) 6 = true then s.setLinkState k 4 else s

/-- A valid frame, accepted or not: ALIGN to TIME, and a delay measurement unless it was held back or RESID is above range (R243, R245). -/
def State.ulValid (s : State) (k t4 : Nat) (measured : Bool) (d : List Byte) : State :=
  let s1 := if s.linkState k = 2 then s.setLinkState k 3 else s
  let resid := leNat (cutAt d 4 3)
  s1.when (measured && resid != 0xFFFFFF) fun st => st.delayMeasure k (d.getD 3 0).toNat resid t4

/-- The commanded sample an accepted frame belongs to, the one it acknowledges or else the oldest: its instant, whether it is the mid-period sample (R249, R255). -/
def State.ulInstant (s : State) (k : Nat) (d : List Byte) : Nat × Bool :=
  let l := (s.link k).waiting
  match (l.find? fun w => w.1 == (d.getD 3 0).toNat).orElse fun _ => l.head? with
  | none => (s.dt, false)
  | some (_, t, m) => (t, m)

/-- What an accepted frame leaves in the link and its counters: the sequence, the sample blocks, the credit returned, the bus voltage and the temperature (R250 to R255, R261). -/
def State.ulTaken (s : State) (k : Nat) (d : List Byte) : State :=
  let nb2 := (d.getD 0 0).toNat / 32 % 2 = 1
  let x := s.link k
  let ack := (d.getD 3 0).toNat
  let mid := (s.ulInstant k d).2
  let at_ := (s.ulInstant k d).1
  let late := !mid && decide (s.linkApply k < s.dt)
  let nb := if nb2 then 2 else 1
  let words := blockWords (d.drop 13) (4 * nb)
  let s1 := s.setLink k { x with
    ulSeq := some (leNat (cutAt d 1 2))
    waiting := (match x.waiting.findIdx? fun w => w.1 == ack with
      | some i => x.waiting.drop (i + 1)
      | none => x.waiting.drop 1)
    fields := (List.range nb).flatMap fun b => [ulPos nb2 d b 0, ulPos nb2 d b 1]
    fresh := true
    lossHit := false
    mid := (if mid then ((at_, words) :: x.mid).take 2 else x.mid)
    valley := (if mid then x.valley else words)
    blocks := words
    txCredit := (if s.linkState k = 4 then x.txCredit + ((d.getD (ulTail nb2 + 2) 0).toNat + 256 - x.txCredit % 256) % 256 else x.txCredit) }
  let s1 := s1.when (s.linkState k == 4) fun st => st.wrFld (SLK_MSG_STAT k) 7 0 ((st.link k).room / 16)
  let s2 := ((s1.wrapUp (SLK_CNT_FRM k) 15 0).wrFld (SLK_LINK_STAT k) 27 24 0).when late fun st => st.linkErr k 23 16
  (s2.wr (SLK_VBUS k) (BitVec.ofNat 32 (leNat (cutAt d 7 2) * (s.rd (SLK_STAGE_VFS k)).toNat / 1000))).wrFld (SLK_TEMP k) 15 0 (leNat (cutAt d 9 2))

/-- The uplink data go to the link area of every LPU that carries a slot of the link (R205, R259). Where in the area a frame stands the spec does not say: its offset is a free value (log 8). -/
def State.linkArea (s : State) (k : Nat) (d : List Byte) : State :=
  s.each (s.linkSlots k) fun n st =>
    match st.lpuOf n with
    | none => st
    | some (i, _) =>
      let (f, s1) := st.nextFree
      s1.putBytes (lpuMem i + 0x8000 + (Config.freeWord f).toNat % (0x1000 - 78)) (d.take 78)

/-- What the units behind the link do with an accepted frame of the sample at `t`: the link area, status, follow bit, positions, container, message segment unless MRST is set, the link's advance, and the runs that now have all their inputs (R251, R257, R259, R261 to R265). -/
def State.ulFurther (s : State) (k : Nat) (mid : Bool) (t : Nat) (d : List Byte) : State :=
  let hdr := (d.getD 0 0).toNat
  let nb2 := hdr / 32 % 2 = 1
  let o := ulTail nb2
  let nb := if nb2 then 2 else 1
  let s4 := (s.linkArea k d).takeStat k (leNat (cutAt d 11 2))
  let s5 := s4.takeFollow k (decide (hdr / 16 % 2 = 1)) (decide (hdr / 128 % 2 = 1))
  let s7 := s5.each (List.range nb) fun b st => st.takeField k b t (!mid) (ulPos nb2 d b 0)
  let s8 := s7.takeContainer k ((List.range nb).flatMap fun b => ulPos nb2 d b 1) (cutAt d (if nb2 then 62 else 46) 12)
  let s9 := s8.when (s8.linkState k == 4) fun st => st.rxSegment k (d.getD o 0).toNat (d.getD (o + 1) 0).toNat (cutAt d (o + 3) (if nb2 then 6 else 10))
  let s10 := s9.linkAdvance k
  if mid then s10 else s10.runsReady k

/-- An accepted frame: everything it carries is taken (R245, R250 to R255, R262 to R265). -/
def State.ulAccept (s : State) (k : Nat) (d : List Byte) : State :=
  (s.ulTaken k d).ulFurther k (s.ulInstant k d).2 (s.ulInstant k d).1 d

/-- An uplink frame whose checks begin: length, layout, CRC, then sequence (R242, R253, R254). -/
def State.ulCheck (s : State) (k t4 : Nat) (measured : Bool) (d : List Byte) : State :=
  let nb2 := (d.getD 0 0).toNat / 32 % 2 = 1
  let len := if nb2 then 78 else 62
  if s.linkState k < 2 ∨ d.length ≠ len ∨ (d.getD 0 0).toNat % 16 ≠ 1 then s
  else if leNat (d.drop (len - 4)) ≠ crc32 (d.take (len - 4)) then s.linkErr k 7 0
  else
    let s1 := s.ulValid k t4 measured d
    match (s1.link k).ulSeq with
    | none => s1.ulAccept k d
    | some l => if newer16 (leNat (cutAt d 1 2)) l then s1.ulAccept k d else (s1.linkErr k 31 24).linkAdvance k

/-- UL_FRAME_RECEIVED: the frame's data bytes, and the low 32 bits of the device time of its SOF at the ball (R254). -/
def State.ulFrameReceived (s : State) (k t4 : Nat) (d : List Byte) : State :=
  let (out, s1) := s.inject k true d
  s1.each out fun f st => st.ulCheck k t4 (!f.2) f.1

/-- Frames held by DELAY that have waited their time go on (R270). -/
def State.linkTick (s : State) : State :=
  s.each (List.range 32) fun k st =>
    let due := (st.link k).injHeld.filter fun e => e.1 != 0 && decide (e.1 ≤ st.dt)
    if due = [] then st
    else
      let s1 := st.setLink k { st.link k with injHeld := (st.link k).injHeld.filter fun e => !due.contains e }
      s1.each due fun e u => if u.bit (slkPage k + 0x02C) 3 then u.ulCheck k 0 false e.2 else u.setLink k { u.link k with lastDl := e.2 }

/-- An expected uplink frame is missing at the next commanded sample instant: MISS_RUN, and the frame-loss fault at LOSS_LIM (R255, R265). -/
def State.ulFrameMissing (s : State) (k : Nat) : State :=
  let x := s.link k
  match x.waiting with
  | _ :: (b, t, m) :: rest =>
    if s.dt < t then s
    else
      let s1 := s.setLink k { x with waiting := (b, t, m) :: rest }
      let run := s.fld (SLK_LINK_STAT k) 27 24 + 1
      let s2 := (s1.wrFld (SLK_LINK_STAT k) 27 24 (min 15 run)).linkErr k 15 8
      if max 1 (s.fld (SLK_LINK_CTL k) 11 8) ≤ run ∧ x.lossHit = false then
        let s3 := (s2.setLink k { s2.link k with lossHit := true }).raise (slkPage k) 2
        let s4 := s3.each (s.linkSlots k) fun n st => st.faultFrom n .torqueOff (some .frameLoss)
        if 3 ≤ s4.linkState k then s4.setLinkState k 2 else s4
      else s2
  | _ => s

/-! ### Commands -/

/-- MSG_TX with SEND (R263). -/
def State.slkMsgSend (s : State) (k len : Nat) : State :=
  if s.bit (SLK_MSG_TX k) 17 then s.err (slkPage k) .busy 0x098
  else if len < 4 ∨ 512 < len then s.err (slkPage k) .value 0x098
  else
    let bytes := (List.range len).map fun i => BitVec.ofNat 8 ((s.rd (SLK_MSG_TX_BUF k (i / 4))).toNat / 256 ^ (i % 4))
    ((s.wrFld (SLK_MSG_TX k) 9 0 len).wrBit (SLK_MSG_TX k) 17 true).queueMsg k true bytes

/-- The 32-byte silo entries of a message: four bytes of source and length, 28 bytes, then 32 bytes each (R263). -/
def msgEntries : Nat → List Byte → List (List W32)
  | 0, _ => []
  | f + 1, l =>
    let e := (l ++ List.replicate 32 0).take 32
    let ws := (List.range 8).map fun i => BitVec.ofNat 32 (leNat (cutAt e (4 * i) 4))
    ws :: (if l.length ≤ 32 then [] else msgEntries f (l.drop 32))

/-- Push a message to a message silo, if it has room for the whole of it (R263, R383). -/
def State.pushMsg (s : State) (silo b0 b1 : Nat) (m : List Byte) : Option State :=
  let es := msgEntries 17 (leBytes 1 b0 ++ leBytes 1 b1 ++ leBytes 2 m.length ++ m)
  let i := 88 + silo
  if s.siloDepth i < (s.silo i).used + es.length then none
  else some (s.each es fun e st => (st.siloPushEntry i e).2)

/-- A received message goes to its silo; its credit is returned (R263). -/
def State.slkMsgPush (s : State) (k : Nat) : State :=
  let x := s.link k
  match x.rxDone with
  | [] => s
  | m :: t =>
    if !s.bit (SLK_MSG_CTL k) 8 then s
    else
      match s.pushMsg (s.fld (SLK_MSG_CTL k) 2 0) k 0 m with
      | none => s
      | some s1 => ((s1.setLink k { s1.link k with rxDone := t, rxOld := x.rxOld - 1 }).rxFree k (if x.rxOld = 0 then m.length else 0)).raise (slkPage k) 7

/-- The meaning of LINK_CTL_WRITE. -/
def execLinkCtlWrite (k : Fin 32) (v : W32) (s : State) : Host.Outcome State Fault Refusal := .next (s.linkCtlWrite k.val v)
/-- The meaning of DL_FRAME_SEND. -/
def execDlFrameSend (k : Fin 32) (s : State) : Host.Outcome State Fault Refusal := .next (s.dlFrameSend k.val)
/-- The meaning of UL_FRAME_RECEIVED. -/
def execUlFrameReceived (k : Fin 32) (t4 : W32) (data : List Byte) (s : State) : Host.Outcome State Fault Refusal := .next (s.ulFrameReceived k.val t4.toNat data)
/-- The meaning of UL_FRAME_MISSING. -/
def execUlFrameMissing (k : Fin 32) (s : State) : Host.Outcome State Fault Refusal := .next (s.ulFrameMissing k.val)
/-- The meaning of LINK_CLEAR. -/
def execLinkClear (k : Fin 32) (s : State) : Host.Outcome State Fault Refusal := .next (s.setLink k.val { s.link k.val with clear := true })
/-- The meaning of LINK_RETRAIN. -/
def execLinkRetrain (k : Fin 32) (s : State) : Host.Outcome State Fault Refusal := .next (s.linkRetrain k.val)
/-- The meaning of LINK_IDENT_REQ. -/
def execLinkIdentReq (k : Fin 32) (s : State) : Host.Outcome State Fault Refusal := .next (s.queueMsg k.val false identReqMsg)
/-- The meaning of SLK_MSG_SEND. -/
def execSlkMsgSend (k : Fin 32) (len : BitVec 10) (s : State) : Host.Outcome State Fault Refusal := .next (s.slkMsgSend k.val len.toNat)
/-- The meaning of SLK_MSG_PUSH. -/
def execSlkMsgPush (k : Fin 32) (s : State) : Host.Outcome State Fault Refusal := .next (s.slkMsgPush k.val)
/-- The meaning of SLK_INJ_ARM. -/
def execSlkInjArm (k : Fin 32) (v : W32) (s : State) : Host.Outcome State Fault Refusal := .next (s.slkInjArm k.val v)

end Sys2Proof.Machine
end

