-- ==== Sys2Proof/Machine/Ring.lean ====
section
/-! DEFINITION. The Frebriten ring: hop delay, cycle frames byte by byte, time agreement, the line on the ring, forming and joining, wrapping, message channels, fault injection (R358 to R385, R395, R396). -/

namespace Sys2Proof.Machine

def State.setRing (s : State) (x : Ring) : State := { s with ring := x }
/-- Raise a ring event of FRB.0 (R396). -/
def State.ringEvt (s : State) (bit : Nat) : State := s.raise 0x260000 bit

/-- PORT_STAT.STATE, or the crosslink's LANE: 0 OFF, 1 DOWN, 2 UP (R362, R395, R397). -/
def State.portState (s : State) (p : Nat) : Nat := if p = 2 then s.fld XLK_XLK_STAT 1 0 else s.fld (FRB_PORT_STAT p) 1 0
def State.portUp (s : State) (p : Nat) : Bool := s.portState p == 2
def State.nodeAddr (s : State) : Nat := s.fld (FRB_RING_CTL 0) 12 8
def State.ringEn (s : State) : Bool := s.bit (FRB_RING_CTL 0) 0
/-- RING_STAT.STATE (R395). -/
def State.ringState (s : State) : Nat := s.fld (FRB_RING_STAT 0) 2 0
def State.setRingState (s : State) (v : Nat) : State := s.wrFld (FRB_RING_STAT 0) 2 0 v
def State.isCm (s : State) : Bool := s.bit (FRB_RING_STAT 0) 3
/-- A member takes part in the ring. -/
def State.isMember (s : State) : Bool := s.ringState == 2 || s.ringState == 3
def State.wrapping (s : State) (p : Nat) : Bool := s.bit (FRB_PORT_STAT p) 3
/-- The device writes the pair's slot and line area only while it holds the token (R394). -/
def State.pairWrites (s : State) : Bool := !s.bit XLK_XLK_CTL 1 || s.role == 1

/-- CNT_ERR of a ring port, with FRAME_ERR (R395, R396); CNT_XLK on the crosslink, which counts CRC only (R397). -/
def State.hopErr (s : State) (p hi lo : Nat) : State :=
  if p = 2 then (if lo = 0 then s.count XLK_CNT_XLK 7 0 xlkPage 9 else s) else (s.count (FRB_CNT_ERR p) hi lo (frbPage p) 4).raise (frbPage p) 1

/-! ### Bytes of a frame -/

/-- `l` with the bytes from `ofs` on replaced by `b`. -/
def putAt (l : List Byte) (ofs : Nat) (b : List Byte) : List Byte := l.take ofs ++ b ++ l.drop (ofs + b.length)
def byteOf (l : List Byte) (i : Nat) : Nat := (l.getD i 0).toNat
def natOf (l : List Byte) (ofs n : Nat) : Nat := leNat (cutAt l ofs n)
/-! ### Device time steps (R55, R56) -/

/-- Every slot is OFF, READY or OPEN and the angle scheduler holds no armed entry (R56). -/
def State.mayStep (s : State) : Bool :=
  (s.axes.all fun e => e.2.st == .off || e.2.st == .ready || e.2.st == .opened) &&
    !(s.mem.any fun c => decide (0x027F0000 ≤ c.1) && decide (c.1 < 0x02800000) && decide (c.1 % 16 = 9) && decide (c.2.toNat % 2 = 1))

/-- Device time steps forward by `k` ticks: the line and the clocks that measure elapsed time keep their places; what is aimed at a skipped instant becomes due (R56). -/
def State.stepTime (s : State) (k : Nat) : State :=
  if k = 0 then s
  else
    let l := s.ltb
    let s1 : State := { s with
      dt := s.dt + k
      ltb := { l with line := { l.line with t := l.line.t + k }, prev := none, slew := l.slew.map fun e => (e.1, e.2.1 + k, e.2.2), plan := l.plan.map fun pl => { pl with t0 := pl.t0 + (k : Int) * unitsPerTick }, joinTo := none }
      shutdowns := s.shutdowns.map (· + k)
      sensors := s.sensors.map fun e => (e.1, { e.2 with below := e.2.below.map (· + k) })
      wdtT := s.wdtT + k
      keepA := s.keepA + k }
    (s1.wrBit LTB_STATUS 13 false).raise ltbPage 6

/-! ### Fault injection on ring lanes (R385) -/

/-- INJ_CTL with the checks of R385: MODE 6 and 7 and TYPE 3 are refused, a locked page ignores the write. -/
def State.ringInjArm (s : State) (p : Nat) (v : W32) : State :=
  let page := frbPage p
  if s.bit (page + 4) 2 then s.err page .locked 0x02C
  else if 6 ≤ fldOf v 2 0 ∨ fldOf v 6 5 = 3 then s.err page .value 0x02C
  else
    let c := max 1 (fldOf v 23 16)
    let s1 := s.wr (page + 0x02C) (withFld (v &&& 0x80FFFF7F) 23 16 c)
    if bitOf v 31 then s1.setRport p { s1.rport p with injSkip := fldOf v 15 8, injLeft := c } else s1

/-- A frame leaves ring lane `p` (R385). -/
def State.ringSend (s : State) (p : Nat) (f : LaneFrame) (abt : Bool) : State := if s.portUp p then s.laneSend p f abt else s

/-! ### Ports and hop delay (R359, R361, R362) -/

/-- The node's wraps and its state RUNNING or WRAPPED (R377, R395). -/
def State.showWrap (s : State) : State :=
  if s.isMember then s.setRingState (if s.ring.wrapped || s.wrapping 0 || s.wrapping 1 then 3 else 2) else s

/-- A port becomes UP: message channels restart on both ends (R362, R381). -/
def State.portToUp (s : State) (p : Nat) : State :=
  if p = 2 then ({ s with xlk := { s.xlk with rxAt := s.dt } } : State).wrFld XLK_XLK_STAT 1 0 2
  else
    let x := s.rport p
    let s1 := (s.setRport p { x with sent := List.replicate 8 0, credit := List.replicate 8 0, held := List.replicate 8 0, freed := List.replicate 8 0 }).wrFld (FRB_PORT_STAT p) 1 0 2
    (s1.each (List.range 8) fun c st => st.wr (FRB_CH_STAT p c) 0x80).raise (frbPage p) 2

/-! ### Crosslink loss (R393) -/

/-- The holder of the token does the duties of the pair on the ring: the cycle master's at the address of the pair, from the last T_n (R392, R393). -/
def State.takeDuty (s : State) : State :=
  if s.isMember ∧ s.fld (FRB_TOPO 0) 20 16 = s.nodeAddr then
    (s.wrBit (FRB_RING_STAT 0) 3 true).setRing { s.ring with nextN := (s.xlk.cycle.1 + 1) % 2 ^ 32, nextT := s.xlk.cycle.2 + s.ring.cycT }
  else s

/-- The new holder of the token sends at once on each DUAL link (R393). -/
def State.resendDual (s : State) : State := s.each ((List.range 32).filter fun k => s.bit (SLK_LINK_CTL k) 1) fun k st => st.setLink k { st.link k with resend := true }

/-- Crosslink loss: a fit standby takes the token, an active device whose standby was fit becomes ORPHAN, another standby too (R393, R398). -/
def State.crosslinkLoss (s : State) : State :=
  let s1 := s.raise xlkPage 0
  if s.role = roleStandby then
    if s.xlk.sentFit then ((((s1.takeToken.switchover).fitFalls.endSync).takeDuty).showLinks).resendDual
    else ((s1.setPairRole roleOrphan).fitFalls).endSync
  else if s.role = roleActive then
    if s.xlk.gotFit then ((((s1.setPairRole roleOrphan).fitFalls).endSync).dropDuty).showLinks
    else (((s1.wrBit XLK_XLK_STAT 6 false).raise xlkPage 1).endSync)
  else s1.endSync

/-- A port becomes DOWN: the hop is measured afresh, and a member turns frames back (R362, R377). -/
def State.portToDown (s : State) (p : Nat) : State :=
  let x := s.rport p
  let was := s.portUp p
  let s1 := s.setRport p { x with delays := [], outAt := none, inAt := none, dlyAt := none, injHeld := [] }
  if p = 2 then (((s1.wrFld XLK_XLK_STAT 1 0 1).wr XLK_XLK_DLY 0xFFFFFFFF).when was fun st => st.crosslinkLoss)
  else
    let s2 := (s1.wrFld (FRB_PORT_STAT p) 1 0 1).wr (FRB_HOP_DLY p) 0xFFFFFFFF
    let s3 := s2.raiseIf was (frbPage p) 0
    if was && s.isMember then (((s3.wrBit (FRB_PORT_STAT p) 3 true).showWrap).ringEvt 9) else s3

/-- UP as soon as the lane has sync and a valid HOP_DLY (R362). -/
def State.portCheck (s : State) (p : Nat) : State :=
  let x := s.rport p
  if s.portState p = 1 ∧ x.sync = true ∧ x.delays.length = 16 then s.portToUp p else s

/-- A write of PORT_CTL or XLK_CTL has switched the lane on or off. -/
def State.portEnable (s : State) (p : Nat) (on : Bool) : State :=
  if on then (if s.portState p = 0 then (if p = 2 then s.wrFld XLK_XLK_STAT 1 0 1 else s.wrFld (FRB_PORT_STAT p) 1 0 1) else s)
  else
    let s0 := if s.portUp p then s.portToDown p else s
    -- software's message goes with the queue: BUSY ends
    let s1 := if p < 2 ∧ ((s0.rport p).txq.any fun e => byteOf e.2.2 3 == s0.nodeAddr) = true then (s0.wrBit (FRB_MSG_TX 0) 29 false).setRing { s0.ring with softLeft := 0 } else s0
    let s2 := s1.setRport p RingPort.reset
    if p = 2 then (s2.wrFld XLK_XLK_STAT 1 0 0).wr XLK_XLK_DLY 0xFFFFFFFF else (s2.wr (FRB_PORT_STAT p) 0).wr (FRB_HOP_DLY p) 0xFFFFFFFF

/-- Code-group sync of a ring lane (R241, R359). -/
def State.laneSync (s : State) (p : Nat) (inv : Bool) : State :=
  if s.portState p = 0 then s
  else
    let s1 := s.setRport p { s.rport p with sync := true }
    (if p = 2 then s1 else s1.wrBit (FRB_PORT_STAT p) 2 inv).portCheck p

/-- Loss of sync of a ring lane (R241, R362). -/
def State.laneSyncLost (s : State) (p : Nat) : State :=
  if !(s.rport p).sync then s
  else
    let s1 := (s.setRport p { s.rport p with sync := false })
    ((if p = 2 then s1 else s1.hopErr p 23 16).portToDown p)

/-- A DLY leaves lane `p` now: one after each cycle frame, one every 10 µs while no cycle frame runs, none during SILENCE (R361, R385). -/
def State.dlyOut (s : State) (p : Nat) : Bool :=
  decide (s.portState p ≠ 0) && decide ((s.rport p).silentTo ≤ s.dt) &&
    (match (s.rport p).outAt with
     | none => true
     | some t => if s.isMember && !s.bit (FRB_RING_STAT 0) 10 then decide (t / 256 < s.ring.frameAt) else decide (t / 256 + 40000 ≤ s.dt))

/-- A DLY leaves lane `p`; `frac` is the interpolation of its departure (R361). -/
def State.dlySend (s : State) (p frac : Nat) : State := if s.dlyOut p then s.setRport p { s.rport p with outAt := some (s.dt * 256 + frac) } else s

/-- A DLY arrives with the neighbour's two timestamps: one measurement, HOP_DLY, the port's state (R361, R362). -/
def State.dlyReceived (s : State) (p tOut tIn frac : Nat) : State :=
  let x := s.rport p
  if s.portState p = 0 ∨ x.sync = false then s
  else
    let t4 := s.dt * 256 + frac
    let x1 := { x with inAt := some t4, dlyAt := some s.dt }
    match x.outAt with
    | none => s.setRport p x1
    | some t1 =>
      let mine : Int := signedOf 40 (wrapTo 40 ((t4 : Int) - t1))
      let theirs : Int := signedOf 32 (wrapTo 32 ((tOut : Int) - tIn)) * 256
      let asym : Int := if p = 2 then 0 else signedOf 16 (s.fld (FRB_HOP_ASYM p) 15 0)
      let d := (mine - theirs) * 250 / 512 + asym
      let l := (d :: x.delays).take 16
      let s1 := s.setRport p { x1 with delays := l }
      if l.length < 16 then s1
      else (s1.wr (if p = 2 then XLK_XLK_DLY else FRB_HOP_DLY p) (w32 (l.sum / 16))).portCheck p

/-- No valid DLY within one cycle time and 1 µs of the previous one, or within 20 µs while no cycle frame runs (R362). -/
def State.dlyTimeout (s : State) (p : Nat) : State :=
  match (s.rport p).dlyAt with
  | none => s
  | some t =>
    let lim := if s.isMember then s.ring.cycT + 4000 else 80000
    if s.portUp p ∧ t + lim < s.dt then (s.hopErr p 31 24).portToDown p else s

/-- The port is UP again and its node stops wrapping (R377). -/
def State.unwrap (s : State) (p : Nat) : State :=
  if p < 2 ∧ s.wrapping p = true ∧ s.portUp p = true then ((s.wrBit (FRB_PORT_STAT p) 3 false).showWrap).ringEvt 13 else s

/-- HOP_DLY of a port in units of 2^-8 tick. -/
def State.hop8 (s : State) (p : Nat) : Int := (s.rd (FRB_HOP_DLY p)).toNat * 256 / 250

/-- A frame goes out of port `p`, or back out of the arrival port `q` where `p` is DOWN (R377). -/
def State.outPort (s : State) (q : Nat) : Nat := if s.portUp (1 - q) && !s.wrapping (1 - q) then 1 - q else q

/-! ### Byte areas -/

/-- A frame closed by its CRC (R360). -/
def sealFrame (b : List Byte) : List Byte := b ++ leBytes 4 (crc32 b)
def crcGood (f : List Byte) : Bool := decide (8 ≤ f.length) && decide (natOf f (f.length - 4) 4 = crc32 (f.take (f.length - 4)))

/-- The frame length of a header (R368). -/
def frameLen (nslot slotLen scN : Nat) : Nat := 128 + nslot * slotLen * 16 + 16 * scN + 4

/-! ### What a member writes (R366, R371, R372, R384) -/

/-- The RTC base as seconds and nanoseconds (R371). -/
def State.rtcBaseSec (s : State) : Nat := wrapTo 48 (s.ltb.rtcBase / 4000000000)
def State.rtcBaseNs (s : State) : Nat := (s.ltb.rtcBase % 4000000000).toNat / 4

/-- The line publishes: PUBLISH with source 0, 1 or 2 (R35). -/
def State.publishes (s : State) : Bool := s.actBit LTB_SRC_CTL 16 && s.lineSrc != 3

/-- The line-state area for cycle `cyc` at time `t` (R371). -/
def State.lineArea (s : State) (t cyc : Nat) : List Byte :=
  let k := s.lineAt t
  let flags := s.fld LTB_STATUS 1 0 + 4 + (if s.bit LTB_STATUS 11 then 16 else 0)
  let b := leBytes 1 flags ++ leBytes 1 0 ++ leBytes 6 s.rtcBaseSec ++ leBytes 4 s.rtcBaseNs ++ leBytes 8 t ++
    leBytes 8 (wrapTo 64 (q32 k.p)) ++ leBytes 8 (wrapTo 64 (q32 k.v)) ++ leBytes 8 (wrapTo 64 (q32 k.a)) ++ leBytes 8 (wrapTo 64 (q32 s.ltb.line.j))
  b ++ mkContainer (s.ringId ^^^ 0x03000000) (s.ring.lineSeq % 65536) s.wdTx (cyc % 2 ^ 32) b

/-- This node's slot (R364). -/
def State.slotBytes (s : State) (slotLen : Nat) : List Byte :=
  let pair := s.bit XLK_XLK_CTL 1
  let pay := (List.range (slotLen * 16 - 4)).map fun i => BitVec.ofNat 8 ((s.rd (FRB_SLOT_TX 0 (i / 4))).toNat / 256 ^ (i % 4))
  leBytes 1 s.nodeAddr ++ leBytes 1 (1 + if pair then 2 else 0) ++ leBytes 1 (if pair then s.epoch else 0) ++ leBytes 1 0 ++ pay

/-- SDATA of an owned ring entry: groups off, pairs in demand, any group off by a fault (R420). -/
def State.entryData (s : State) : Nat :=
  let off := (List.range 4).foldl (fun a g => a + (if (s.group g).off then 2 ^ g else 0)) 0
  let flt := (List.range 4).any fun g => (s.group g).off && (s.group g).faulted
  off + s.fld SAF0_PAIR_STAT 7 0 * 16 + (if flt then 4096 else 0)

/-- Safety entry `e` of this node; its connection number is its place (R364, R420). -/
def State.entryBytes (s : State) (e : Nat) : List Byte :=
  leBytes 1 s.nodeAddr ++ leBytes 1 e ++ leBytes 1 1 ++ leBytes 1 0 ++ mkContainer (s.ringId ^^^ (0x04000000 + e)) (s.ring.entrySeq % 65536) s.wdTx s.entryData []

/-- The owned entries within a frame of `scN`. -/
def State.ownEntries (s : State) (scN : Nat) : List Nat :=
  (List.range scN).filter fun e => decide (s.fld (FRB_SC_OWN 0) 6 0 ≤ e) && decide (e < s.fld (FRB_SC_OWN 0) 6 0 + s.fld (FRB_SC_OWN 0) 14 8)

/-- The frame already carries a write of the pair with a newer epoch (R394). -/
def State.pairNewer (s : State) (f : List Byte) : Bool :=
  let o := 128 + s.nodeAddr * byteOf f 4 * 16
  decide (byteOf f (o + 1) % 2 = 1) && s.bit XLK_XLK_CTL 1 && decide (0 < signedOf 8 (byteOf f (o + 2) + 256 - s.epoch))

/-- Write the own slot and the owned safety entries, unless a newer epoch of the pair has written the slot (R366, R394). -/
def State.writeSlots (s : State) (f : List Byte) : List Byte :=
  let nslot := byteOf f 3
  let sl := byteOf f 4
  let scN := byteOf f 5
  let o := 128 + s.nodeAddr * sl * 16
  let f1 := if s.nodeAddr < nslot ∧ s.pairNewer f = false ∧ s.pairWrites = true then putAt f o (s.slotBytes sl) else f
  (s.ownEntries scN).foldl (fun f e => putAt f (128 + nslot * sl * 16 + 16 * e) (s.entryBytes e)) f1

/-- Whether this node writes the line-state area of a frame: LM is its own, or unclaimed and the area unwritten (R372, R394). -/
def State.writesLine (s : State) (f : List Byte) : Bool :=
  s.publishes && s.pairWrites && !s.pairNewer f && (byteOf f 2 == s.nodeAddr || (byteOf f 2 == 255 && decide (byteOf f 32 / 4 % 2 = 0)))

/-- The reference's fields of the header: REF_T, CORR 0, REF_CM clear, REF (R369). -/
def refFields (f : List Byte) (t addr : Nat) : List Byte :=
  putAt (putAt (putAt (putAt f 12 (leBytes 8 t)) 20 (leBytes 4 0)) 7 (leBytes 1 0)) 28 (leBytes 1 addr)

/-- The broadcast area: the first node with a request writes it, while T_ACT is at least 2 × CYC_T ahead (R384). -/
def State.writeBcast (s : State) (f : List Byte) : List Byte × State :=
  match s.ring.bcReq.find? fun r => decide (s.dt + 2 * s.ring.cycT ≤ r.2.2.2) with
  | none => (f, s)
  | some (a, fi, mask, t) =>
    if byteOf f 96 % 4 ≠ 0 then (f, s)
    else (putAt f 96 (leBytes 1 ((if a then 1 else 0) + (if fi then 2 else 0)) ++ leBytes 1 s.nodeAddr ++ leBytes 1 mask ++ leBytes 5 0 ++ leBytes 8 t ++ leBytes 16 0),
      s.setRing { s.ring with bcReq := s.ring.bcReq.filter fun r => r != (a, fi, mask, t) })

/-- Another address in LM while this node publishes: LM_CONFLICT (R372). LM_HELD shows that this node holds the line. -/
def State.lmCheck (s : State) (lm : Nat) : State :=
  let conflict := s.publishes && lm != 255 && lm != s.nodeAddr
  let was := s.bit (FRB_RING_STAT 0) 5
  (((s.wrBit (FRB_RING_STAT 0) 5 conflict).wrBit (FRB_RING_STAT 0) 4 (s.publishes && lm == s.nodeAddr)).when (conflict && !was) fun st => st.ringEvt 10)

/-- What a member adds on its first pass to a frame whose SOF leaves its ball at `dep` (R366, R371, R372, R384). T_n is the REF_T of the frame as it comes: the master's departure in the time of the ring (R369). -/
def State.memberWrites (s : State) (dep : Nat) (f : List Byte) : List Byte × State :=
  let cyc := natOf f 8 4
  let f1 := putAt f 24 (leBytes 4 (natOf f 24 4 ||| 2 ^ s.nodeAddr))
  let f2 := s.writeSlots f1
  let s1 := s.setRing { s.ring with entrySeq := s.ring.entrySeq + (if s.ownEntries (byteOf f 5) = [] then 0 else 1) }
  let (f3, s2) := s1.writeBcast f2
  let s3 := s2.lmCheck (byteOf f 2)
  if s.writesLine f then
    let a := s3.lineArea (natOf f 12 8) cyc
    (refFields (putAt f3 32 a) dep s.nodeAddr, s3.setRing { s3.ring with lineSeq := s3.ring.lineSeq + 1, area := a })
  else (f3, s3)

/-! ### What a member reads (R367, R369, R371 to R376) -/

/-- A ring safety entry is taken (R422, R424). -/
def State.takeEntry (s : State) (f : List Byte) (base e : Nat) : State :=
  let o := base + 16 * e
  if byteOf f (o + 2) % 2 = 0 then s
  else
    let c := cutAt f (o + 4) 12
    let x := tabGet ⟨ContIn.reset, 0⟩ e s.ring.entries
    let y : RingEntry := if contOk (s.ringId ^^^ (0x04000000 + e)) [] x.cont.seq s.wdMax c then ⟨x.cont.take s.dt c, contDataOf c⟩ else { x with cont := { x.cont with error := true } }
    let s1 := s.setRing { s.ring with entries := tabSet e y s.ring.entries }
    if y.cont.error then ((s1.safEvent 7).safCount 7 0).safErr 2 (32 + e) 0 else s1

/-- Whether a safety entry is named by a group (R424). -/
def State.entryUsed (s : State) (e : Nat) : Bool := s.safRun && (List.range 4).any fun g => s.actBit (SAF0_GRP_CFG g) 7 && s.actFld (SAF0_GRP_CFG g) 13 8 == e

/-- The membership as a member that is not the master sees it: bits once seen and now gone after a change of TOPO have left, new bits have joined (R376, log 29). -/
def State.membersSeen (s : State) (bits topo : Nat) (wrapped : Bool) : State :=
  let old := (s.rd (FRB_MEMBERS 0)).toNat
  let change := decide (s.fld (FRB_TOPO 0) 7 0 ≠ topo) && s.ring.wrapped == wrapped
  let gone := if change then (old &&& s.ring.seen) &&& (4294967295 - (bits &&& 4294967295)) else 0
  let now := ((old ||| bits) ^^^ gone) &&& 4294967295
  let s1 := (s.wr (FRB_MEMBERS 0) (BitVec.ofNat 32 now)).setRing { s.ring with seen := bits }
  ((s1.when (now &&& (4294967295 - old) != 0 && old != 0) fun st => st.ringEvt 14).when (gone != 0) fun st => st.ringEvt 15)

/-- Read a frame on its last pass: the image, RX_LAST, CYC_CNT, MEMBERS, TOPO, the broadcast, the safety entries, the line-state area (R367, R371, R384). -/
def State.readFrame (s : State) (f : List Byte) (cm : Bool) : State :=
  let cyc := natOf f 8 4
  let last := s.rd (FRB_RX_LAST 0)
  let buf := if cyc % 2 ^ 31 = fldOf last 31 1 ∧ s.ring.frameAt ≠ 0 then fldOf last 0 0 else 1 - fldOf last 0 0
  let s1 := s.putBytes ((s.rd (FRB_RX_BASE 0)).toNat + buf * 0x1000) f
  let s2 := ((s1.wr (FRB_RX_LAST 0) (BitVec.ofNat 32 (buf + cyc % 2 ^ 31 * 2))).wr (FRB_CYC_CNT 0) (BitVec.ofNat 32 cyc))
  let wrapped := decide (128 ≤ byteOf f 0)
  let s3 := if cm then s2 else s2.membersSeen (natOf f 24 4) (byteOf f 6) wrapped
  let s4 := ((s3.wr (FRB_TOPO 0) (BitVec.ofNat 32 (byteOf f 6 + byteOf f 2 * 256 + byteOf f 1 % 32 * 65536))).setRing { s3.ring with wrapped := wrapped }).showWrap
  let base := 128 + byteOf f 3 * byteOf f 4 * 16
  let s5 := s4.each ((List.range (byteOf f 5)).filter fun e => s.entryUsed e) fun e st => st.takeEntry f base e
  let bc := byteOf f 96
  let s6 := if bc % 4 = 0 then s5 else s5.setRing { s5.ring with bcast := some (decide (bc % 2 = 1), decide (bc / 2 % 2 = 1), byteOf f 98, natOf f 104 8) }
  let area := cutAt f 32 64
  let s7 := if byteOf area 0 / 4 % 2 = 1 then s6.setRing { s6.ring with lineState := some (cyc, area) } else s6
  s7.wrBit (FRB_RING_STAT 0) 9 (s.lineSrc == 3 && decide (byteOf area 0 / 8 % 2 = 1))

/-- The offset of R369 from a frame that arrived at port `p` at `t8` (units of 2^-8 tick); it steers the time in mode 1 (R53). -/
def State.ringOffset (s : State) (p t8 : Nat) (f : List Byte) : State :=
  if s.rd (FRB_HOP_DLY p) = 0xFFFFFFFF then s
  else
    let o : Int := (t8 : Int) - (natOf f 12 8 * 256 + natOf f 20 4 : Nat) - s.hop8 p
    let s1 := s.setRing { s.ring with lastOfs := some o }
    if byteOf f 28 ≠ s.nodeAddr ∧ s.fld LTB_DISC_CTL 1 0 = 1 then s1.discMeasure (o * 250 / 256) else s1

/-! ### The cycle master (R363, R365, R372, R376) -/

/-- The line's writer as the master learns it from a returned frame: the node that wrote the area is its reference (R369, R372). -/
def State.cmWriter (s : State) (f : List Byte) : State :=
  let a := byteOf f 32
  if a / 4 % 2 = 1 ∧ a / 8 % 2 = 0 then s.setRing { s.ring with writer := some (byteOf f 28), noWriter := 0, area := cutAt f 32 64 }
  else s.setRing { s.ring with noWriter := s.ring.noWriter + 1, writer := if 16 ≤ s.ring.noWriter + 1 then none else s.ring.writer }

/-- TOPO's epoch moves on (R365). -/
def State.topoUp (s : State) : State := s.wrFld (FRB_TOPO 0) 7 0 (s.fld (FRB_TOPO 0) 7 0 + 1)

/-- The master compares the members of the returned frame with its own list: joins, and leaves after 4 absences (R376). -/
def State.cmMembers (s : State) (f : List Byte) : State :=
  let bits := natOf f 24 4
  let wrapped := decide (128 ≤ byteOf f 0)
  let s0 := if s.ring.wrapped != wrapped then s.topoUp else s
  s0.each (List.range 32) fun k st =>
    let here := decide (bits / 2 ^ k % 2 = 1)
    let known := st.bit (FRB_MEMBERS 0) k
    if here then
      let s1 := st.setRing { st.ring with absent := tabSet k 0 st.ring.absent }
      if known then s1 else ((s1.wrBit (FRB_MEMBERS 0) k true).topoUp).ringEvt 14
    else if known then
      let n := tabGet 0 k st.ring.absent + 1
      let s1 := st.setRing { st.ring with absent := tabSet k (if 4 ≤ n then 0 else n) st.ring.absent }
      if 4 ≤ n then ((s1.wrBit (FRB_MEMBERS 0) k false).topoUp).ringEvt 15 else s1
    else st

/-- The header and empty areas of the master's next frame (R364, R365, R372). -/
def State.newFrame (s : State) : List Byte :=
  let cfg := s.rd (FRB_FRAME_CFG 0)
  let nslot := fldOf cfg 5 0
  let sl := fldOf cfg 11 8
  let scN := fldOf cfg 22 16
  let lm := s.ring.writer.getD 255
  let refCm := lm == 255 || lm == s.nodeAddr
  let refT : Int := if refCm then s.dt else (s.dt : Int) - s.ring.lastOfs.getD 0 / 256
  let h := leBytes 1 1 ++ leBytes 1 s.nodeAddr ++ leBytes 1 lm ++ leBytes 1 nslot ++ leBytes 1 sl ++ leBytes 1 scN ++ leBytes 1 (s.fld (FRB_TOPO 0) 7 0) ++
    leBytes 1 (if refCm then 0 else 1) ++ leBytes 4 s.ring.nextN ++ leBytes 8 refT.toNat ++ leBytes 4 0 ++ leBytes 4 0 ++ leBytes 1 s.nodeAddr ++ leBytes 3 s.ring.cycT
  let copy := if refCm then List.replicate 64 0 else putAt s.ring.area 0 (leBytes 1 (byteOf s.ring.area 0 ||| 8))
  h ++ (copy ++ List.replicate 64 0).take 64 ++ List.replicate (32 + nslot * sl * 16 + 16 * scN) 0

/-- The cycle master originates the frame at T_n (R363). A device of a pair without the token leaves it to the holder (R393). -/
def State.cycleSend (s : State) : State :=
  if !s.isCm ∨ !s.isMember ∨ s.dt < s.ring.nextT ∨ !s.pairWrites then s
  else
    let (f, s1) := s.memberWrites s.dt s.newFrame
    let s2 := s1.setRing { s1.ring with nextT := s1.ring.nextT + s1.ring.cycT, nextN := (s1.ring.nextN + 1) % 2 ^ 32 }
    let lmNow := s2.ring.writer.getD 255
    let s3 := if s.writesLine s.newFrame then s2.setRing { s2.ring with writer := some s.nodeAddr, noWriter := 0 } else s2
    ((s3.wrFld (FRB_TOPO 0) 15 8 lmNow).ringSend (s3.outPort 1) (.cycle (sealFrame f)) false)

/-! ### A cycle frame passes (R366) -/

/-- Forwarding adds the residence of 160 ns and the hop to CORR, which stays 0 behind the reference, and marks a frame that is turned back (R366, R369, R377). -/
def State.forwardFrame (s : State) (p : Nat) (ref : Bool) (f : List Byte) : List Byte :=
  let corr := if ref then 0 else natOf f 20 4 + 640 * 256 + (s.hop8 p).toNat
  let back := s.outPort p == p
  putAt (putAt f 20 (leBytes 4 corr)) 0 (leBytes 1 (byteOf f 0 % 128 + (if back || decide (128 ≤ byteOf f 0) then 128 else 0)))

/-- A valid cycle frame has passed on port `p`: counted, its time and its CYC_T taken (R363, R366, R382). -/
def State.cycleSeen (s : State) (p : Nat) (f : List Byte) : State :=
  let s0 := (s.wrapUp (FRB_CNT_FRM p) 15 0).wrBit (FRB_RING_STAT 0) 10 false
  (s0.setRing { s0.ring with frameAt := s.dt, cycT := natOf f 29 3, nslot := byteOf f 3 }).setRport p { s0.rport p with cycAt := some s.dt }

/-- A valid cycle frame at port `p`: `t8` is its arrival in units of 2^-8 tick, none for a frame that injection held back, which takes no part in R369 (R385). -/
def State.cycleServe (s : State) (p : Nat) (t8 : Option Nat) (f : List Byte) : State :=
  let body := f.take (f.length - 4)
  let s2 := match t8 with
    | none => s
    | some t => s.ringOffset p t f
  if s2.isCm && byteOf f 1 == s2.nodeAddr then
    -- the returned frame: the end of its way, or on to the other side of a wrapped ring
    let onward := decide (128 ≤ byteOf f 0) && p == 0 && s2.portUp 1 && !s2.wrapping 1
    if onward then s2.ringSend 1 (.cycle (sealFrame (s2.forwardFrame p false body))) false
    else ((s2.cmWriter f).cmMembers f).readFrame f true
  else
    let first := decide (natOf f 24 4 / 2 ^ s2.nodeAddr % 2 = 0)
    let member := s2.isMember
    let (b, s3) := if member && first then s2.memberWrites (s2.dt + 640) body else (body, s2)
    let ref := member && first && s2.writesLine body
    let turned := s3.outPort p == p
    let last := !first || turned || s3.ringState != 3
    let s4 := s3.ringSend (s3.outPort p) (.cycle (sealFrame (s3.forwardFrame p ref b))) false
    -- a node outside the ring sees who its members are (R376)
    let s5 := if !member then s4.setRing { s4.ring with seen := natOf f 24 4 } else if last then s4.readFrame (sealFrame b) false else s4
    if s5.ringState = 0 ∨ s5.ringState = 1 then s5.setRingState 4 else s5

/-- A valid cycle frame, seen and served (R366). -/
def State.cycleTake (s : State) (p : Nat) (t8 : Option Nat) (f : List Byte) : State := (s.cycleSeen p f).cycleServe p t8 f

/-- A cycle frame at port `p`; `abt` says that it ended in ABT. A frame that fails its CRC goes on with ABT and is counted, one with another type or length goes on with ABT and is discarded (R360, R366). -/
def State.cycleCheck (s : State) (p : Nat) (t8 : Option Nat) (f : List Byte) (abt : Bool) : State :=
  if !s.ringEn ∨ !s.portUp p then s
  else if abt then (s.ringSend (s.outPort p) (.cycle f) true).hopErr p 15 8
  else if !crcGood f then (s.ringSend (s.outPort p) (.cycle f) true).hopErr p 7 0
  else if byteOf f 0 % 128 ≠ 1 ∨ f.length ≠ frameLen (byteOf f 3) (byteOf f 4) (byteOf f 5) ∨ 4096 < f.length then s.ringSend (s.outPort p) (.cycle f) true
  else s.cycleTake p t8 f

/-- No valid cycle frame for two cycle times: shown and counted once, until the next valid frame (R378). -/
def State.cycLost (s : State) : State :=
  if s.isMember ∧ s.bit (FRB_RING_STAT 0) 10 = false ∧ s.ring.frameAt + 2 * s.ring.cycT ≤ s.dt then
    (((s.wrBit (FRB_RING_STAT 0) 10 true).ringEvt 8).count (FRB_CNT_RING 0) 15 0 0x260000 21)
  else s

/-! ### Forming and joining (R374 to R376) -/

/-- The rank of this node (R374). -/
def State.rank (s : State) : Nat := (if s.publishes then 32768 else 0) + s.fld (FRB_RING_CTL 0) 20 16 * 256 + (31 - s.nodeAddr)

/-- The node's entry of a FORM frame whose SOF left its originator `c8` units of 2^-8 tick ago. -/
def State.formEntry (s : State) (c8 : Int) : FormEntry :=
  { present := true, publish := s.publishes, joinOk := s.mayStep, standby := s.role == 2, rank := BitVec.ofNat 16 s.rank,
    time := BitVec.ofNat 64 (((s.dt : Int) * 256 - c8) / 256).toNat }

def setEntry (l : List FormEntry) (k : Nat) (e : FormEntry) : List FormEntry := (List.range 32).map fun i => if i = k then e else l.getD i ⟨false, false, false, false, 0, 0⟩

/-- 4 ms without a valid cycle frame, with the ring enabled and a port UP (R374). -/
def State.formingEntry (s : State) : State :=
  if s.ringEn ∧ (s.portUp 0 ∨ s.portUp 1) ∧ s.ringState ≠ 1 ∧ s.ring.frameAt + 16000000 ≤ s.dt then
    (((s.setRingState 1).wrBit (FRB_RING_STAT 0) 3 false).wrBit LTB_STATUS 14 false).setRing { s.ring with formSince := s.dt, formAt := s.dt, formBack := none, myEntry := none, ownEntry := none, startAt := none }
  else s

/-- A FORM or START frame leaves each port of `ports` that is UP (R374). -/
def State.formEmit (s : State) (ports : List Nat) (f : FormFrame) : State := s.each ports fun p st => st.ringSend p (.form f) false

/-- A forming node sends its FORM frame on each port that is UP, every 100 µs until a START (R374). -/
def State.formSend (s : State) : State :=
  if s.ringState ≠ 1 ∨ s.dt < s.ring.formAt ∨ s.ring.startAt.isSome = true then s
  else
    let e := s.formEntry 0
    let f : FormFrame := {
      start := false, rank := BitVec.ofNat 16 s.rank, cyc := s.rd (FRB_CYC_CFG 0), frame := s.rd (FRB_FRAME_CFG 0), delay := 0,
      entries := setEntry [] s.nodeAddr e, members := 0, tmax := 0, t0 := 0 }
    (s.setRing { s.ring with myEntry := some e, ownEntry := some e, formAt := s.dt + 400000 }).formEmit [0, 1] f

/-- A FORM frame arrives at port `p`: forwarded with the node's entry, kept as the own frame come back, or discarded (R374, R375). -/
def State.formReceived (s : State) (p : Nat) (f : FormFrame) : State :=
  if !s.ringEn ∨ s.ringState ≠ 1 ∨ f.start then s
  else if f.rank.toNat < s.rank then s
  else if f.rank.toNat = s.rank ∧ (some (f.entries.getD s.nodeAddr ⟨false, false, false, false, 0, 0⟩) = s.ring.ownEntry ∨ s.bit XLK_XLK_CTL 1 = true) then
    let f' := { f with delay := BitVec.ofNat 32 (f.delay.toNat + 640 * 256 + (s.hop8 p).toNat) }
    s.setRing { s.ring with formBack := some f' }
  else
    let was := f.entries.getD s.nodeAddr ⟨false, false, false, false, 0, 0⟩
    if was.present ∧ some was ≠ s.ring.myEntry ∧ s.bit XLK_XLK_CTL 1 = false then
      (((s.wrBit (FRB_RING_STAT 0) 6 true).ringEvt 11)).setRingState 4
    else
      let c : Int := f.delay.toNat + s.hop8 p
      let e := s.formEntry c
      let f' := { f with delay := BitVec.ofNat 32 (c.toNat + 640 * 256), entries := setEntry f.entries s.nodeAddr e }
      (s.setRing { s.ring with formSince := s.dt, formBack := none, myEntry := some e }).formEmit [s.outPort p] f'

/-- Whether the master must refuse to start: L, CYC_T, an address outside the slots (R368, R375). N × 160 ns + D is what the returned frame has accumulated in CORR. -/
def State.cfgBad (s : State) (f : FormFrame) : Bool :=
  let cfg := s.rd (FRB_FRAME_CFG 0)
  let len := frameLen (fldOf cfg 5 0) (fldOf cfg 11 8) (fldOf cfg 22 16)
  let cycT := s.fld (FRB_CYC_CFG 0) 21 0
  decide (4096 < len) || decide (cycT < 8 * (len + 2) + 2 * (f.delay.toNat / 256) + 4000) ||
    (List.range 32).any fun k => (f.entries.getD k ⟨false, false, false, false, 0, 0⟩).present && decide (fldOf cfg 5 0 ≤ k)

/-- The node becomes a member: RUNNING, RING_UP, the formation counted (R374, R395, R396). -/
def State.becomeMember (s : State) : State := (((s.setRingState 2).showWrap).ringEvt 12).wrapUp (FRB_CNT_RING 0) 31 16

/-- The originator, unchallenged for 300 µs, becomes the cycle master, steps its time and sends START (R374, R375); while it may not step, the formation waits with JOIN_WAIT set (R56, log 29). T_0 is not stated: a free value after the step, within the 2 ms in which a ring forms. -/
def State.cmElection (s : State) : State :=
  match s.ring.formBack with
  | none => s
  | some f =>
    if s.ringState ≠ 1 ∨ s.dt < s.ring.formSince + 1200000 ∨ s.ring.startAt.isSome = true then s
    else if s.cfgBad f then ((s.wrBit (FRB_RING_STAT 0) 7 true).ringEvt 17).setRing { s.ring with formAt := s.dt + 40000000, formSince := s.dt, formBack := none }
    else
      let es := f.entries
      let tmax := es.foldl (fun m e => if e.present then max m e.time.toNat else m) 0
      let mine := (es.getD s.nodeAddr ⟨false, false, false, false, 0, 0⟩).time.toNat
      let members := (List.range 32).foldl (fun a k => a + (if (es.getD k ⟨false, false, false, false, 0, 0⟩).present then 2 ^ k else 0)) 0
      if tmax ≠ mine ∧ s.mayStep = false then s.wrBit LTB_STATUS 13 true else
      let s1 := (s.stepTime (tmax - mine)).wrBit LTB_STATUS 13 false
      let (i, s2) := s1.nextFree
      let t0 := s2.dt + 1 + (Config.freeWord i).toNat % 8000000
      let cycT := s2.fld (FRB_CYC_CFG 0) 21 0
      let st : FormFrame := { f with start := true, members := BitVec.ofNat 32 members, tmax := BitVec.ofNat 64 tmax, t0 := BitVec.ofNat 64 t0, delay := 0 }
      let s3 := s2.setRing { s2.ring with formBack := none, startAt := some t0, nextT := t0, nextN := 0, cycT := cycT, frameAt := s2.dt, writer := none, noWriter := 0, absent := [] }
      ((((s3.wr (FRB_MEMBERS 0) (BitVec.ofNat 32 members)).wrBit (FRB_RING_STAT 0) 3 true).wrBit (FRB_RING_STAT 0) 7 false).topoUp).formEmit [0, 1] st

/-- T_0 has come: a node that took part in the formation is a member (R374). -/
def State.startDue (s : State) : State :=
  match s.ring.startAt with
  | none => s
  | some t => if s.ringState = 1 ∧ t ≤ s.dt then (s.setRing { s.ring with startAt := none }).becomeMember else s

/-- A START arrives: the node steps by its shortfall against T_MAX and becomes a member at T_0, or waits as PASSIVE (R374). -/
def State.startReceived (s : State) (f : FormFrame) : State :=
  if s.ringState ≠ 1 ∨ !f.start ∨ !f.members.getLsbD s.nodeAddr ∨ s.ring.startAt.isSome = true then s
  else
    let mine := (f.entries.getD s.nodeAddr ⟨false, false, false, false, 0, 0⟩).time.toNat
    let short := f.tmax.toNat - mine
    let s1 := s.setRing { s.ring with cycT := f.cyc.toNat % 2 ^ 22, frameAt := s.dt, seen := 0, nslot := f.frame.toNat % 64 }
    let s2 := (s1.wr (FRB_MEMBERS 0) f.members).formEmit [0, 1] f
    if s.mayStep then ((s2.stepTime short).setRing { (s2.stepTime short).ring with startAt := some f.t0.toNat }).startDue
    else (({ s2 with ltb := { s2.ltb with joinTo := some short } } : State).setRingState 4 |>.wrBit LTB_STATUS 13 true).setRing { s2.ring with lastOfs := none }

/-- A PASSIVE node joins a running ring (R55, R56, R376): behind it steps forward, ahead by at most 1 µs it slews back at SLEW_LIM, further ahead it stays out until the ring forms again or the node is cold reset. -/
def State.ringJoin (s : State) : State :=
  match s.ring.lastOfs with
  | none => s
  | some o =>
    if s.ringState ≠ 4 ∨ s.bit LTB_STATUS 14 = true then s
    else if s.ring.nslot ≤ s.nodeAddr ∨ s.ring.seen / 2 ^ s.nodeAddr % 2 = 1 then ((s.wrBit (FRB_RING_STAT 0) 8 true).ringEvt 16)
    else if 4000 * 256 < o then s.wrBit LTB_STATUS 14 true
    else if o < 0 then
      let k := (-o / 256).toNat
      if s.mayStep then (s.stepTime k).becomeMember
      else (({ s with ltb := { s.ltb with joinTo := some k } } : State).wrBit LTB_STATUS 13 true)
    else if o = 0 then s.becomeMember
    else (s.wr LTB_DISC_RATE (w32 (-s.slewLim))).becomeMember

/-- A device-time step that has waited is applied once slots and scheduler allow it (R56). -/
def State.joinDone (s : State) : State :=
  if s.bit LTB_STATUS 13 ∧ s.mayStep = true then
    let k := s.ltb.joinTo.getD 0
    let s1 := if k = 0 then s.wrBit LTB_STATUS 13 false else s.stepTime k
    if s1.ringState = 4 then s1.becomeMember else s1
  else s

/-- A write of RING_CTL: EN 0 leaves the ring (R395). -/
def State.ringCtlWrite (s : State) (v : W32) : State :=
  let s1 := s.wr (FRB_RING_CTL 0) (v &&& 0x001F1F01)
  if bitOf v 0 then s1 else (s1.wr (FRB_RING_STAT 0) 0).setRing { s1.ring with formBack := none, startAt := none, lastOfs := none, frameAt := s1.dt, lineState := none }

/-! ### Message channels (R379 to R383) -/

/-- The units of a frame (R381). -/
def unitsOf (len : Nat) : Nat := (len + 63) / 64

/-- CH_STAT: transmit credit and units in use (R381, R395). -/
def State.showChan (s : State) (p c : Nat) : State :=
  let x := s.rport p
  let credit := 128 - (x.sent.getD c 0 - x.credit.getD c 0)
  (s.wrFld (FRB_CH_STAT p c) 7 0 credit).wrFld (FRB_CH_STAT p c) 15 8 (x.held.getD c 0)

/-- Held units of channel `c` are freed, and their credit goes back (R381). -/
def State.freeUnits (s : State) (p c n : Nat) : State :=
  let x := s.rport p
  (s.setRport p { x with held := x.held.set c (x.held.getD c 0 - n), freed := x.freed.set c ((x.freed.getD c 0 + n) % 65536) }).showChan p c

/-- A CRD set: the receiver's cumulative count of units freed, modulo 65,536 (R381). -/
def State.crdReceived (s : State) (p c n : Nat) : State :=
  if !s.portUp p then s
  else
    let x := s.rport p
    let old := x.credit.getD c 0
    (s.setRport p { x with credit := x.credit.set c (old + (n + 65536 - old % 65536) % 65536) }).showChan p c

/-- Queue a message frame on a port. -/
def State.queueFrame (s : State) (p c : Nat) (f : List Byte) : State := s.setRport p { s.rport p with txq := (s.rport p).txq ++ [(c, s.dt, f)] }

/-- A frame of a message: header, payload, CRC (R379). -/
def msgFrame (ch dest src flags mofs : Nat) (pay : List Byte) : List Byte :=
  sealFrame (leBytes 1 0x21 ++ leBytes 1 ch ++ leBytes 1 dest ++ leBytes 1 src ++ leBytes 1 flags ++ leBytes 2 mofs ++ leBytes 1 (pay.length - 1) ++ pay)

/-- A segment for this node (R262, R379, R383): the receiver of its source and channel. -/
def State.ringSegment (s : State) (p : Nat) (f : List Byte) : State :=
  let c := byteOf f 1 % 8
  let src := byteOf f 3
  let key := 8 * src + c
  let mofs := natOf f 5 2
  let pay := cutAt f 8 (byteOf f 7 + 1)
  let start := byteOf f 4 % 2 = 1
  let (exp, part, opened) := tabGet (0, [], false) key s.ring.rx
  let lost := decide (exp ≠ mofs)
  let s1 := (s.when lost fun st => st.ringEvt 20)
  let (part1, open1) := if lost then ([], false) else (part, opened)
  let n := unitsOf f.length
  if !open1 ∧ ¬ start then (s1.setRing { s1.ring with rx := tabSet key ((mofs + pay.length) % 65536, [], false) s1.ring.rx }).freeUnits p c n
  else
    let m := if start then pay else part1 ++ pay
    let done := byteOf f 4 / 2 % 2 = 1
    let s2 := s1.setRing { s1.ring with
      rx := tabSet key ((mofs + pay.length) % 65536, (if done then [] else m), !decide done) s1.ring.rx
      rxDone := (if done then s1.ring.rxDone ++ [(p, src, c, m)] else s1.ring.rxDone) }
    -- the units of a message in progress are freed as its frames are gathered
    if done then s2 else s2.freeUnits p c n

/-- A message frame whose checks begin: taken, forwarded with HOPS + 1, or discarded (R360, R379, R380). -/
def State.msgCheck (s : State) (p : Nat) (f : List Byte) : State :=
  if !s.portUp p then s
  else if !crcGood f ∨ byteOf f 0 ≠ 0x21 ∨ f.length ≠ 13 + byteOf f 7 then s.hopErr p 7 0
  else
    let c := byteOf f 1 % 8
    let x := s.rport p
    let s1 := ((s.setRport p { x with held := x.held.set c (x.held.getD c 0 + unitsOf f.length) }).showChan p c).wrapUp (FRB_CNT_FRM p) 31 16
    if byteOf f 2 = s.nodeAddr then s1.ringSegment p f
    else
      let hops := byteOf f 4 / 4 + 1
      if 2 * s.ring.nslot < hops then (s1.freeUnits p c (unitsOf f.length)).ringEvt 20
      else
        let body := f.take (f.length - 4)
        s1.queueFrame (s1.outPort p) c (sealFrame (putAt body 4 (leBytes 1 (byteOf f 4 % 4 + hops % 64 * 4))))

/-- Whether the head frame of channel `c` may go: credit, and 1 µs clear before the next cycle frame at this port (R381, R382). -/
def State.mayMsg (s : State) (p c : Nat) (f : List Byte) : Bool :=
  let x := s.rport p
  let credit := 128 - (x.sent.getD c 0 - x.credit.getD c 0)
  decide (unitsOf f.length ≤ credit) &&
    (match x.cycAt with
     | none => true
     | some t => !s.isMember || decide (s.dt + 8 * (f.length + 2) + 4000 ≤ t + s.ring.cycT) || decide (t + s.ring.cycT < s.dt))

/-- The channel heads of a port: the first frame of each channel (R382). -/
def headsOf (q : List (Nat × Nat × List Byte)) : List (Nat × Nat × List Byte) := (List.range 8).filterMap fun c => q.find? fun e => e.1 == c

/-- Whether head `a` is served before head `b`: promoted requesters first, the longest waiting first among them, then PRIO, then the lower channel (R234, R382). -/
def State.msgBefore (s : State) (p : Nat) (a b : Nat × Nat × List Byte) : Bool :=
  let pa := s.promoted.contains (3, p, a.1)
  let pb := s.promoted.contains (3, p, b.1)
  if pa != pb then pa
  else if pa && a.2.1 != b.2.1 then decide (a.2.1 < b.2.1)
  else
    let qa := s.fld (FRB_CH_CFG p a.1) 2 0
    let qb := s.fld (FRB_CH_CFG p b.1) 2 0
    if !pa && qa != qb then decide (qb < qa) else decide (a.1 < b.1)

/-- A port starts a message frame (R381, R382). With the last segment of software's message BUSY ends (R383). -/
def State.msgSendNext (s : State) (p : Nat) : State :=
  let x := s.rport p
  let heads := (headsOf x.txq).filter fun e => s.mayMsg p e.1 e.2.2
  match heads.foldl (fun b e => match b with
    | none => some e
    | some o => if s.msgBefore p e o then some e else some o) none with
  | none => s
  | some (c, t, f) =>
    if !s.portUp p then s
    else
      let n := unitsOf f.length
      let s1 := (s.setRport p { x with txq := x.txq.erase (c, t, f), sent := x.sent.set c (x.sent.getD c 0 + n) }).showChan p c
      let s2 := s1.granted 3 p c
      let s3 := s2.ringSend p (.msg f) false
      if byteOf f 3 = s.nodeAddr ∧ 0 < s3.ring.softLeft then
        let s4 := s3.setRing { s3.ring with softLeft := s3.ring.softLeft - 1 }
        if s4.ring.softLeft = 0 then (s4.wrBit (FRB_MSG_TX 0) 29 false).ringEvt 19 else s4
      else if byteOf f 3 = s.nodeAddr then s3
      else s3.freeUnits (1 - p) c n

/-- The segments of a message, 256 bytes each. -/
def segmentsOf : Nat → Nat → Bool → List Byte → List (Nat × Nat × List Byte)
  | 0, _, _, _ => []
  | k + 1, ofs, first, m =>
    if m = [] then []
    else
      let rest := m.drop 256
      ((if first then 1 else 0) + (if rest = [] then 2 else 0), ofs % 65536, m.take 256) :: segmentsOf k (ofs + 256) false rest

/-- MSG_TX with SEND: a message of MSG_TX_BUF to DEST on channel CH, on the port with fewer hops (R380, R383, R395). -/
def State.ringMsgTx (s : State) (v : W32) (west : Bool) : State :=
  let len := fldOf v 9 0
  let dest := fldOf v 20 16
  let c := fldOf v 26 24
  if s.bit (FRB_MSG_TX 0) 29 then s.err 0x260000 .busy 0x130
  else if len < 4 ∨ 512 < len ∨ s.bit (FRB_MEMBERS 0) dest = false then s.err 0x260000 .value 0x130
  else
    let m := (List.range len).map fun i => BitVec.ofNat 8 ((s.rd (FRB_MSG_TX_BUF 0 (i / 4))).toNat / 256 ^ (i % 4))
    let ofs := tabGet 0 c s.ring.txOfs
    let segs := segmentsOf 2 ofs true m
    let p := if west && s.portUp 1 then 1 else if s.portUp 0 then 0 else 1
    let s1 := (s.wr (FRB_MSG_TX 0) ((v &&& 0x071F03FF) ||| 0x20000000)).setRing { s.ring with txOfs := tabSet c ((ofs + len) % 65536) s.ring.txOfs, softLeft := segs.length }
    s1.each segs fun g st => st.queueFrame p c (msgFrame c dest s.nodeAddr g.1 g.2.1 g.2.2)

/-- A complete message goes to its silo and its credit is returned (R263, R383). -/
def State.ringMsgPush (s : State) : State :=
  match s.ring.rxDone with
  | [] => s
  | (p, src, c, m) :: t =>
    if !s.bit (FRB_MSG_CTL 0) 8 then s
    else
      match s.pushMsg (s.fld (FRB_MSG_CTL 0) 2 0) src c m with
      | none => s
      | some s1 => ((s1.setRing { s1.ring with rxDone := t }).freeUnits p c (unitsOf (12 + (if m.length ≤ 256 then m.length else m.length - 256)))).ringEvt 18

/-! ### Commands of this family -/

/-- The lane of an index 0 to 34: a stage link, a ring port, the crosslink (R241, R359). -/
def State.laneSynced (s : State) (k : Nat) (inv : Bool) : State := if k < 32 then s.syncAcquired k inv else s.laneSync (k - 32) inv
def State.laneLost (s : State) (k : Nat) : State := if k < 32 then s.linkSyncLost k else s.laneSyncLost (k - 32)

/-- The meaning of SYNC_ACQUIRED. -/
def execSyncAcquired (k : Fin 35) (inv : Bool) (s : State) : Host.Outcome State Fault Refusal := .next (s.laneSynced k inv)
/-- The meaning of SYNC_LOST. -/
def execSyncLost (k : Fin 35) (s : State) : Host.Outcome State Fault Refusal := .next (s.laneLost k)
/-- The meaning of CYCLE_FRAME_SEND. -/
def execCycleFrameSend (s : State) : Host.Outcome State Fault Refusal := .next s.cycleSend
/-- The meaning of DLY_SEND. -/
def execDlySend (p : Fin 3) (frac : BitVec 8) (s : State) : Host.Outcome State Fault Refusal := .next (s.dlySend p frac.toNat)
/-- The meaning of DLY_RECEIVED. -/
def execDlyReceived (p : Fin 3) (tOut tIn : W32) (frac : BitVec 8) (s : State) : Host.Outcome State Fault Refusal := .next (s.dlyReceived p tOut.toNat tIn.toNat frac.toNat)
/-- The meaning of DLY_TIMEOUT. -/
def execDlyTimeout (p : Fin 2) (s : State) : Host.Outcome State Fault Refusal := .next (s.dlyTimeout p)
/-- The meaning of UNWRAP. -/
def execUnwrap (p : Fin 2) (s : State) : Host.Outcome State Fault Refusal := .next (s.unwrap p)
/-- The meaning of CRD_RECEIVED. -/
def execCrdReceived (p : Fin 2) (c : Fin 8) (n : BitVec 16) (s : State) : Host.Outcome State Fault Refusal := .next (s.crdReceived p c n.toNat)
/-- The meaning of RING_MSG_SEND. -/
def execRingMsgSend (p : Fin 2) (s : State) : Host.Outcome State Fault Refusal := .next (s.msgSendNext p)
/-- The meaning of RING_MSG_PUSH. -/
def execRingMsgPush (s : State) : Host.Outcome State Fault Refusal := .next s.ringMsgPush
/-- The meaning of RING_MSG_TX. -/
def execRingMsgTx (v : W32) (west : Bool) (s : State) : Host.Outcome State Fault Refusal := .next (s.ringMsgTx v west)
/-- The meaning of FORMING_ENTRY. -/
def execFormingEntry (s : State) : Host.Outcome State Fault Refusal := .next s.formingEntry
/-- The meaning of FORM_FRAME_SEND. -/
def execFormFrameSend (s : State) : Host.Outcome State Fault Refusal := .next s.formSend
/-- The meaning of CYC_LOST. -/
def execCycLost (s : State) : Host.Outcome State Fault Refusal := .next s.cycLost
/-- The meaning of RING_INJ_ARM. -/
def execRingInjArm (p : Fin 3) (v : W32) (s : State) : Host.Outcome State Fault Refusal := .next (s.ringInjArm p v)

end Sys2Proof.Machine
end

