-- ==== Sys2Proof/Machine/Acq.lean ====
section
/-! DEFINITION. Trigger and acquisition: the channels, the sample rows, arming and firing, trigger conditions, mask tests, groups (R444 to R459). -/

namespace Sys2Proof.Machine

/-- The ACQ page of unit `u` (R457). -/
def acqPage (u : Nat) : Nat := 0x10000 + u * 0x1000
def State.acq (s : State) (u : Nat) : AcqUnit := tabGet AcqUnit.reset u s.acqs
def State.setAcq (s : State) (u : Nat) (x : AcqUnit) : State := { s with acqs := tabSet u x s.acqs }

/-- ACQ_STAT.STATE (R458). -/
def State.acqState (s : State) (u : Nat) : Nat := s.fld (ACQ_ACQ_STAT u) 2 0
def State.setAcqState (s : State) (u st : Nat) : State := (s.wrFld (ACQ_ACQ_STAT u) 2 0 st).wrFld (acqPage u + 8) 3 0 st
def State.acqStream (s : State) (u : Nat) : Bool := s.bit (ACQ_ACQ_CTL u) 2

/-! ### Channels (R444, R445) -/

def State.chClass (s : State) (u c : Nat) : Nat := s.fld (ACQ_CH_CFG u c) 2 0
def State.chInst (s : State) (u c : Nat) : Nat := s.fld (ACQ_CH_CFG u c) 9 4
def State.chVar (s : State) (u c : Nat) : Nat := s.fld (ACQ_CH_CFG u c) 15 10

/-- Words of channel `c`: none when off. -/
def State.chLen (s : State) (u c : Nat) : Nat :=
  let v := s.chVar u c
  match s.chClass u c with
  | 0 => 0
  | 1 => if v = 0 ∨ v = 1 ∨ v = 15 then 2 else 1
  | 3 => if v = 3 then 1 else 2
  | _ => 1

/-- A descriptor is valid (R444). -/
def State.chOk (s : State) (u c : Nat) : Bool :=
  let v := s.chVar u c
  match s.chClass u c with
  | 0 => true
  | 1 => decide (v ≤ 15)
  | 2 => decide (v ≤ 13) && decide (s.chInst u c < 32)
  | 3 => decide (v ≤ 3)
  | 4 => decide (v ≤ 7)
  | _ => false

/-- The words of an axis value (R444). -/
def State.axisWords (s : State) (n v : Nat) : List W32 :=
  match v with
  | 0 => [s.rd (AXP_CMD_POS_LO n), s.rd (AXP_CMD_POS_HI n)]
  | 1 => [s.rd (AXP_ACT_POS_LO n), s.rd (AXP_ACT_POS_HI n)]
  | 2 => [s.rd (AXP_CMD_VEL n)]
  | 3 => [s.rd (AXP_CMD_ACC n)]
  | 4 => [s.rd (AXL_MON_VEL n)]
  | 5 => [s.rd (AXL_MON_FE n)]
  | 6 => [s.rd (AXL_MON_IQ_REF n)]
  | 7 => [s.rd (AXL_MON_IQ n)]
  | 8 => [s.rd (AXL_MON_ID n)]
  | 9 => [s.rd (AXL_MON_VQ n)]
  | 10 => [s.rd (AXL_MON_VD n)]
  | 11 => [s.rd (AXL_MON_VBUS n)]
  | 12 => [s.rd (AXL_MON_RC n)]
  | 13 => [s.peek (AXL_LOOP_STAT n)]
  | 14 => [s.peek (AXP_PROF_STAT n)]
  | _ => [s.rd (AXG_PHASE_OFS_LO n), s.rd (AXG_PHASE_OFS_HI n)]

/-- A value of the sample blocks of link `k` as 16.16: currents by I_FS, the voltages of a stepper stage by V_FS; AUX of a servo bridge is the stage's own quantity and free (R250, R444, log 32). -/
def State.blockWord (s : State) (k v free : Nat) : W32 :=
  let x := (s.link k).blocks.getD v 0
  let fs (a : Nat) : W32 := w32 (satTo 32 (x * (s.rd a).toNat * 65536 / 32768000))
  let stepper := s.bit (SLK_STAGE_CAPS k) 2
  if stepper && decide (2 ≤ v % 4) then fs (SLK_STAGE_VFS k) else if v % 4 = 3 then Config.freeWord free else fs (SLK_STAGE_IFS k)

/-- The words of a link value (R444). -/
def State.linkWords (s : State) (k v free : Nat) : List W32 :=
  if v < 8 then [s.blockWord k v free]
  else if v = 8 then [s.rd (SLK_VBUS k)]
  else if v = 9 then [BitVec.ofNat 32 (s.fld (SLK_STAGE_STAT k) 15 0)]
  else [BitVec.ofNat 32 (fieldPos ((s.link k).fields.getD (v - 10) []))]

/-- The words of a line value at instant `t` (R444, R445). -/
def State.lineWords (s : State) (v t : Nat) : List W32 :=
  let k := s.lineAt t
  let two (x : Int) : List W32 := [BitVec.ofNat 32 (wrapTo 64 (q32 x)), BitVec.ofNat 32 (wrapTo 64 (q32 x) / 2 ^ 32)]
  match v with
  | 0 => two k.p
  | 1 => two k.v
  | 2 => two k.a
  | _ => [s.rd LTB_STATUS]

/-- The words of channel `c` at instant `t` (R444, R445). -/
def State.chWords (s : State) (u t c : Nat) : List W32 :=
  let v := s.chVar u c
  match s.chClass u c with
  | 1 => s.axisWords (s.chInst u c) v
  | 2 => s.linkWords (s.chInst u c) v (s.free + c)
  | 3 => s.lineWords v t
  | 4 => [s.peekAny (s.rd (ACQ_REG_ADDR u v)).toNat]
  | _ => []

/-- A one-word channel as a signed number. -/
def State.chValue (s : State) (u t c : Nat) : Int := signedOf 32 ((s.chWords u t c).headD 0).toNat

/-! ### Rows (R448, R449) -/

/-- The length of a SAMPLE row in bytes. -/
def State.rowBytes (s : State) (u : Nat) : Nat := 4 * (1 + (if s.bit (ACQ_ACQ_CTL u) 3 then 2 else 0) + ((List.range 64).map fun c => s.chLen u c).sum)

/-- ROW_BYTES follows the configuration. -/
def State.showRowBytes (s : State) (u : Nat) : State := s.wr (ACQ_ROW_BYTES u) (BitVec.ofNat 32 (s.rowBytes u % 4096))

def State.regionSize (s : State) (u : Nat) : Nat := s.fld (ACQ_REGION u) 15 8 * 65536
def State.regionBase (s : State) (u : Nat) : Nat := 0x03000000 + s.fld (ACQ_REGION u) 7 0 * 65536

/-- Store bytes in the region, from offset `o` on, wrapping (R448). -/
def State.regionPut (s : State) (u o : Nat) : List Byte → State
  | [] => s
  | b :: t => (s.putByte (s.regionBase u + o % max 1 (s.regionSize u)) b).regionPut u (o + 1) t

/-- Write one row: WR_OFS and ROWS advance; in buffer mode the oldest rows are overwritten (R448, R451). -/
def State.rowWrite (s : State) (u : Nat) (ws : List W32) : State :=
  let x := s.acq u
  let n := 4 * ws.length
  let size := s.regionSize u
  let s1 := s.regionPut u x.wr (ws.flatMap fun w => leBytes 4 w.toNat)
  let s2 := s1.setAcq u { x with wr := x.wr + n, rows := ((x.wr, n) :: x.rows).filter fun r => decide (x.wr + n ≤ r.1 + size) }
  (s2.wr (ACQ_WR_OFS u) (BitVec.ofNat 32 ((x.wr + n) % max 1 size))).wr (ACQ_ROWS u) (s.rd (ACQ_ROWS u) + 1)

/-- The GAP row that covers the run of dropped samples, before the next row (R450). -/
def State.gapWrite (s : State) (u : Nat) : State :=
  match (s.acq u).gap with
  | none => s
  | some (first, n) =>
    let s1 := s.rowWrite u [0x40000000, BitVec.ofNat 32 first, BitVec.ofNat 32 n]
    ((s1.setAcq u { s1.acq u with gap := none }).count (ACQ_CNT_EV u) 15 0 (acqPage u) 7).raise (acqPage u) 4

/-- The END row, and DONE; FIRST_OFS names the oldest row still present (R449, R451, R452). -/
def State.acqEnd (s : State) (u reason : Nat) : State :=
  let s1 := (s.gapWrite u).rowWrite u [BitVec.ofNat 32 (2 * 2 ^ 30 + reason)]
  let x := s1.acq u
  let first := match x.rows.getLast? with
    | none => 0
    | some r => r.1 % max 1 (s1.regionSize u)
  (((s1.wr (ACQ_FIRST_OFS u) (BitVec.ofNat 32 first)).setAcq u { x with fired := none }).setAcqState u 4).raise (acqPage u) 2

/-! ### Groups (R454) -/

/-- The members of the dealer's group: none while DEAL_CTL.EN is 0. -/
def State.acqGroup (s : State) : List Nat :=
  if s.bit (ACQ_DEAL_CTL 0) 0 then (List.range 4).filter fun u => s.bit (ACQ_DEAL_CTL 0) (4 + u) || s.fld (ACQ_DEAL_CTL 0) 2 1 == u else []

def State.dealer (s : State) : Nat := s.fld (ACQ_DEAL_CTL 0) 2 1

/-- A group arm or fire is not applied at once with RING_TX: it goes to the ring, and acts here at T_ACT (R454). -/
def State.ringAct (s : State) (arm : Bool) (u t : Nat) : State :=
  if s.acqActs.any fun a => a.arm == arm then s
  else
    let mask := (s.acqGroup.map fun m => 2 ^ m).sum
    let tAct := t + max (s.rd (ACQ_RING_LEAD s.dealer)).toNat (4 * s.ring.cycT)
    ({ s with acqActs := s.acqActs ++ [⟨arm, mask, tAct, u, t⟩] } : State).setRing { s.ring with bcReq := s.ring.bcReq ++ [(arm, !arm, mask, tAct)] }

/-! ### Arming (R444, R448, R451, R452, R455, R456) -/

/-- The trigger configuration is refused. -/
def State.trigBad (s : State) (u : Nat) : Bool :=
  let t := ACQ_TRIG_CFG u
  let c := s.fld t 13 8
  s.bit t 7 && (decide (4 < s.fld t 2 0) || decide (1 < s.fld t 4 3) || decide (s.chLen u c ≠ 1) ||
    decide (signedOf 32 (s.rd (ACQ_TRIG_HI u)).toNat ≤ signedOf 32 (s.rd (ACQ_TRIG_LO u)).toNat))

/-- A mask test is refused. -/
def State.maskBad (s : State) (u m : Nat) : Bool :=
  let a := ACQ_MASK_CFG u m
  s.bit a 0 && (decide (s.fld a 2 1 = 3) || decide (s.chLen u (s.fld a 9 4) ≠ 1))

/-- The regions of two units share a byte. -/
def State.overlaps (s : State) (u w : Nat) : Bool :=
  decide (s.regionBase u < s.regionBase w + s.regionSize w) && decide (s.regionBase w < s.regionBase u + s.regionSize u)

/-- A REG_ADDR names a field-die register (R444). -/
def State.regAddrBad (s : State) (u : Nat) : Bool :=
  (List.range 8).any fun r => match pageOf (s.rd (ACQ_REG_ADDR u r)).toNat with
    | none => false
    | some p => (pageTempl p.kind).die == 1

/-- The configuration of unit `u` refuses an ARM. -/
def State.armBad (s : State) (u : Nat) : Bool :=
  let base := s.fld (ACQ_REGION u) 7 0
  let size := s.fld (ACQ_REGION u) 15 8
  let pre := (s.rd (ACQ_PRE u)).toNat
  let post := (s.rd (ACQ_POST u)).toNat
  !((List.range 64).all fun c => s.chOk u c) || s.regAddrBad u || decide (s.fld (ACQ_ACQ_CTL u) 1 0 = 3) || s.trigBad u ||
    ((List.range 4).any fun m => s.maskBad u m) || decide (size = 0) || decide (128 < base + size) ||
    ((List.range 4).any fun w => w != u && s.acqState w != 0 && s.overlaps u w) ||
    (!s.acqStream u && (decide (post = 0) || decide (s.regionSize u < (pre + post) * s.rowBytes u + 16)))

/-- Why an ARM of unit `u` is refused. -/
def State.armRefusal (s : State) (u : Nat) : Option ErrCode :=
  if s.acqState u ≠ 0 ∧ s.acqState u ≠ 4 then some .state else if s.armBad u then some .value else none

/-- The pre-trigger portion is full: READY, or RUN with its trigger enabled; ARMED (R452). -/
def State.preFull (s : State) (u t : Nat) : State :=
  let s1 := s.setAcq u { s.acq u with readyT := some t }
  (if s1.acqState u = 1 then s1.setAcqState u 2 else s1).raise (acqPage u) 0

/-- The arm takes effect: sampling starts at index 0, the counters except GAP_CNT and the pointers start afresh (R447, R452). -/
def State.armNow (s : State) (u : Nat) : State :=
  let s1 := (s.wr (ACQ_ACQ_STAT u) 0).each
    ([ACQ_TRIG_T_LO u, ACQ_TRIG_T_HI u, ACQ_ORIG_T_LO u, ACQ_ORIG_T_HI u, ACQ_TRIG_IDX u, ACQ_FIRST_OFS u, ACQ_TRIG_OFS u, ACQ_WR_OFS u, ACQ_RD_OFS u, ACQ_ROWS u, ACQ_CNT_EV u] ++
      (List.range 4).map fun m => ACQ_MASK_CNT u m) fun a st => st.wr a 0
  let s2 := (s1.setAcq u { AcqUnit.reset with levelT := s.dt, lowT := s.dt }).setAcqState u (if s.acqStream u ∧ s.rd (ACQ_POST u) = 0 then 5 else 1)
  if s.rd (ACQ_PRE u) = 0 then s2.preFull u s.dt else s2

/-- An ARM of unit `u` alone: refused, or waiting for the LTB step (R452). -/
def State.armOne (s : State) (u : Nat) : State :=
  match s.armRefusal u with
  | some e => s.err (acqPage u) e 0x44
  | none => s.setAcq u { s.acq u with armWait := true }

/-- An ARM written to unit `u` or aimed at it: the dealer arms its group, another member is refused (R452, R454). -/
def State.acqArm (s : State) (u : Nat) : State :=
  let g := s.acqGroup
  if !g.contains u then s.armOne u
  else if u ≠ s.dealer then s.err (acqPage u) .state 0x44
  else if s.bit (ACQ_DEAL_CTL 0) 8 then
    match s.armRefusal u with
    | some e => s.err (acqPage u) e 0x44
    | none => s.ringAct true u s.dt
  else s.each g fun m st => st.armOne m

/-- The local arms that wait take effect, at an LTB step boundary (R452). -/
def State.armEffect (s : State) : State :=
  if s.dt % 4096 ≠ 0 then s else s.each ((List.range 4).filter fun u => (s.acq u).armWait) fun u st => st.armNow u

/-! ### Firing (R453, R454) -/

/-- A fire acts on unit `u`, for the trigger instant `t` and the originating instant `orig`. -/
def State.fireOne (s : State) (u src t orig : Nat) : State :=
  let st := s.acqState u
  let full := (s.acq u).readyT.isSome
  if st = 2 ∨ (st = 5 ∧ full = true) then
    let s1 := (((s.wr64 (ACQ_TRIG_T_LO u) t).wr64 (ACQ_ORIG_T_LO u) orig).wrFld (ACQ_ACQ_STAT u) 10 8 src).setAcq u { s.acq u with fired := some t, post := 0 }
    (if st = 2 then s1.setAcqState u 3 else s1).raise (acqPage u) 1
  else if st = 1 ∨ st = 5 then ((s.wrBit (ACQ_ACQ_STAT u) 3 true).count (ACQ_CNT_EV u) 31 16 (acqPage u) 7).raise (acqPage u) 5
  else s

/-- A fire of unit `u` from source `src` at instant `t`: a member's fire fires its group, at once or over the ring (R453, R454). -/
def State.acqFire (s : State) (u src t : Nat) : State :=
  let g := s.acqGroup
  let ready := s.acqState u == 2 || (s.acqState u == 5 && (s.acq u).readyT.isSome)
  if !(g.contains u && ready) then s.fireOne u src t t
  else if s.bit (ACQ_DEAL_CTL 0) 8 then ((s.wr64 (ACQ_ORIG_T_LO u) t).wrFld (ACQ_ACQ_STAT u) 10 8 src).ringAct false u t
  else (s.fireOne u src t t).each (g.filter fun m => m != u) fun m st => st.fireOne m 5 t t

/-- A STOP ends a capture with an END row (R452). -/
def State.acqStop (s : State) (u : Nat) : State :=
  let st := s.acqState u
  if st = 1 ∨ st = 2 ∨ st = 3 ∨ st = 5 then s.acqEnd u 2 else s.setAcq u { s.acq u with armWait := false }

/-- RESET: IDLE, pointers and TRIG registers cleared (R452). -/
def State.acqReset (s : State) (u : Nat) : State :=
  let s1 := (s.wr (ACQ_ACQ_STAT u) 0).each
    [ACQ_TRIG_T_LO u, ACQ_TRIG_T_HI u, ACQ_ORIG_T_LO u, ACQ_ORIG_T_HI u, ACQ_TRIG_IDX u, ACQ_FIRST_OFS u, ACQ_TRIG_OFS u, ACQ_WR_OFS u, ACQ_RD_OFS u] fun a st => st.wr a 0
  (s1.setAcq u AcqUnit.reset).setAcqState u 0

/-- An arm or fire over the ring acts on the units of a mask; `own`: this node originated it (R454). -/
def State.actUnits (s : State) (arm : Bool) (units : List Nat) (t : Nat) (own : Option AcqAct) : State :=
  s.each units fun u st =>
    if arm then (match st.armRefusal u with
      | some e => st.err (acqPage u) e 0x44
      | none => st.armNow u)
    else
      match own with
      | none => st.fireOne u 6 t t
      | some a => st.fireOne u (if u = a.unit then st.fld (ACQ_ACQ_STAT u) 10 8 else 5) t a.orig

/-- The arms and fires whose T_ACT has come act: those of this node, and the last broadcast received with RING_RX set. A request that the ring has not taken sets RING_FAIL (R454). -/
def State.acqRingAct (s : State) : State :=
  let due := s.acqActs.filter fun a => decide (a.tAct ≤ s.dt)
  let s1 : State := { s with acqActs := s.acqActs.filter fun a => decide (s.dt < a.tAct) }
  let s2 := s1.each due fun a st =>
    let failed := st.ring.bcReq.any fun r => r.1 == a.arm && r.2.2.2 == a.tAct
    let units := (List.range 4).filter fun u => decide (a.mask / 2 ^ u % 2 = 1)
    let st1 := st.actUnits a.arm units a.tAct (some a)
    if failed then
      (st1.setRing { st1.ring with bcReq := st1.ring.bcReq.filter fun r => !(r.1 == a.arm && r.2.2.2 == a.tAct) }).each units fun u st =>
        (st.wrBit (ACQ_ACQ_STAT u) 5 true).raise (acqPage u) 6
    else st1
  match s2.ring.bcast with
  | none => s2
  | some (arm, fire, mask, t) =>
    if s.dt < t then s2
    else
      let units := (List.range 4).filter fun u => decide (mask / 2 ^ u % 2 = 1) && (s.bit (ACQ_DEAL_CTL 0) (4 + u) || s.acqGroup.contains u)
      let s3 := s2.setRing { s2.ring with bcast := none }
      if !s.bit (ACQ_DEAL_CTL 0) 9 then s3
      else (if arm then s3.actUnits true units t none else s3).when fire fun st => st.actUnits false units t none

/-- A filtered edge of FLI pin `k` at instant `t` fires the units that watch it (R453). -/
def State.acqPin (s : State) (k t : Nat) : State :=
  s.each ((List.range 4).filter fun u => s.bit (ACQ_TRIG_CFG u) 14 && s.fld (ACQ_TRIG_CFG u) 18 15 == k) fun u st => st.acqFire u 2 t

/-- The action ACQ_FIRE of the angle scheduler (R71, R453). -/
def State.acqSched (s : State) (u t : Nat) : State := if s.bit (ACQ_TRIG_CFG u) 19 then s.acqFire u 3 t else s

/-! ### Trigger conditions (R455) -/

/-- The comparison of a duration by WCMP. -/
def wcmp (k d t1 t2 : Nat) : Bool :=
  match k with
  | 0 => decide (d < t1)
  | 1 => decide (t1 < d)
  | 2 => decide (t1 ≤ d) && decide (d ≤ t2)
  | _ => decide (d < t1) || decide (t2 < d)

/-- The level follows a sample of value `x` at `t`, and whether the condition of type `ty` is met (R455). `lo` and `hi` are the thresholds, POL already applied. -/
def AcqUnit.judge (q : AcqUnit) (ty wc t1 t2 : Nat) (lo hi x : Int) (t : Nat) : AcqUnit × Bool :=
  let up := decide (hi ≤ x) && !q.high
  let down := decide (x ≤ lo) && q.high
  let high := if up then true else if down then false else q.high
  let from3 := max q.levelT (q.readyT.getD t)
  let met :=
    match ty with
    | 0 => up
    | 1 => down && wcmp wc (t - q.levelT) t1 t2
    | 2 => decide (x ≤ lo) && q.rising && !q.high
    | 3 => !(up || down) && decide (t1 ≤ t - from3) && (decide (q.judgedT < from3 + t1) || decide (q.judgedT < q.readyT.getD t))
    | _ => up && wcmp wc (t - q.lowT) t1 t2
  ({ q with
      high := high
      levelT := if up || down then t else q.levelT
      lowT := if x ≤ lo then t else q.lowT
      rising := if x ≤ lo then false else !high && (q.rising || !q.high)
      judgedT := t }, met)

/-- The channel condition of unit `u` at this sample: followed from arming, judged from the first sample of READY (R455). -/
def State.judgeTrig (s : State) (u t : Nat) : State :=
  let a := ACQ_TRIG_CFG u
  if !s.bit a 7 then s
  else
    let v := s.chValue u t (s.fld a 13 8)
    let lo := signedOf 32 (s.rd (ACQ_TRIG_LO u)).toNat
    let hi := signedOf 32 (s.rd (ACQ_TRIG_HI u)).toNat
    let neg := s.fld a 4 3 == 1
    let (q, met) := (s.acq u).judge (s.fld a 2 0) (s.fld a 6 5) (s.rd (ACQ_TRIG_T1 u)).toNat (s.rd (ACQ_TRIG_T2 u)).toNat
      (if neg then -hi else lo) (if neg then -lo else hi) (if neg then -v else v) t
    let s1 := s.setAcq u q
    if met && q.readyT.isSome && (s.acqState u == 2 || s.acqState u == 5) then s1.acqFire u 1 t else s1

/-! ### Mask tests (R456) -/

/-- The entry index of test `m` at this sample, or none while it does not run. `j` is the number of the crossed angle in ANGLE mode. -/
def State.maskIndex (s : State) (u m idx : Nat) (j : Int) : Option Nat :=
  let len := max 1 (s.fld (ACQ_MASK_LEN u m) 16 0)
  if s.bit (ACQ_MASK_CFG u m) 3 then some (if s.fld (ACQ_ACQ_CTL u) 1 0 = 2 then (j % (len : Int)).toNat else idx % len)
  else if s.acqState u = 3 ∨ (s.acqState u = 5 ∧ s.fld (ACQ_ACQ_STAT u) 10 8 ≠ 0) then
    if (s.acq u).fired.isSome then none
    else
      let i := (idx + 2 ^ 32 - (s.rd (ACQ_TRIG_IDX u)).toNat) % 2 ^ 32
      if i < len then some i else none
  else none

/-- Test `m` finds a violation: counted, and ACT 1 fires the unit; the answer says whether ACT asks to stop the capture (R456). -/
def State.maskTest (s : State) (u m idx t : Nat) (j : Int) : Bool × State :=
  let a := ACQ_MASK_CFG u m
  match if s.bit a 0 then s.maskIndex u m idx j else none with
  | none => (false, s)
  | some i =>
    let x := s.chValue u t (s.fld a 9 4)
    let b := (s.rd (ACQ_MASK_BASE u m)).toNat + 8 * i
    if x < signedOf 32 (s.memNat b 4) ∨ signedOf 32 (s.memNat (b + 4) 4) < x then
      let s1 := (s.count (ACQ_MASK_CNT u m) 15 0 (acqPage u) 7).raise (acqPage u) 3
      match s.fld a 2 1 with
      | 1 => (false, s1.acqFire u 7 t)
      | 2 => (true, s1)
      | _ => (false, s1)
    else (false, s)

/-- The four tests. -/
def State.maskTests (s : State) (u idx t : Nat) (j : Int) : Bool × State :=
  (List.range 4).foldl (fun (acc : Bool × State) m =>
    let (b, st) := acc.2.maskTest u m idx t j
    (acc.1 || b, st)) (false, s)

/-! ### Samples (R446, R447, R450) -/

/-- Unit `u` samples: FILL, READY, POST or RUN. -/
def State.acqOn (s : State) (u : Nat) : Bool :=
  let st := s.acqState u
  st == 1 || st == 2 || st == 3 || st == 5

/-- A sample instant of slot `n`: for the units in LOOP mode that follow it, every DIV-th since their arming is one of theirs (R446). -/
def State.loopTick (s : State) (n : Nat) : State :=
  s.each ((List.range 4).filter fun u => s.acqOn u && s.fld (ACQ_ACQ_CTL u) 1 0 == 0 && s.fld (ACQ_ACQ_CTL u) 9 4 == n) fun u st =>
    let x := st.acq u
    st.setAcq u { x with clk := x.clk + 1, due := if x.clk % max 1 (st.fld (ACQ_ACQ_CTL u) 31 16) = 0 then some st.dt else x.due }

/-- The run of slot `n` that took its sample at `t` has given its values: its apply instant has come (R445). -/
def State.runGiven (s : State) (n t : Nat) : Bool :=
  let x := s.servo n
  x.sampleT != some t || (!x.inProgress s.dt && (!s.isStage n || decide (t + s.applyOfs n ≤ s.dt)))

/-- The line crosses j / ANG_DIV at `t`, or has crossed it within the last line step, where a crossing that was not predicted is seen (R446, R74). -/
def State.angCross (s : State) (u t : Nat) (j : Int) : Bool :=
  let k := s.lineAt t
  let div : Int := max 1 (s.fld (ACQ_ANG_DIV u) 16 0 : Nat)
  decide ((k.p * div - j * 2 ^ 64).natAbs ≤ div.natAbs * (k.v.natAbs / 900000 + k.a.natAbs / 1000000000000 + 2 ^ 32))

/-- Whether `t` is a sample instant of unit `u`; in ANGLE mode, of the crossing number `j` (R446). -/
def State.acqInstant (s : State) (u t : Nat) (j : Int) : Bool :=
  let newer := match (s.acq u).lastT with
    | none => true
    | some l => decide (l < t)
  newer &&
    (match s.fld (ACQ_ACQ_CTL u) 1 0 with
     | 0 => (s.acq u).due == some t && s.runGiven (s.fld (ACQ_ACQ_CTL u) 9 4) t
     | 1 => decide (t % max 4000 (s.rd (ACQ_INTERVAL u)).toNat = 0)
     | _ => s.angCross u t j)

/-- The instant that stands for a sample now: in LOOP mode the sample instant of CLK_SLOT's run (R445, R446). -/
def State.acqNow (s : State) (u : Nat) : Nat := if s.fld (ACQ_ACQ_CTL u) 1 0 = 0 then (s.acq u).due.getD s.dt else s.dt

/-- `n` samples from index `idx` on are dropped: GAP_CNT, the run, and POST count them (R450). -/
def State.acqDrop (s : State) (u idx n : Nat) : State :=
  let x := s.acq u
  let gap := match x.gap with
    | none => (idx, n)
    | some (f, k) => (f, k + n)
  let v := (s.rd (ACQ_GAP_CNT u)).toNat
  let full := decide (v < 4294967295) && decide (4294967295 ≤ v + n)
  ((s.setAcq u { x with gap := some gap }).wr (ACQ_GAP_CNT u) (BitVec.ofNat 32 (min 4294967295 (v + n)))).raiseIf full (acqPage u) 7

/-- The trigger sample: the first at or after the trigger instant (R453). -/
def State.trigSample (s : State) (u idx t : Nat) : State :=
  let x := s.acq u
  match x.fired with
  | none => s
  | some tt =>
    if tt ≤ t then (s.setAcq u { x with fired := none, post := 0 }).wr (ACQ_TRIG_IDX u) (BitVec.ofNat 32 idx) else s

/-- After the sample of index `idx`: POST counts it, the pre-trigger portion fills (R452). `n` samples have been counted. -/
def State.acqAdvance (s : State) (u idx n t : Nat) : State :=
  let x := s.acq u
  let st := s.acqState u
  if st = 3 ∧ x.fired = none then
    let p := x.post + n
    let s1 := s.setAcq u { x with post := p }
    if (s.rd (ACQ_POST u)).toNat ≤ p ∧ s.rd (ACQ_POST u) ≠ 0 then s1.acqEnd u 1 else s1
  else if x.readyT = none ∧ (s.rd (ACQ_PRE u)).toNat ≤ idx + n then s.preFull u t
  else s

/-- The SAMPLE row of index `idx` at `t`. -/
def State.sampleRow (s : State) (u idx t : Nat) : List W32 :=
  [BitVec.ofNat 32 (idx % 2 ^ 30)] ++ (if s.bit (ACQ_ACQ_CTL u) 3 then [BitVec.ofNat 32 t, BitVec.ofNat 32 (t / 2 ^ 32)] else []) ++ (List.range 64).flatMap fun c => s.chWords u t c

/-- One sample at instant `t` (R445 to R456). `j` is the number of the crossed angle, `full` says that the write queue is full. -/
def State.acqTake (s : State) (u t : Nat) (j : Int) (full : Bool) : State :=
  let x := s.acq u
  let idx := x.idx
  let close := match x.lastT with
    | none => false
    | some l => decide (t < l + 4000)
  let row := s.sampleRow u idx t
  let s1 := (s.setAcq u { x with idx := (idx + 1) % 2 ^ 32, lastT := some t, due := none }).judgeTrig u t
  let s2 := s1.trigSample u idx t
  let (stop, s3) := s2.maskTests u idx t j
  -- a mask fire makes this sample the trigger sample
  let s4 := s3.trigSample u idx t
  let now := (s4.acq u).post == 0 && s4.rd (ACQ_TRIG_IDX u) == BitVec.ofNat 32 idx && s4.fld (ACQ_ACQ_STAT u) 10 8 != 0 && (s4.acq u).fired.isNone
  let y := s4.acq u
  let space := s.regionSize u - (y.wr - y.rdp)
  let drop := full || close || (s.acqStream u && decide (space < s.rowBytes u + 16))
  let s5 :=
    if drop then s4.acqDrop u idx 1
    else
      let g := s4.gapWrite u
      let g1 := if now then g.wr (ACQ_TRIG_OFS u) (g.rd (ACQ_WR_OFS u)) else g
      g1.rowWrite u row
  let s6 := (s5.takeFree 64).2
  -- a fire in the same sample acts, and a mask stop does not (R453)
  if stop && !now then (s6.wrBit (ACQ_ACQ_STAT u) 4 true).acqEnd u 3 else s6.acqAdvance u idx 1 t

/-- ACQ_SAMPLE: a sample instant of unit `u` while it is armed (R446). -/
def State.acqSample (s : State) (u : Nat) (j : Int) (full : Bool) : State :=
  let t := s.acqNow u
  if s.acqOn u && s.acqInstant u t j then s.acqTake u t j full else s

/-- Device time has stepped from `t0`: a TIME unit takes one sample at the step and drops the other instants that were skipped (R447). -/
def State.acqStepped (s : State) (t0 : Nat) : State :=
  s.each ((List.range 4).filter fun u => s.fld (ACQ_ACQ_CTL u) 1 0 == 1 && decide (s.acqState u ≠ 0) && decide (s.acqState u ≠ 4)) fun u st =>
    let i := max 4000 (st.rd (ACQ_INTERVAL u)).toNat
    let n := st.dt / i - t0 / i
    if n = 0 then st
    else
      let s1 := st.acqTake u st.dt 0 false
      if n = 1 ∨ s1.acqState u = 4 then s1
      else
        let idx := (s1.acq u).idx
        ((s1.setAcq u { s1.acq u with idx := (idx + n - 1) % 2 ^ 32 }).acqDrop u idx (n - 1)).acqAdvance u idx (n - 1) st.dt

/-- A write of RD_OFS frees stream rows; beyond WR_OFS it is ignored and recorded (R451). -/
def State.rdOfsWrite (s : State) (u : Nat) (v : W32) : State :=
  let x := s.acq u
  let size := max 1 (s.regionSize u)
  let d := (v.toNat + size - x.rdp % size) % size
  if size ≤ v.toNat ∨ x.wr - x.rdp < d then s.err (acqPage u) .value 0x94
  else (s.setAcq u { x with rdp := x.rdp + d }).wr (ACQ_RD_OFS u) v

/-! ### Commands -/

def execAcqCmdArm (u : Fin 4) (s : State) : Host.Outcome State Fault Refusal := .next (s.acqArm u.val)

def execAcqArmEffect (s : State) : Host.Outcome State Fault Refusal := .next s.armEffect

def execAcqCmdFire (u : Fin 4) (s : State) : Host.Outcome State Fault Refusal := .next (s.acqFire u.val 4 s.dt)

def execAcqCmdStop (u : Fin 4) (s : State) : Host.Outcome State Fault Refusal := .next (s.acqStop u.val)

def execAcqCmdReset (u : Fin 4) (s : State) : Host.Outcome State Fault Refusal := .next (s.acqReset u.val)

def execAcqSample (u : Fin 4) (j : Int) (full : Bool) (s : State) : Host.Outcome State Fault Refusal := .next (s.acqSample u.val j full)

def execRdOfsWrite (u : Fin 4) (v : W32) (s : State) : Host.Outcome State Fault Refusal := .next (s.rdOfsWrite u.val v)

def execAcqRingAct (s : State) : Host.Outcome State Fault Refusal := .next s.acqRingAct

end Sys2Proof.Machine
end

