-- ==== Sys2Proof/Machine/Feedback.lean ====
section
/-! DEFINITION. The feedback ports and the encoder emulation: counts, samples, index check, serial readings, Hall codes, loss of position, emulated edges (R332 to R357). -/

namespace Sys2Proof.Machine

def fbpPage (p : Nat) : Nat := 0x240000 + p * 0x1000

/-- The mode in force (R333). -/
def State.portMode (s : State) (p : Nat) : Nat := s.actFld (FBP_FB_CTL p) 2 0
def State.portValid (s : State) (p : Nat) : Bool := s.bit (FBP_FB_STAT p) 3
def State.cpt (s : State) (p : Nat) : Int := (s.act (FBP_CPT p)).toNat

/-- Incremental modes (R333). -/
def State.incremental (s : State) (p : Nat) : Bool :=
  match s.portMode p with
  | 1 => true
  | 4 => true
  | 5 => true
  | 6 => s.actFld (FBP_RES_CFG p) 7 0 != 1
  | _ => false

/-- INV_DIR turns the count of ABZ and HALL (R354). -/
def State.dirSign (s : State) (p : Nat) : Int := if (s.portMode p == 1 || s.portMode p == 4) && s.actBit (FBP_FB_CTL p) 3 then -1 else 1

/-! ### Direction (R341) -/

/-- DIR after the count has become `c`: it turns when the count has moved DIR_HYST counts back from its extreme. -/
def State.direction (s : State) (p : Nat) (c : Int) : State :=
  let x := s.port p
  let h : Int := s.fld (FBP_DIR_HYST p) 15 0
  let neg := s.bit (FBP_FB_STAT p) 5
  let back := if neg then c - x.turnAt else x.turnAt - c
  if 0 < back ∧ h ≤ back then ((s.setPort p { x with turnAt := c }).wrBit (FBP_FB_STAT p) 5 (!neg)).raise (fbpPage p) 3
  else if back < 0 then s.setPort p { x with turnAt := c }
  else s

/-- The count of port `p` becomes `c` (R335). -/
def State.setCount (s : State) (p : Nat) (c : Int) : State :=
  ((s.setPort p { s.port p with count := c }).wr (FBP_COUNT p) (w32 c)).direction p c

/-- The field-die counter moves by `d` (R333). -/
def State.moveB (s : State) (p : Nat) (d : Int) : State :=
  let c := (s.port p).countB + d
  (s.setPort p { s.port p with countB := c }).wr (FBP_POSB p) (w32 c)

/-! ### Validity (R348) -/

/-- The serial limit SER_LIM. -/
def State.serLim (s : State) (p : Nat) : Nat := max 1 (s.actFld (FBP_SER_CFG p) 27 24)

/-- FB_STAT.VALID, mirrored in PAGE_STAT.STATE (R353). -/
def State.showValid (s : State) (p : Nat) (v : Bool) : State := (s.wrBit (FBP_FB_STAT p) 3 v).wrFld (fbpPage p + 8) 3 0 (cond v 1 0)

/-- The bound slot, if any (R337). -/
def State.slotOfPort (s : State) (p : Nat) : Option Nat := if s.actBit (FBP_BIND p) 6 then some (s.actFld (FBP_BIND p) 5 0) else none

/-- VALID clears for cause `c`, with POS_INVALID; an incremental port also loses its reference (R348). -/
def State.lossShown (s : State) (p c : Nat) : State :=
  let s1 := (s.showValid p false).wrFld (FBP_FB_STAT p) 18 16 c
  let s2 := if s.incremental p then (s1.wrBit (FBP_FB_STAT p) 6 false).setPort p { s1.port p with seekRef := true } else s1
  s2.raise (fbpPage p) 0

/-- A fault of port `p` acts on every slot that takes its position from the port: the bound slot, and the slots whose coupling follows the port (R28, R340, R348). -/
def State.portFault (s : State) (p : Nat) (cls : FaultClass) (cause : Option FaultCause) : State :=
  let s1 := match s.slotOfPort p with
    | none => s
    | some n => s.faultFrom n cls cause
  s1.each ((s.portSlaves p).filter fun m => s.slotOfPort p != some m) fun m st => st.faultFrom m cls none

/-- The slot bound to port `p` loses its position: HOMED of an incremental port, a line of source 2 (R38, R348). -/
def State.boundLoss (s : State) (p : Nat) : State :=
  match s.slotOfPort p with
  | none => s
  | some n => (if s.incremental p then s.wrBit (AXP_PROF_STAT n) 7 false else s).slotPosLost n

/-- What a lost position does outside the port: TORQUE OFF on every slot that takes its position from it, MASTER_LOST on its slaves, line loss (R28, R38, R114, R348). -/
def State.afterLoss (s : State) (p : Nat) : State :=
  ((((s.portFault p .torqueOff (some .feedback)).boundLoss p).each (s.portSlaves p) fun n st => st.masterLost n)).portLineLost p

/-- The position of a port is lost for cause `c` (R348). -/
def State.posLost (s : State) (p c : Nat) : State := if !s.portValid p then s else (s.lossShown p c).afterLoss p

/-- The pairs in use: all three in ABZ, IN0 in the serial modes (R333, R338). -/
def State.pairsUsed (s : State) (p : Nat) : Nat :=
  match s.portMode p with
  | 1 => 7
  | 2 => 1
  | 3 => 1
  | _ => 0

/-- A pair stays below 200 mV for 1 µs (R338, R348). -/
def State.wireBreak (s : State) (p k : Nat) : State :=
  if s.pairsUsed p / 2 ^ k % 2 = 1 then (s.wrBit (FBP_FB_STAT p) (12 + k) true).posLost p 1 else s

/-- Two quadrature edges come too close: the count stays, and SER_LIM consecutive LTB steps with one lose the position (R338, R348). -/
def State.quadErr (s : State) (p : Nat) : State :=
  if s.portMode p ≠ 1 then s
  else
    let x := s.port p
    let now := s.dt / 4096
    let run := if x.quadRun ≠ 0 ∧ x.quadAt = now then x.quadRun else if x.quadRun ≠ 0 ∧ x.quadAt + 1 = now then x.quadRun + 1 else 1
    let s1 := (s.setPort p { x with quadAt := now, quadRun := run }).raise (fbpPage p) 5
    if s.serLim p ≤ run then s1.posLost p 2 else s1

/-- A radius of `mv` mV: SC_AMP shows it, and the smallest since the last read (R345). -/
def State.ampShow (s : State) (p mv : Nat) : State :=
  let a := FBP_SC_AMP p
  let x := s.port p
  ((s.setPort p { x with ampSeen := true }).wrFld a 15 0 mv).wrFld a 31 16 (if x.ampSeen then min (s.fld a 31 16) mv else mv)

/-- Four conversions in succession outside the window: SC_AMP shows the radius (R345). -/
def State.ampLoss (s : State) (p mv : Nat) : State :=
  if s.portMode p = 5 ∨ s.portMode p = 6 then (s.ampShow p mv).posLost p 3 else s

/-- A read of an analog register of port `p` shows what the field die has at that instant: the present radius, and with AUTO the offsets and the gain in use (R345).
These are measurements, so each is a free value (log 27). -/
def State.analogRead (s : State) (p o : Nat) : State :=
  let w := Config.freeWord s.free
  let auto := s.portMode p == 5 && s.bit (FBP_SC_CFG p) 4
  if o = 0xAC ∧ (s.portMode p = 5 ∨ s.portMode p = 6) then s.nextFree.2.ampShow p (w.toNat % 65536)
  else if o = 0xA4 ∧ auto = true then s.nextFree.2.wr (FBP_SC_OFS p) w
  else if o = 0xA8 ∧ auto = true then s.nextFree.2.wrFld (FBP_SC_GAIN p) 15 0 (w.toNat % 65536)
  else s

/-- The tracking loop's error exceeds 30° (R346). -/
def State.trackErr (s : State) (p : Nat) : State := if s.portMode p = 6 then s.posLost p 6 else s

/-! ### Index (R339, R340) -/

/-- An index reaches the port only in ABZ, and in SINCOS with REF_EN (R337, R345). -/
def State.hasIdx (s : State) (p : Nat) : Bool := s.portMode p == 1 || (s.portMode p == 5 && s.actBit (FBP_FB_CTL p) 5)

/-- `e` reduced modulo `per` into [−per/2, per/2). -/
def reduceMod (e per : Int) : Int := if per ≤ 0 then e else (e + per / 2) % per - per / 2

/-- The position, in units of 2^-64 turns, of a count (R335). -/
def State.posOfCount (s : State) (p : Nat) (c : Int) : Int := if s.cpt p = 0 then 0 else q64 (c * 4294967296 / s.cpt p)

/-- MISS_RUN goes up: INDEX_FAULT where it has reached K (R340). -/
def State.missUp (s : State) (p : Nat) : State :=
  let k := max 1 (s.fld (FBP_IDX_CFG p) 11 8)
  let m := s.fld (FBP_FB_STAT p) 11 8 + 1
  let s1 := s.wrFld (FBP_FB_STAT p) 11 8 (min 15 m)
  if k ≤ m then (s1.raise (fbpPage p) 1).portFault p (classOf (s.fld (FBP_FAULT_CFG p) 2 0)) none
  else s1

/-- The check of an index at count `c` (R339). -/
def State.indexCheck (s : State) (p : Nat) (c : Int) : State :=
  let x := s.port p
  let per : Int := if s.rd (FBP_INDEX_PER p) = 0 then s.cpt p else (s.rd (FBP_INDEX_PER p)).toNat
  let e := reduceMod (c - x.idxRef) per
  let s1 := s.wr (FBP_IDX_ERR p) (w32 e)
  let s2 :=
    if e.natAbs ≤ s.fld (FBP_IDX_CFG p) 7 0 then s1.wrFld (FBP_FB_STAT p) 11 8 0
    else ((s1.raise (fbpPage p) 2).count (FBP_IDX_CNT p) 15 0 (fbpPage p) 9).missUp p
  if s.bit (FBP_IDX_CFG p) 12 ∧ e ≠ 0 then s2.setCount p (c - e) else s2

/-- An index pulse, `d` edges after the last count taken: homing captures it, the first one sets IDX_REF, a later one is checked (R145, R339). -/
def State.indexPulse (s : State) (p : Nat) (d dB : Int) : State :=
  if !s.hasIdx p then s
  else
    let c := (s.port p).count + s.dirSign p * d
    let s1 := (s.setCount p c).moveB p dB
    if !s.portValid p then s1
    else
      let s2 := s1.wrapUp (FBP_IDX_CNT p) 31 16
      let s3 :=
        match s2.slotOfPort p with
        | none => s2
        | some n => s2.homeCapture n true s2.dt (s2.posOfCount p c + (s2.axis n).posOfs)
      let x := s3.port p
      if x.seekRef then (s3.setPort p { x with seekRef := false, idxRef := c }).wrBit (FBP_FB_STAT p) 6 true
      else s3.indexCheck p c

/-- REF_RESET: the next index sets IDX_REF (R339). -/
def State.refReset (s : State) (p : Nat) : State := (s.setPort p { s.port p with seekRef := true }).wrBit (FBP_FB_STAT p) 6 false

/-! ### Samples (R335, R336) -/

/-- The count at time `t` in units of 2^-32: whole in the counted modes, extrapolated from the two latest readings in the serial ones; none before the first reading. -/
def State.countAt (s : State) (p t : Nat) : Option Int :=
  let x := s.port p
  let m := s.portMode p
  if m = 2 ∨ m = 3 then
    match x.reads with
    | [] => none
    | [r] => some (r.2 * 4294967296)
    | r :: q :: _ =>
      let n : Int := (r.1 : Int) - q.1
      some (r.2 * 4294967296 + (if n ≤ 0 then 0 else (r.2 - q.2) * 4294967296 * ((t : Int) - r.1) / n))
  else some (x.count * 4294967296)

/-- Store a sample: POS, VEL and SMP_T (R335, R353). -/
def State.takeSmp (s : State) (p t : Nat) (c : Int) : State :=
  let x := s.port p
  let pos := if s.cpt p = 0 then 0 else q64 (c / s.cpt p)
  let new : PosSample := ⟨t, pos⟩
  let old : PosSample := if x.sampled then x.new else new
  let s1 := s.setPort p { x with new := new, old := old, sampled := true, at32 := c }
  ((s1.wr64 (FBP_POS_LO p) (pos32 pos)).wr (FBP_VEL p) (vel16 (extrapolate new old t).v)).wr64 (FBP_SMP_T_LO p) t

/-- A sample at the present instant. `d` and `dB` are the counts that the signals of modes 1, 5 and 6 have moved the two counters since the last count taken (R336). -/
def State.portSample (s : State) (p : Nat) (d dB : Int) : State :=
  match s.portMode p with
  | 0 => s
  | m =>
    let s1 := if m = 1 ∨ m = 5 ∨ m = 6 then (if d = 0 then s else s.setCount p ((s.port p).count + s.dirSign p * d)).moveB p dB else s
    match s1.countAt p s1.dt with
    | none => s1
    | some c => if (s1.port p).sampled ∧ (s1.port p).new.t = s1.dt ∧ d = 0 then s1 else s1.takeSmp p s1.dt c

/-- The counts moved for port `p` in a list that names each port's two counters. -/
def movedOf (ds : List (Int × Int)) (p : Nat) : Int × Int := ds.getD p (0, 0)

/-- Every port takes its sample at an LTB step (R336). -/
def State.portsSample (s : State) (ds : List (Int × Int)) : State :=
  s.each (List.range 12) fun p st => st.portSample p (movedOf ds p).1 (movedOf ds p).2

/-- The ports that a slot's sample instant samples: its own and the one it follows (R336). -/
def State.portsOf (s : State) (n : Nat) : List Nat :=
  (List.range 12).filter fun p => s.slotOfPort p == some n || (decide ((s.gear n).phase ≠ .idle) && (s.gear n).law.msrc == 3 && (s.gear n).law.minst == p)

/-! ### Serial encoders (R342 to R344) -/

/-- The number that a list of bits spells, most significant bit first. -/
def bitsNat (l : List Bool) : Nat := l.foldl (fun a b => 2 * a + (cond b 1 0)) 0

/-- Gray code to binary, `n` bits. -/
def grayBin (l : List Bool) : List Bool := (l.foldl (fun (acc : List Bool × Bool) b => (acc.1 ++ [acc.2 != b], acc.2 != b)) ([], false)).1

/-- The 6-bit CRC of BiSS-C over a list of bits: polynomial x^6 + x + 1, initial value 0, output inverted (R343). -/
def crc6 (l : List Bool) : Nat :=
  63 - l.foldl (fun r b => let fb := (decide (32 ≤ r)) != b; let r2 := r * 2 % 64; if fb then r2 ^^^ 3 else r2) 0

/-- What a serial frame says: whether it is valid, its data word, its warning. -/
structure SerRead where
  ok : Bool
  word : Nat
  warn : Bool
deriving DecidableEq, Repr

/-- A frame of SSI: leading bits, data, status bits, parity, and with RING a second reading that must be equal (R342, R344). -/
def State.readSsi (s : State) (p : Nat) (bits : List Bool) : SerRead :=
  let a := FBP_SER_CFG p
  let w := s.actFld a 4 0 + s.actFld a 9 5
  let lead := s.actFld a 18 16
  let ns := s.actFld a 15 14
  let par := s.actFld a 13 12
  let data := (bits.drop lead).take w
  let status := (bits.drop (lead + w)).take ns
  let parBit := bits.getD (lead + w + ns) false
  let len := lead + w + ns + (if par = 0 then 0 else 1)
  let odd := (data ++ status).foldl (fun x b => x != b) false
  let parOk := par == 0 || (if par = 1 then parBit == odd else parBit != odd)
  let errOn := decide (0 < ns) && (status.getD (ns - 1) false == s.actBit a 19)
  let ringOk := !s.actBit a 11 || ((bits.drop (len + lead)).take w == data)
  let word := bitsNat (if s.actBit a 10 then grayBin data else data)
  ⟨decide (data.length = w) && parOk && !errOn && ringOk, word, false⟩

/-- A frame of BiSS-C from CDS on: CDS, data, nE, nW, CRC (R343, R344). -/
def State.readBiss (s : State) (p : Nat) (bits : List Bool) : SerRead :=
  let a := FBP_SER_CFG p
  let w := s.actFld a 4 0 + s.actFld a 9 5
  let data := (bits.drop 1).take w
  let ne := bits.getD (1 + w) false
  let nw := bits.getD (2 + w) false
  let crc := bitsNat ((bits.drop (3 + w)).take 6)
  ⟨decide (data.length = w) && ne && decide (crc = crc6 (data ++ [ne, nw])), bitsNat data, !nw⟩

/-- An invalid reading (R344, R348). -/
def State.serBad (s : State) (p : Nat) : State :=
  let x := s.port p
  let s1 := ((s.setPort p { x with serErr := x.serErr + 1 }).raise (fbpPage p) 4).count (FBP_SER_CNT p) 15 0 (fbpPage p) 9
  if s.serLim p ≤ x.serErr + 1 then s1.posLost p 4 else s1

/-- How long a transaction lasts: four clock periods more than its data bits, and the line delay, which the port knows in SSI (R336, R342). -/
def State.serTicks (s : State) (p : Nat) : Nat :=
  (s.actFld (FBP_SER_CFG p) 4 0 + s.actFld (FBP_SER_CFG p) 9 5 + 4) * (40 * (s.actFld (FBP_SER_TIME p) 9 0 + 1)) +
    (if s.portMode p = 2 then s.actFld (FBP_SER_TIME p) 31 16 else 0)

/-- A transaction starts at the present instant: SER_LEAD before a sample instant of the bound slot, every SER_PER ticks without one (R336).
The sample grid is met to two ticks, as a sample period need not be a whole number of ticks; an instant inside a transaction, or in SSI in the TM after it, starts none (log 27). -/
def State.serDue (s : State) (p : Nat) : Bool :=
  let x := s.port p
  let tm := if s.portMode p = 2 then s.actFld (FBP_SER_TIME p) 15 10 * 4000 else 0
  (match x.serAt with
    | none => true
    | some t => decide (t + s.serTicks p + tm ≤ s.dt)) &&
  match s.slotOfPort p with
  | some n =>
    match (s.servo n).sampleT with
    | none => true
    | some t =>
      let hz := s.sampleHz n
      decide (((((s.dt + s.fld (FBP_SER_LEAD p) 23 0 : Nat) : Int) - t) * hz + 2 * hz) % 4000000000 ≤ 4 * hz)
  | none =>
    match x.serAt with
    | none => true
    | some t => (s.dt - t) % s.fld (FBP_SER_PER p) 23 0 == 0

/-- A transaction starts: its first falling edge is at the present instant. A data line found low is a busy error (R336, R342). -/
def State.serStart (s : State) (p : Nat) (busy : Bool) : State :=
  if (s.portMode p = 2 ∨ s.portMode p = 3) ∧ s.serDue p = true then
    if busy then (s.setPort p { s.port p with serial := none, serAt := some s.dt }).serBad p
    else s.setPort p { s.port p with serial := some (s.dt + s.fld (FBP_SER_TLAT p) 15 0), serAt := some s.dt }
  else s

/-- The transaction in progress can have ended at the present instant (R336). -/
def State.serOver (s : State) (p : Nat) : Bool :=
  match (s.port p).serAt with
  | none => false
  | some t => decide (t + s.serTicks p ≤ s.dt)

/-- A valid word moves the count: the first sets it, which is no motion, a later one moves it by the signed difference within the encoder's range (R335). -/
def State.serTake (s : State) (p t word : Nat) : State :=
  let x := s.port p
  let w := s.actFld (FBP_SER_CFG p) 4 0 + s.actFld (FBP_SER_CFG p) 9 5
  let c : Int := match x.raw with
    | none => word
    | some r => x.count + signedOf w (wrapTo w ((word : Int) - r))
  let turn := if x.raw.isNone then c else x.turnAt
  let s1 := (s.setPort p { x with serErr := 0, raw := some word, reads := (t, c) :: x.reads.take 1, turnAt := turn }).setCount p c
  if s1.fld (FBP_FB_STAT p) 18 16 = 0 then s1.showValid p true else s1

/-- A transaction completes: `start` says that the start bit came in time, `bits` are the frame's bits in order (R342 to R344). -/
def State.serRead (s : State) (p : Nat) (start : Bool) (bits : List Bool) : State :=
  match (if s.serOver p then (s.port p).serial else none) with
  | none => s
  | some t =>
    let raw := bitsNat bits
    let s1 := ((s.setPort p { s.port p with serial := none }).wr (FBP_SER_RAW_LO p) (BitVec.ofNat 32 raw)).wr (FBP_SER_RAW_HI p) (BitVec.ofNat 32 (raw / 2 ^ 32 % 65536))
    let biss := decide (s.portMode p = 3)
    let r := if biss then s.readBiss p bits else s.readSsi p bits
    if r.ok && (start || !biss) then
      let s2 := s1.serTake p t r.word
      if r.warn then (s2.wrBit (FBP_FB_STAT p) 7 true).raise (fbpPage p) 7 else s2
    else s1.serBad p

/-! ### Hall codes (R347) -/

/-- The forward sequence of codes. -/
def hallNext : Nat → Nat
  | 5 => 4
  | 4 => 6
  | 6 => 2
  | 2 => 3
  | 3 => 1
  | 1 => 5
  | _ => 7

/-- A filtered Hall code change: one count along the sequence, or HALL_ERR (R347, R348). The first code after the mode starts has none to be compared with (log 27). -/
def State.hallChange (s : State) (p code : Nat) : State :=
  let x := s.port p
  if s.portMode p ≠ 4 ∨ code = x.hall then s
  else
    let s1 := s.setPort p { x with hall := code }
    if x.hall = 8 ∧ code ≠ 0 ∧ code ≠ 7 then s1
    else if code ≠ 0 ∧ code ≠ 7 ∧ (hallNext x.hall = code ∨ hallNext code = x.hall) then
      (s1.setPort p { s1.port p with hallRun := 0 }).setCount p (x.count + s.dirSign p * (if hallNext x.hall = code then 1 else -1))
    else
      let s2 := (s1.setPort p { s1.port p with hallRun := x.hallRun + 1 }).raise (fbpPage p) 6
      if s.serLim p ≤ x.hallRun + 1 then s2.posLost p 5 else s2

/-! ### Commands -/

/-- Whether a condition of R348 still holds: `wires` are the pairs below 200 mV, `bad` says that the analog signals are outside their window or the tracking error is above 30°. -/
def State.posBad (s : State) (p wires : Nat) (bad : Bool) : Bool :=
  let x := s.port p
  let m := s.portMode p
  decide (wires &&& s.pairsUsed p ≠ 0) ||
    (m == 1 && decide (x.quadRun ≠ 0 ∧ s.dt / 4096 ≤ x.quadAt)) ||
    ((m == 2 || m == 3) && decide (x.serErr ≠ 0)) ||
    (m == 4 && decide (x.hallRun ≠ 0)) ||
    ((m == 5 || m == 6) && bad)

/-- FB_CMD.CLEAR: VALID returns when the cause has gone (R348). -/
def State.fbClear (s : State) (p wires : Nat) (bad : Bool) : State :=
  let s1 := (s.wrFld (FBP_FB_STAT p) 14 12 (wires &&& s.pairsUsed p)).wrBit (FBP_FB_STAT p) 7 false
  if s.portValid p ∨ s.fld (FBP_FB_STAT p) 18 16 = 0 ∨ s.posBad p wires bad = true then s1
  else
    ((s1.setPort p { s1.port p with quadRun := 0, seekRef := (s1.port p).seekRef || s1.incremental p }).wrFld (FBP_FB_STAT p) 18 16 0).showValid p true
      |>.raise (fbpPage p) 8

/-- RES_CAL starts the calibration (R346). -/
def State.resCal (s : State) (p : Nat) : State := if s.portMode p = 6 then s.setPort p { s.port p with calRun := true } else s

/-- The calibration ends: RES_PHASE, and a port that has lost nothing becomes valid (R346). -/
def State.resCalDone (s : State) (p : Nat) (phase : W32) : State :=
  if (s.port p).calRun then
    let s1 := (s.setPort p { s.port p with calRun := false }).wr (FBP_RES_PHASE p) phase
    if s1.fld (FBP_FB_STAT p) 18 16 = 0 ∧ s1.portMode p = 6 then s1.showValid p true else s1
  else s

/-- FB_STAT.ABS: the serial modes, and RESOLVER with RES_PP 1 (R333, R337). -/
def State.showAbs (s : State) (p : Nat) : State :=
  let m := s.portMode p
  s.wrBit (FBP_FB_STAT p) 4 (m == 2 || m == 3 || (m == 6 && s.actFld (FBP_RES_CFG p) 7 0 == 1))

/-- A new mode has come into force: the port starts afresh. ABZ, HALL and SINCOS are valid at once, the serial modes at their first valid reading, RESOLVER after a calibration (R335, R346, log 27). -/
def State.portStart (s : State) (p : Nat) : State :=
  let m := s.portMode p
  let s1 := (s.setPort p { Port.reset with count := (s.port p).count, countB := (s.port p).countB, turnAt := (s.port p).count }).wr (FBP_FB_STAT p) (BitVec.ofNat 32 m)
  (s1.showValid p (m == 1 || m == 4 || m == 5)).showAbs p

/-! ### Encoder emulation (R349 to R352) -/

def emuPage (m : Nat) : Nat := 0x250000 + m * 0x1000
def State.emu (s : State) (m : Nat) : Emu := tabGet Emu.reset m s.emus
def State.setEmu (s : State) (m : Nat) (x : Emu) : State := { s with emus := tabSet m x s.emus }
def State.emuSrc (s : State) (m : Nat) : Nat := s.actFld (EMU_EMU_CTL m) 2 1
def State.emuInst (s : State) (m : Nat) : Nat := s.actFld (EMU_EMU_CTL m) 9 4
def State.emuOn (s : State) (m : Nat) : Bool := s.actBit (EMU_EMU_CTL m) 0
def State.emuActive (s : State) (m : Nat) : Bool := s.bit (EMU_EMU_STAT m) 17

/-- Counts per unit: 4 × LINES (R350). -/
def State.emuPer (s : State) (m : Nat) : Int := 4 * (s.actFld (EMU_LINES m) 20 0 : Nat)

/-- Whether the actual position of slot `n` is valid. -/
def State.actualValid (s : State) (n : Nat) : Bool :=
  match s.portOfSlot n with
  | some p => s.portValid p
  | none => !s.posWait n

/-- Whether the source of output `m` is valid; a slot that is OFF is not (R352). -/
def State.emuValid (s : State) (m : Nat) : Bool :=
  let i := s.emuInst m
  match s.emuSrc m with
  | 0 => true
  | 1 => (s.axis i).st != .off
  | 2 => (s.axis i).st != .off && s.actualValid i
  | _ => s.portValid i

/-- The homing offset of the source's slot (R352). -/
def State.emuShift (s : State) (m : Nat) : Int := if s.emuSrc m = 1 ∨ s.emuSrc m = 2 then (s.axis (s.emuInst m)).posOfs else 0

/-- The source's state at time `t` and its jerk, homing shifts since the activation taken out (R349, R350, R352). -/
def State.emuKin (s : State) (m t : Nat) : Kin × Int :=
  let i := s.emuInst m
  let (k, j) : Kin × Int := match s.emuSrc m with
    | 0 => (s.lineAt t, s.ltb.line.j)
    | 1 => (s.cmdKin i t, if (s.gear i).phase = .idle then (s.axis i).plan.jerkAt t else 0)
    | 2 => (extrapolate (s.axis i).act1 (s.axis i).act0 t, 0)
    | _ => (extrapolate (s.port i).new (s.port i).old t, 0)
  ({ k with p := k.p - s.emuShift m + (s.emu m).ofs }, j)

/-- The levels of a count: A leads B upwards, B with DIR_INV; Z in the state whose interval contains Z_POS (R350, R351). -/
def State.emuLevels (s : State) (m : Nat) (c : Int) : Nat :=
  let per := s.emuPer m
  let q := c % 4
  let a : Nat := if q = 1 ∨ q = 2 then 1 else 0
  let b : Nat := if q = 2 ∨ q = 3 then 1 else 0
  let z : Nat := if s.actBit (EMU_EMU_CTL m) 11 ∧ per ≠ 0 ∧ c % per = (s.act (EMU_Z_POS m)).toNat * per / 4294967296 then 4 else 0
  (if s.actBit (EMU_EMU_CTL m) 10 then b + 2 * a else a + 2 * b) + z

/-- What the balls of output `m` show, bit 0 A, bit 1 B, bit 2 Z; high-impedance (none) while the device is STANDBY (R349, R388). -/
def State.emuBalls (s : State) (m : Nat) : Option Nat := if s.role == 2 then none else some (s.emu m).pins

/-- The count that the source's position stands for. -/
def State.emuWant (s : State) (m t : Nat) : Int := (s.emuKin m t).1.p * s.emuPer m / 2 ^ 64

/-- EMU_CNT and the levels of count `c`. -/
def State.emuShow (s : State) (m : Nat) (c : Int) : State :=
  (s.setEmu m { s.emu m with count := c, pins := s.emuLevels m c }).wr (EMU_EMU_CNT m) (w32 c)

/-- The next edge: the tick of the next boundary, by two Newton steps on the cubic, none where none is predicted within 1 ms (R149, R350). -/
def State.emuAhead (s : State) (m : Nat) : Option (Nat × Bool) :=
  let (k, j) := s.emuKin m s.dt
  let per := s.emuPer m
  if k.v = 0 ∨ per = 0 then none
  else
    let up := decide (0 < k.v)
    let c := (s.emu m).count + (if up then 1 else 0)
    let d := (if up then -((-(c * 2 ^ 64)) / per) else c * 2 ^ 64 / per) - k.p
    let rec newtonE : Nat → Int → Int
      | 0, x => x
      | i + 1, x =>
        let q := Kin.after ⟨0, k.v, k.a⟩ j x
        newtonE i (if q.v = 0 then x else x - (q.p - d) * unitsPerSec / q.v)
    let x := newtonE 2 (((d.natAbs : Int) * unitsPerSec) / k.v.natAbs)
    let ticks := (2 * x + unitsPerTick) / (2 * unitsPerTick)
    if 0 < ticks ∧ ticks ≤ 4000000 then some (s.dt + ticks.toNat, up) else none

/-- Predict the next edge at the present instant; edges owed go out at EDGE_MIN, with OVERRATE and LAG (R350). -/
def State.emuPredict (s : State) (m : Nat) : State :=
  let x := s.emu m
  let owed := s.emuWant m s.dt - x.count
  let want : Option (Nat × Bool) := if owed ≠ 0 then some (s.dt, decide (0 < owed)) else s.emuAhead m
  let gap := max 100 (s.fld (EMU_EDGE_MIN m) 15 0)
  let s1 := s.wrFld (EMU_EMU_STAT m) 15 0 (min owed.natAbs 65535)
  let s2 := s1.raiseIf (decide (s.fld (EMU_LAG_MAX m) 15 0 < owed.natAbs)) (emuPage m) 1
  match want with
  | none => (s2.setEmu m { x with next := none }).wrBit (EMU_EMU_STAT m) 16 false
  | some (t, up) =>
    let e := match x.last with
      | none => t
      | some l => max t (l + gap)
    let fast := decide (t < e)
    let s3 := (s2.setEmu m { x with next := some (e, up) }).wrBit (EMU_EMU_STAT m) 16 fast
    s3.raiseIf (fast && !s.bit (EMU_EMU_STAT m) 16) (emuPage m) 0

/-- SRC_LOST is a condition: the output is enabled and its source is invalid or its slot OFF (R352). -/
def State.srcLost (s : State) (m : Nat) : Bool := s.emuOn m && !s.emuValid m

/-- Output `m` follows the validity of its source: it starts at the source's position without edges, or holds its levels with SRC_LOST (R352). -/
def State.emuCheck (s : State) (m : Nat) : State :=
  let live := s.emuOn m && s.emuValid m
  if live && !s.emuActive m then
    let s1 := s.setEmu m { Emu.reset with ofs := s.emuShift m, pins := (s.emu m).pins }
    ((s1.emuShow m (s1.emuWant m s1.dt)).wrBit (EMU_EMU_STAT m) 17 true).emuPredict m
  else if !live && s.emuActive m then
    ((s.setEmu m { s.emu m with next := none }).wrFld (EMU_EMU_STAT m) 17 0 0).raiseIf (s.emuOn m) (emuPage m) 2
  else s

/-- All four outputs. -/
def State.emusCheck (s : State) : State := s.each (List.range 4) fun m st => st.emuCheck m

/-- At an LTB step: the sources are checked, and an output with no edge ahead, or one on a sampled source, predicts again (R149, R350). -/
def State.emusStep (s : State) : State :=
  s.emusCheck.each (List.range 4) fun m st =>
    if st.emuActive m && ((st.emu m).next.isNone || decide (2 ≤ st.emuSrc m)) then st.emuPredict m else st

/-- The next edge of output `m` is due and leaves (R350). -/
def State.emuEdge (s : State) (m : Nat) : State :=
  let s1 := s.emuCheck m
  let x := s1.emu m
  match x.next with
  | none => s1
  | some (t, up) =>
    if !s1.emuActive m ∨ s1.dt < t then s1
    else ((s1.setEmu m { x with next := none, last := some s1.dt }).emuShow m (x.count + (if up then 1 else -1))).emuPredict m

/-! ### Commands of this family -/

/-- The meaning of INDEX_PULSE. -/
def execIndexPulse (p : Fin 12) (d dB : Int) (s : State) : Host.Outcome State Fault Refusal := .next (s.indexPulse p d dB)
/-- The meaning of QUAD_ERR. -/
def execQuadErr (p : Fin 12) (s : State) : Host.Outcome State Fault Refusal := .next (s.quadErr p).emusCheck
/-- The meaning of WIRE_BREAK. -/
def execWireBreak (p : Fin 12) (k : Fin 3) (s : State) : Host.Outcome State Fault Refusal := .next (s.wireBreak p k).emusCheck
/-- The meaning of SERIAL_TRANSACTION. -/
def execSerialTransaction (p : Fin 12) (busy : Bool) (s : State) : Host.Outcome State Fault Refusal := .next (s.serStart p busy).emusCheck
/-- The meaning of SERIAL_READING. -/
def execSerialReading (p : Fin 12) (start : Bool) (bits : List Bool) (s : State) : Host.Outcome State Fault Refusal := .next (s.serRead p start bits).emusCheck
/-- The meaning of HALL_CODE_CHANGE. -/
def execHallCodeChange (p : Fin 12) (code : Fin 8) (s : State) : Host.Outcome State Fault Refusal := .next (s.hallChange p code).emusCheck
/-- The meaning of FB_CLEAR. -/
def execFbClear (p : Fin 12) (wires : Fin 8) (bad : Bool) (s : State) : Host.Outcome State Fault Refusal := .next (s.fbClear p wires bad).emusCheck
/-- The meaning of FB_RES_CAL. -/
def execFbResCal (p : Fin 12) (s : State) : Host.Outcome State Fault Refusal := .next (s.resCal p)
/-- The meaning of RES_CAL_DONE. -/
def execResCalDone (p : Fin 12) (phase : W32) (s : State) : Host.Outcome State Fault Refusal := .next (s.resCalDone p phase).emusCheck
/-- The meaning of FB_REF_RESET. -/
def execFbRefReset (p : Fin 12) (s : State) : Host.Outcome State Fault Refusal := .next (s.refReset p)
/-- The meaning of EMU_EDGE. -/
def execEmuEdge (m : Fin 4) (s : State) : Host.Outcome State Fault Refusal := .next (s.emuEdge m)
/-- The meaning of ANALOG_AMPLITUDE_LOSS. -/
def execAnalogAmplitudeLoss (p : Fin 12) (mv : BitVec 16) (s : State) : Host.Outcome State Fault Refusal := .next (s.ampLoss p mv.toNat).emusCheck
/-- The meaning of RESOLVER_TRACKING_ERROR. -/
def execResolverTrackingError (p : Fin 12) (s : State) : Host.Outcome State Fault Refusal := .next (s.trackErr p).emusCheck

end Sys2Proof.Machine
end

