-- ==== Sys2Proof/Machine/CommitOps.lean ====
section
/-! DEFINITION. What every commit does: the pending set of a page, its sequence number, its command fields, its replacement and its taking effect (R598, R599). -/

namespace Sys2Proof.Machine

/-- Whether `a` is a shadowed register of the page at `page`. -/
def shadowRow (page a : Nat) : Bool :=
  match regRow a with
  | none => false
  | some (p, r, _) => decide (p.base = page) && r.shadowed

/-- The wo command bits of the register at `a` (R598). -/
def woBits (a : Nat) : W32 :=
  match regRow a with
  | none => 0
  | some (_, r, _) => if r.acc = .wo then 0xFFFFFFFF else BitVec.ofNat 32 r.wo

/-- The shadow of a page: its shadowed registers as software wrote them; one that is not listed has its reset value. -/
def State.shadowVals (s : State) (page : Nat) : Tab W32 := s.regs.filter fun e => shadowRow page e.1

/-- A commit takes the command fields out of the shadow (R598). -/
def State.stripCmds (s : State) (page : Nat) : State :=
  { s with regs := s.regs.map fun e => if shadowRow page e.1 then (e.1, e.2 &&& ~~~(woBits e.1)) else e }

/-- The value of register `a` in a set. -/
def setVal (vals : Tab W32) (a : Nat) : W32 := tabGet (resetOf a) a vals

/-- The pending set of a page. -/
def State.commitOf (s : State) (page : Nat) : Option Commit := s.commits.find? fun k => k.page == page

/-- A commit is accepted: it takes the next sequence number and becomes the page's pending set, replacing an earlier one (R598). -/
def State.acceptCommit (s : State) (page : Nat) (vals : Tab W32) (due : CommitDue) : State :=
  let seq := (s.fld (page + 0x020) 30 0 + 1) % 2 ^ 31
  let s1 := s.wrFld (page + 0x020) 30 0 seq
  { s1 with commits := (s1.commits.filter fun k => k.page != page) ++ [⟨page, seq, vals, due⟩] }

/-- The pending set of a page goes: it has taken effect or was withdrawn, and COMMIT_AT.KIND reads 0 (R599). -/
def State.dropCommit (s : State) (page : Nat) : State :=
  let s1 := s.wrFld (page + 0x024) 31 30 0
  { s1 with commits := s1.commits.filter fun k => k.page != page }

/-- Values come into force in a page: every shadowed register of it has its value of the set, without its command fields. -/
def State.putInForce (s : State) (page : Nat) (vals : Tab W32) : State :=
  { s with inForce := vals.foldl (fun t e => tabSet e.1 (e.2 &&& ~~~(woBits e.1)) t) (tabDrop (shadowRow page) s.inForce) }

/-- Whether a target has been reached at time `t` (R599): for a line angle, whether the line has reached it. -/
def State.dueReached (s : State) (d : CommitDue) (t : Nat) : Bool :=
  match d with
  | .nextApply => true
  | .atTime u => decide (u ≤ t)
  | .atAngle up down =>
    let p := q32 (s.lineAt t).p
    up.any (fun x => decide (x ≤ p)) || down.any (fun x => decide (p ≤ x))

end Sys2Proof.Machine
end

