-- ==== Sys2Proof/Machine/Line.lean ====
section
/-! DEFINITION. The line's sources and their changes, the follower of a published line, the setting of calendar time, the commands of the line timebase (R32 to R38, R49 to R52, R59, R641). -/

namespace Sys2Proof.Machine

/-! ### Sources 1 and 2 (R33, R34, R38) -/

/-- The position of the source that `ctl` (an SRC_CTL value) selects, as a numerator over 2^64: counts of a feedback port, turns of an axis. -/
def State.srcPos (s : State) (ctl : W32) : Int :=
  let i := fldOf ctl 13 8
  if fldOf ctl 1 0 = 1 then q64 (s.port i).at32 else (extrapolate (s.axis i).act1 (s.axis i).act0 s.dt).p

/-- The velocity of that source, in counts or turns per second, over 2^64. -/
def State.srcVel (s : State) (ctl : W32) : Int :=
  let i := fldOf ctl 13 8
  if fldOf ctl 1 0 = 1 then (extrapolate (s.port i).new (s.port i).old s.dt).v * s.cpt i else (extrapolate (s.axis i).act1 (s.axis i).act0 s.dt).v

/-- Whether the source exists and its position is valid (R38). -/
def State.srcValid (s : State) (ctl : W32) : Bool :=
  let i := fldOf ctl 13 8
  if fldOf ctl 1 0 = 1 then decide (i < 12) && s.portValid i else s.actualValid i

/-- A source quantity times SCALE_NUM / SCALE_DEN (R33). -/
def scaled (num den : W32) (x : Int) : Int := if den = 0 then 0 else x * signedOf 32 num.toNat / (den.toNat : Int)

/-! ### Source changes (R36, R641) -/

/-- The registers of a source change (R36). -/
def srcRegs : List Nat := [LTB_SRC_CTL, LTB_SCALE_NUM, LTB_SCALE_DEN, LTB_SRC_OFS_LO, LTB_SRC_OFS_HI]

/-- The set changes the source, its instance, its scale or its offset; sources 0 and 3 have neither instance nor scale nor offset (R33, R63). -/
def State.srcChanges (s : State) (vals : Tab W32) : Bool :=
  let v (a : Nat) : W32 := setVal vals a
  let src := fldOf (v LTB_SRC_CTL) 1 0
  decide (src ≠ s.actFld LTB_SRC_CTL 1 0) ||
    ((src == 1 || src == 2) && (decide (fldOf (v LTB_SRC_CTL) 13 8 ≠ s.actFld LTB_SRC_CTL 13 8) ||
      [LTB_SCALE_NUM, LTB_SCALE_DEN, LTB_SRC_OFS_LO, LTB_SRC_OFS_HI].any fun a => decide (v a ≠ s.act a)))

/-- The published line state, when it is valid now: no older than two ring cycles (R36, R373). -/
def State.pubNow (s : State) : Option LineState := s.ltb.pub.filter fun l => decide (s.dt ≤ l.t + 2 * s.ring.cycT)

/-- The angle of a published state at the present, taken nearest to the line's own, as the difference of 64-bit angles is read as signed (R30, R51). -/
def State.nearAngle (s : State) (l : LineState) : Int :=
  let own := (s.lineAt s.dt).p
  own + q64 (signedOf 64 (wrapTo 64 (q32 (l.at s.dt).p - q32 own)))

/-- A velocity differs from the line's by more than |v| / 256 (R36). -/
def State.velApart (s : State) (w : Int) : Bool := decide ((((s.lineAt s.dt).v.natAbs / 256 : Nat) : Int) < ((w - (s.lineAt s.dt).v).natAbs : Nat))

/-- A source change is refused: the line moves, and R36's conditions do not hold. -/
def State.srcRefused (s : State) (vals : Tab W32) : Bool :=
  let v (a : Nat) : W32 := setVal vals a
  let ctl := v LTB_SRC_CTL
  if s.fld LTB_STATUS 2 0 = 0 then false
  else if !bitOf ctl 17 then true
  else
    match fldOf ctl 1 0 with
    | 0 => false
    | 3 =>
      match s.pubNow with
      | none => true
      | some l => decide (((s.rd LTB_JOIN_TOL).toNat : Int) < ((q32 (s.nearAngle l - (s.lineAt s.dt).p)).natAbs : Nat)) || s.velApart (l.at s.dt).v
    | _ => s.velApart (scaled (v LTB_SCALE_NUM) (v LTB_SCALE_DEN) (s.srcVel ctl))

/-- The source registers of the set come into force; a change to source 3 leaves SRC_OFS 0 (R35). -/
def State.putSource (s : State) (vals : Tab W32) : State :=
  let s1 := s.each srcRegs fun a st => st.setAct a (setVal vals a)
  (s1.when (s1.actFld LTB_SRC_CTL 1 0 == 3) fun st => st.setBoth64 LTB_SRC_OFS_LO 0).wrFld LTB_STATUS 4 3 (s1.actFld LTB_SRC_CTL 1 0)

/-- The line as it is now, with no plan, slew, loss or rejoin. -/
def State.lineFresh (s : State) (k : Kin) (j : Int) : State :=
  let s1 : State := { s with ltb := { s.ltb.keep s.dt with line := ⟨s.dt, k, j⟩, plan := none, slew := none, ownStop := false, rejoin := false, waitFirst := false, toHold := false, cmds := [] } }
  (s1.wrFld LTB_STATUS 10 8 0).wrFld LTB_STATUS 19 16 0

/-- The VMG takes over a moving line: acceleration returns to 0 at VMG_JERK, the velocity so reached becomes the stored target (R36). -/
def State.vmgTakeOver (s : State) (k : Kin) : State :=
  let s1 := s.vmgReadJerk
  let l := bleed k.a s1.ltb.lims.jerk .accel
  let v := (k.afterAll l).v
  if k.a = 0 then ({ s1 with ltb := { s1.ltb with target := k.v } } : State).setVmg .run
  else ({ s1 with ltb := { s1.ltb with plan := some (openPlan s1.dt k l v), target := v } } : State).setVmg .ramp

/-- An accepted source change takes effect (R36, R641). -/
def State.srcApply (s : State) (vals : Tab W32) : State :=
  let k := s.lineAt s.dt
  let j := s.ltb.line.j
  let moving := decide (s.fld LTB_STATUS 2 0 ≠ 0)
  let s1 := s.putSource vals
  let ctl := s1.act LTB_SRC_CTL
  let pos := scaled (s1.act LTB_SCALE_NUM) (s1.act LTB_SCALE_DEN) (s1.srcPos ctl)
  let s2 := match fldOf ctl 1 0 with
    | 0 => if moving then (s1.lineFresh k 0).vmgTakeOver k else (s1.lineFresh ⟨k.p, 0, 0⟩ 0).setVmg .stop
    | 3 =>
      match moving, s.pubNow with
      | true, some l =>
        let s3 := s1.lineFresh (l.at s1.dt) l.j
        let d := k.p - s.nearAngle l
        let s4 : State := { s3 with ltb := { s3.ltb with line := ⟨s3.dt, ⟨s.nearAngle l, (l.at s3.dt).v, (l.at s3.dt).a⟩, l.j⟩ } }
        let s5 := s4.setLineSt s4.ltb.pubSt
        if d = 0 then s5 else ({ s5 with ltb := { s5.ltb with slew := some (d, s5.dt, 8 * s5.ring.cycT) } } : State).wrBit LTB_STATUS 10 true
      | _, _ =>
        let s3 := s1.lineFresh ⟨k.p, 0, 0⟩ 0
        ({ s3 with ltb := { s3.ltb with waitFirst := true } } : State).setLineSt 0
    | _ =>
      if moving then (s1.lineFresh k j).setBoth64 LTB_SRC_OFS_LO (wrapTo 64 (q32 (k.p - pos)))
      else s1.lineFresh ⟨pos + q64 (signedOf 64 (s1.act64 LTB_SRC_OFS_LO)), 0, 0⟩ 0
  s2.raise ltbPage 3

/-- A refused source change (R36). -/
def State.srcRefuse (s : State) : State := (s.errAt .commit LTB_SRC_CTL).raise ltbPage 4

/-! ### Setting calendar time (R59) -/

/-- A set of calendar time is refused: in mode 2, and on a follower in mode 1. -/
def State.rtcRefused (s : State) : Bool := s.fld LTB_DISC_CTL 1 0 == 2 || (s.fld LTB_DISC_CTL 1 0 == 1 && s.lineSrc == 3)

/-- The pending set of the LTB page takes effect: the source and the calendar time, each judged on its own (R36, R37, R59); `rtc` says that the set carries a calendar time. -/
def State.ltbApply (s : State) (vals : Tab W32) (rtc : Bool) : State :=
  let s1 :=
    if s.srcChanges vals then (if s.srcRefused vals then s.srcRefuse else s.srcApply vals)
    else s.putSource vals
  if !rtc then s1
  else if s1.rtcRefused then s1.errAt .commit LTB_RTC_SET_SEC_LO
  else s1.rtcSet ((setVal vals LTB_RTC_SET_SEC_LO).toNat + fldOf (setVal vals LTB_RTC_SET_SEC_HI) 15 0 * 2 ^ 32) (setVal vals LTB_RTC_SET_NS).toNat

/-! ### The line at an LTB step (R33, R34, R43) -/

/-- The line advances: the generator, an own stop, or the measured source; a published line is evaluated where it is needed (R43, R44, R48). -/
def State.lineStep (s : State) : State :=
  if s.ltb.ownStop then s.lineAdvance
  else
    match s.lineSrc with
    | 0 => s.vmgTake.lineAdvance
    | 3 => s
    | _ => s.lineMeasured (s.srcPos (s.act LTB_SRC_CTL))

/-! ### The follower (R46, R49 to R52, R641) -/

/-- The line state that an area holds (R371). -/
def lineOfArea (a : List Byte) : LineState :=
  let q (o : Nat) : Int := q64 (signedOf 64 (natOf a o 8))
  ⟨natOf a 12 8, ⟨q64 (natOf a 20 8 : Nat), q 28, q 36⟩, q 44⟩

/-- The follower adopts a published state, its angle taken nearest to its own, with difference `d` to remove by a slew over 8 ring cycles (R51). -/
def State.adopt (s : State) (l : LineState) (st : Nat) (d : Int) : State :=
  let k := l.at s.dt
  let s1 : State := { s with ltb := { s.ltb.keep s.dt with line := ⟨s.dt, ⟨s.nearAngle l, k.v, k.a⟩, l.j⟩, plan := none, ownStop := false, waitFirst := false } }
  let s2 := if d = 0 then s1 else ({ s1 with ltb := { s1.ltb with slew := some (d, s1.dt, 8 * s1.ring.cycT) } } : State).wrBit LTB_STATUS 10 true
  (((s2.wrBit LTB_STATUS 9 false).wrFld LTB_STATUS 19 16 0)).setLineSt st

/-- A valid published state `l` with STATE `st` reaches a node with source 3; a slew in progress goes on (R51, R52, R641). -/
def State.lineFollow (s : State) (l : LineState) (st : Nat) : State :=
  let fresh (s : State) : State := { s with ltb := { s.ltb.keep s.dt with slew := none, line := ⟨s.dt, s.ltb.line.at s.dt, s.ltb.line.j⟩ } }
  if s.bit LTB_STATUS 8 then
    (if s.ltb.rejoin && decide (s.fld LTB_STATUS 2 0 = 0) then
      let s1 := (((fresh s).wrFld LTB_STATUS 10 8 0).adopt l st 0).raise ltbPage 8
      { s1 with ltb := { s1.ltb with rejoin := false } }
    else s)
  else if s.ltb.waitFirst then (fresh s).adopt l st 0
  else if s.bit LTB_STATUS 9 then
    let d := (s.lineAt s.dt).p - s.nearAngle l
    if ((s.rd LTB_JOIN_TOL).toNat : Int) < ((q32 d).natAbs : Nat) then s.lineLoss else (fresh s).adopt l st d
  else s.adopt l st 0

/-- A follower in mode 1 takes the RTC base of a valid line state at join and whenever it changes (R59, R373). -/
def State.adoptRtc (s : State) (a : List Byte) : State :=
  if s.lineSrc = 3 ∧ s.fld LTB_DISC_CTL 1 0 = 1 ∧ byteOf a 0 / 16 % 2 = 1 then
    let base : Int := ((natOf a 2 6 : Nat) : Int) * 4000000000 + natOf a 8 4 * 4
    if base = s.ltb.rtcBase ∧ s.bit LTB_STATUS 11 = true then s
    else (({ s with ltb := { s.ltb with rtcBase := base } } : State).wrBit LTB_STATUS 11 true).raise ltbPage 7
  else s

/-- The line state read from the last frame is taken: valid with its VALID bit and its container, whose SDATA is the cycle; a copy that the cycle master carried on, marked CM_COPY, is that of the cycle before and its container covers the bytes without that mark (R371, R373, R420, log 36). Then the follower follows it. -/
def State.lineReceived (s : State) : State :=
  match s.ring.lineState with
  | none => s
  | some (cyc, a) =>
    let c := cutAt a 52 12
    let late := byteOf a 0 / 8 % 2
    let prot := leBytes 1 (byteOf a 0 - 8 * late) ++ cutAt a 1 51
    let ok := contOk (s.ringId ^^^ 0x03000000) prot s.ring.lineCont.seq s.wdMax c && decide (contDataOf c = (cyc + 2 ^ 32 - late) % 2 ^ 32) && decide (byteOf a 0 / 4 % 2 = 1)
    let s1 := s.setRing { s.ring with lineState := none }
    if !ok then s1
    else
      let l := lineOfArea a
      let s2 := s1.setRing { s1.ring with lineCont := s1.ring.lineCont.take s1.dt c }
      let s3 : State := ({ s2 with ltb := { s2.ltb with pub := some l, pubSt := byteOf a 0 % 4 } } : State).adoptRtc a
      if s3.lineSrc = 3 then s3.lineFollow l (byteOf a 0 % 4) else s3

/-- A receive window closes without a valid line state (R49). -/
def State.lsMiss (s : State) : State :=
  if s.lineSrc ≠ 3 ∨ s.bit LTB_STATUS 8 = true ∨ s.ltb.waitFirst = true then s
  else
    let n := min 8 (s.fld LTB_STATUS 19 16 + 1)
    let s1 := (((s.wrBit LTB_STATUS 9 true).wrFld LTB_STATUS 19 16 n).raise ltbPage 1).count LTB_LS_MISS_CNT 31 0 ltbPage 9
    if s1.fld LTB_LOSS_CTL 3 0 ≤ n then s1.lineLoss else s1

/-- The slew of R36 or R51 ends. -/
def State.rejoinDone (s : State) : State :=
  match s.ltb.slew with
  | none => s
  | some (_, t0, n) =>
    if s.dt < t0 + n then s else (({ s with ltb := { s.ltb with slew := none } } : State).wrBit LTB_STATUS 10 false).raise ltbPage 8

/-- A write of LOSS_CTL.REJOIN: refused unless the line is lost and in STOP (R52). A line of source 1 or 2 takes up its valid source at once (log 36). -/
def State.lossRejoin (s : State) : State :=
  if !s.bit LTB_STATUS 8 ∨ s.fld LTB_STATUS 2 0 ≠ 0 then s.errAt .state LTB_LOSS_CTL
  else if s.lineSrc = 3 then { s with ltb := { s.ltb with rejoin := true } }
  else if s.lineSrc = 0 then (s.lineFresh ⟨(s.lineAt s.dt).p, 0, 0⟩ 0).raise ltbPage 8
  else if !s.srcValid (s.act LTB_SRC_CTL) then s.errAt .state LTB_LOSS_CTL
  else
    let pos := scaled (s.act LTB_SCALE_NUM) (s.act LTB_SCALE_DEN) (s.srcPos (s.act LTB_SRC_CTL))
    (s.lineFresh ⟨pos + q64 (signedOf 64 (s.act64 LTB_SRC_OFS_LO)), 0, 0⟩ 0).raise ltbPage 8

/-! ### The meanings -/

def execVmgStart (s : State) : Host.Outcome State Fault Refusal := .next (s.softWrite LTB_VMG_CMD 1 fun st => st.vmgWrite .start)
def execVmgStop (s : State) : Host.Outcome State Fault Refusal := .next (s.softWrite LTB_VMG_CMD 2 fun st => st.vmgWrite .stop)
def execVmgHold (s : State) : Host.Outcome State Fault Refusal := .next (s.softWrite LTB_VMG_CMD 3 fun st => st.vmgWrite .hold)
def execVmgResume (s : State) : Host.Outcome State Fault Refusal := .next (s.softWrite LTB_VMG_CMD 4 fun st => st.vmgWrite .resume)
def execVmgLineStop (s : State) : Host.Outcome State Fault Refusal := .next (s.softWrite LTB_VMG_CMD 5 fun st => st.vmgWrite .lineStop)
def execLsMiss (s : State) : Host.Outcome State Fault Refusal := .next s.lsMiss
def execRejoinDone (s : State) : Host.Outcome State Fault Refusal := .next s.rejoinDone
def execLossRejoin (s : State) : Host.Outcome State Fault Refusal := .next (s.softWrite LTB_LOSS_CTL (s.rd LTB_LOSS_CTL ||| 0x80000000) fun st => st.lossRejoin)

end Sys2Proof.Machine
end

