-- ==== Sys2Proof/Machine/Pwm.lean ====
section
/-! DEFINITION. The PWM timer of a local channel, its gates and dead time, the protection latches and the current samples (R274 to R307). -/

namespace Sys2Proof.Machine

/-! ### The timer (R274, R275, R277) -/

/-- Edge-aligned (R274). -/
def State.edgeAligned (s : State) (c : Nat) : Bool := s.actBit (LDC_PWM_CTL c) 1

/-- PERIOD in force, PWM units; bit 0 is ignored when centre-aligned (R274). -/
def State.pwmPeriod (s : State) (c : Nat) : Nat :=
  let p := s.actFld (LDC_PERIOD c) 17 0
  if s.edgeAligned c then p else p / 2 * 2

/-- The latest period boundary (R277). -/
def State.pstart (s : State) (c : Nat) : Nat := s.rd64 (LDC_PSTART_LO c)

/-- The high-side on-interval of a duty, PWM units from the boundary (R275). -/
def onIvl (edge : Bool) (p d : Nat) : Nat × Nat :=
  let d' := min d p
  if edge then (0, d') else (p / 2 - d' / 2, p / 2 + (d' + 1) / 2)

/-- Whether the timer commands the high and the low side of a leg at phase `u` (R275). -/
def legCmd (edge : Bool) (p mode d u : Nat) : Bool × Bool :=
  let iv := onIvl edge p d
  let on := decide (iv.1 ≤ u) && decide (u < iv.2)
  match mode with
  | 0 => (on, !on)
  | 1 => (on, false)
  | 2 => (false, true)
  | _ => (false, false)

/-- The phase of the timer at device time `t`, PWM units of 2 ticks. -/
def State.pwmPhase (s : State) (c t : Nat) : Nat := (t - s.pstart c) / 2

/-- Whether the gates of a channel follow the timer (R278). -/
def State.permits (s : State) (c : Nat) : Bool :=
  let st := s.comState c
  let x := s.ldc c
  (st == 2 || st == 3 || st == 4) && s.bit (GDV_DRV_CTL c) 0 && s.bit (GDV_FLT_STAT c) 13 && x.running && x.softEnd.isNone

/-- What the timer commands of leg `k` now, the precharge of R287 and the gaps of R321 included. -/
def State.legWant (s : State) (c k : Nat) : Bool × Bool :=
  let x := s.ldc c
  let mode := x.modes.getD k 3
  if !s.permits c then (false, false)
  else if x.preEnd.isSome then (false, mode == 0 || mode == 2)
  else if x.ipd.isSome ∧ s.dt < x.ipdAt then (false, false)
  else legCmd (s.edgeAligned c) (s.pwmPeriod c) mode (x.duties.getD k 0) (s.pwmPhase c s.dt)

/-! ### Dead time (R282 to R284) -/

/-- The dead-time floor: DT_MIN of the band in force and the raise of the ageing block (R283, R510). -/
def State.dtFloor (s : State) (c : Nat) : Nat :=
  let b := s.fld THM_THM_STAT 4 3
  max (s.fld (LDC_DT_MIN c) (8 * b + 7) (8 * b)) (s.fld AGE_DT_RAISE (4 * c + 3) (4 * c))

/-- The mean of eight measurements, rounded up. -/
def ceilMean8 (l : List Nat) : Nat := ((l.take 8).sum + 7) / 8

/-- The dead time of one leg and direction, and whether it was clamped to DT_MAX (R283, R284). -/
def State.deadOf (s : State) (c : Nat) (meas : List Nat) : Nat × Bool :=
  let mx := s.fld (LDC_DT_CTL c) 15 8
  let fl := s.dtFloor c
  if s.actBit (LDC_PWM_CTL c) 5 then (min (max (s.fld (LDC_DT_CTL c) 23 16) fl) mx, false)
  else if meas.length < 8 then (mx, false)
  else
    let d := max (ceilMean8 meas + s.fld (LDC_DT_CTL c) 7 0) fl
    (min d mx, decide (mx < d))

/-- A reload point: new dead times take effect, DT_FLOOR and DT_ACT show them, DT_AT_MAX when one was clamped (R283). -/
def State.newDead (s : State) (c : Nat) : State :=
  let x := s.ldc c
  let ds := (List.range 6).map fun i => s.deadOf c (x.meas.getD i [])
  let s1 := ((s.setLdc c { x with dead := ds.map Prod.fst }).wrFld (LDC_DT_FLOOR c) 7 0 (s.dtFloor c)).wrFld (LDC_DT_FLOOR c) 9 8 (s.fld THM_THM_STAT 4 3)
  let s2 := s1.each (List.range 3) fun k st =>
    (st.wrFld (LDC_DT_ACT c k) 7 0 (ds.getD (2 * k) (0, false)).1).wrFld (LDC_DT_ACT c k) 15 8 (ds.getD (2 * k + 1) (0, false)).1
  s2.raiseIf (ds.any Prod.snd) (ldcPage c) 4

/-- A transition measurement of leg `k`, direction `d` (0 falling, 1 rising), in field clocks (R282). -/
def State.dtMeasure (s : State) (c k d m : Nat) : State :=
  let x := s.ldc c
  let i := 2 * k + d
  let old := x.sums.getD i (0, 0)
  let s1 := s.setLdc c { x with meas := x.meas.set i ((m :: x.meas.getD i []).take 8), sums := x.sums.set i (old.1 + m, old.2 + 1) }
  s1.wrFld (LDC_DT_ACT c k) (if d = 0 then 23 else 31) (if d = 0 then 16 else 24) m

/-! ### Protection latches (R294, R295) -/

/-- Whether the switch holds a protection latch. -/
def State.gateLatched (s : State) (c sw : Nat) : Bool := s.bit (GDV_FLT_STAT c) sw

/-- Ten microseconds in ticks. -/
def tenUs : Nat := 40000

/-- Every cause recorded for switch `sw` has gone (R295). -/
def State.causesGone (s : State) (c sw : Nat) : Bool :=
  let x := s.ldc c
  let des := s.bit (GDV_FLT_CAUSE c) sw || s.bit (GDV_FLT_CAUSE c) (8 + sw)
  (!des || (decide (x.gates / 2 ^ sw % 2 = 0) && decide (x.offAt.getD sw 0 + tenUs ≤ s.dt))) &&
    (!s.bit (GDV_FLT_CAUSE c) 16 || (List.range 8).all fun k => decide (x.tripBy / 2 ^ k % 2 = 0) || !s.bit (GDV_TRIP_CFG 0 k) 11) &&
    (!s.bit (GDV_FLT_CAUSE c) 17 || !s.bit (GDV_FLT_STAT c) 6)

/-- The latch of a switch clears; with the last latch go the common causes and CLEAR_REFUSED, and CLEARED is raised (R295). -/
def State.unlatch (s : State) (c sw : Nat) : State :=
  let s1 := ((s.wrBit (GDV_FLT_STAT c) sw false).wrBit (GDV_FLT_CAUSE c) sw false).wrBit (GDV_FLT_CAUSE c) (8 + sw) false
  if s1.fld (GDV_FLT_STAT c) 5 0 = 0 then (((s1.setLdc c { s1.ldc c with tripBy := 0 }).wr (GDV_FLT_CAUSE c) 0).wrBit (GDV_FLT_STAT c) 10 false).raise (gdvPage c) 6 else s1

/-- A clear found a cause still present (R295). -/
def State.clearRefused (s : State) (c : Nat) : State :=
  ((s.wrBit (GDV_FLT_STAT c) 10 true).raise (gdvPage c) 5).count (GDV_CNT_PROT c) 15 8 (gdvPage c) 8

/-- FLT_CLR: every latch whose causes have gone clears; a clear that leaves none empties the records (R294, R295). -/
def State.fltClr (s : State) (c : Nat) : State :=
  let set := (List.range 6).filter fun k => s.gateLatched c k
  let stay := set.any fun k => !s.causesGone c k
  let s1 := s.each (set.filter fun k => s.causesGone c k) fun k st => st.unlatch c k
  if stay then s1.clearRefused c
  else
    let s2 := s1.wr (GDV_FLT_NREC c) 0
    let s3 := s2.each (List.range 4) fun k st => (st.wr (GDV_FLT_REC c k) 0).wr (GDV_FLT_T c k) 0
    s3.setLdc c { s3.ldc c with detAt := none }

/-! ### Gates (R276, R286, R287, R289) -/

/-- The low side of leg `k` is switch 2k + 1, the high side 2k (R306). -/
def swOf (k : Nat) (hi : Bool) : Nat := if hi then 2 * k else 2 * k + 1

/-- Whether the bootstrap of leg `k` carries a high-side turn-on: at least 7.5 V, or not yet below 7.0 V (R286); a HIGH_PWM leg waits for its first low-side on-time (R287). -/
def State.bstOk (s : State) (c k : Nat) (mv : Option Nat) : Bool :=
  let x := s.ldc c
  let low := s.bit (GDV_FLT_STAT c) (7 + k)
  let good := match mv with
    | none => !low
    | some v => if low then decide (7500 ≤ v) else decide (7000 ≤ v)
  good && !(x.charge.getD k true && x.modes.getD k 3 == 1)

/-- A high-side turn-on is skipped (R286). -/
def State.bstSkip (s : State) (c k : Nat) : State :=
  ((s.wrBit (GDV_FLT_STAT c) (7 + k) true).raise (gdvPage c) 7).count (GDV_CNT_PROT c) 23 16 (gdvPage c) 8

/-- Hold a switch off until its next commanded turn-on edge. -/
def State.hold (s : State) (c sw : Nat) : State := s.setLdc c { s.ldc c with held := (s.ldc c).held ||| 2 ^ sw }

/-- A switch is commanded on: its latch is judged, then the bootstrap of a high side; it turns on after the dead time (R276, R286, R295). -/
def State.turnOn (s : State) (c k : Nat) (hi : Bool) (mv : Option Nat) : State :=
  let sw := swOf k hi
  let s1 := if s.gateLatched c sw then (if s.causesGone c sw then s.unlatch c sw else s.clearRefused c) else s
  if s1.gateLatched c sw then s1.hold c sw
  else if hi ∧ s1.bstOk c k mv = false then (s1.bstSkip c k).hold c sw
  else
    let s2 := if hi then s1.wrBit (GDV_FLT_STAT c) (7 + k) false else s1
    let x := s2.ldc c
    s2.setLdc c { x with due := x.due ++ [(sw, s2.dt + 16 * x.dead.getD (2 * k + (if hi then 1 else 0)) 0)] }

/-- Whether a switch is on, or waits for the end of dead time. -/
def Ldc.active (x : Ldc) (sw : Nat) : Bool := decide (x.gates / 2 ^ sw % 2 = 1) || x.due.any fun d => d.1 == sw

/-- In COMPL mode the low side stays on while the high side is skipped or cut short (R286, R302). -/
def Ldc.fills (x : Ldc) (s : State) (c k : Nat) : Bool := x.modes.getD k 3 == 0 && !s.gateLatched c (2 * k)

/-- Leg `k` follows what the timer commands: switches no longer commanded turn off at once, the others turn on after the dead time (R276). -/
def State.follow (s : State) (c k : Nat) (mv : Option Nat) : State :=
  if s.bit (GDV_FLT_STAT c) 12 then s
  else
    let w := s.legWant c k
    let x := s.ldc c
    -- a hold ends with the command of its switch
    let done := (if w.1 then 0 else 2 ^ (2 * k)) ||| (if w.2 then 0 else 2 ^ (2 * k + 1))
    let s1 := s.setLdc c { x with held := x.held &&& (63 - done) }
    let x1 := s1.ldc c
    -- the high side first: a skipped one leaves the low side of a COMPL leg on
    let s2 := if w.1 && !x1.active (2 * k) && x1.held / 2 ^ (2 * k) % 2 == 0 then s1.turnOn c k true mv else s1
    let h := w.1 && (s2.ldc c).held / 2 ^ (2 * k) % 2 == 0
    let l := w.2 || (w.1 && !h && (s2.ldc c).fills s2 c k)
    let s3 := s2.gatesOff c ((if h then 0 else 2 ^ (2 * k)) ||| (if l then 0 else 2 ^ (2 * k + 1)))
    let x3 := s3.ldc c
    if l && !x3.active (2 * k + 1) && x3.held / 2 ^ (2 * k + 1) % 2 == 0 then s3.turnOn c k false mv else s3

/-- All three legs follow. -/
def State.followAll (s : State) (c : Nat) : State := s.each (List.range 3) fun k st => st.follow c k none

/-- The override drives the gates: the channel is OFF, the driver enabled, the gate enable present, no protective turn-off in progress (R278, R289). -/
def State.ovrOn (s : State) (c : Nat) : Bool :=
  s.bit (GDV_OVR c) 31 && s.comState c == 0 && s.bit (GDV_DRV_CTL c) 0 && s.bit (GDV_FLT_STAT c) 13 && (s.ldc c).softEnd.isNone

/-- The turn-ons whose dead time has ended: of a channel whose gates may not follow the timer none happens (R276, R278). -/
def State.gatesDue (s : State) (c : Nat) : State :=
  let x := s.ldc c
  let now := if s.permits c || s.ovrOn c then x.due.filter fun d => decide (d.2 ≤ s.dt) && !s.gateLatched c d.1 else []
  let m := now.foldl (fun m d => m ||| 2 ^ d.1) 0
  if s.bit (GDV_FLT_STAT c) 12 then s
  else s.setLdc c { x with
    due := x.due.filter fun d => decide (s.dt < d.2)
    gates := x.gates ||| m
    drive := driveNow (s.strength c true) m x.drive
    onAt := (List.range 6).map fun k => if m / 2 ^ k % 2 = 1 then s.dt else x.onAt.getD k 0 }

/-- Channels with a turn-on that waits, at a tick. -/
def State.ldcTick (s : State) : State := s.each (List.range 6) fun c st => if (st.ldc c).due = [] ∨ st.bit (GDV_FLT_STAT c) 12 = true then st else st.gatesDue c

/-- The class of an enabled pending SHOOT_ATTEMPT or CBC_PERSIST acts (R296, R307). -/
def State.protClass (s : State) (c page bit hi lo : Nat) : State :=
  if s.bit (evtEnAt page) bit then s.ldcFault c (classOf (s.fld (GDV_FAULT_CFG c) hi lo)) none else s

/-- The interlock finds both switches of leg `k` commanded on (R289). -/
def State.shoot (s : State) (c k : Nat) : State :=
  let s1 := s.gatesOff c (3 * 4 ^ k)
  ((s1.raise (gdvPage c) 4).count (GDV_CNT_PROT c) 7 0 (gdvPage c) 8).protClass c (gdvPage c) 4 2 0

/-- The override drives the gates of a channel that is OFF, as far as the driver, the gate enable and the latches permit; `was` is the override before: after an overlap of a leg its one commanded switch turns on no earlier than DT_MIN of the band (R278, R289). -/
def State.applyOvr (s : State) (c : Nat) (was : W32) : State :=
  if !s.ovrOn c then s
  else
    let g := s.fld (GDV_OVR c) 5 0
    let b := s.fld THM_THM_STAT 4 3
    let wait := 16 * s.fld (LDC_DT_MIN c) (8 * b + 7) (8 * b)
    s.each (List.range 3) fun k st =>
      let v := g / 4 ^ k % 4
      if v = 3 then st.shoot c k
      else
        let on := (v * 4 ^ k) &&& (63 - st.fld (GDV_FLT_STAT c) 5 0)
        let s1 := st.gatesOff c (3 * 4 ^ k &&& (63 - on))
        let x := s1.ldc c
        if on = 0 ∨ x.gates &&& on = on then s1
        else if bitOf was 31 && fldOf was 5 0 / 4 ^ k % 4 == 3 then s1.setLdc c { x with due := x.due ++ [(2 * k + v - 1, s.dt + wait)] }
        else s1.setLdc c { x with gates := x.gates ||| on, drive := driveNow (s1.strength c true) on x.drive }

/-! ### Detections (R290 to R296) -/

/-- A record of FLT_REC and FLT_T: switch, cause, trip inputs, time. -/
structure FltRec where
  sw : Nat
  cause : Nat
  trips : Nat
  t : Nat
deriving DecidableEq, Repr

/-- The records shown now. -/
def State.fltRecs (s : State) (c : Nat) : List FltRec :=
  (List.range (s.fld (GDV_FLT_NREC c) 2 0)).map fun k =>
    ⟨s.fld (GDV_FLT_REC c k) 2 0, s.fld (GDV_FLT_REC c k) 6 4, s.fld (GDV_FLT_REC c k) 15 8, (s.rd (GDV_FLT_T c k)).toNat⟩

/-- Insert a record: after every earlier one, and by switch number among those of its own field clock (R294). -/
def insertRec (r : FltRec) (same : Bool) : List FltRec → List FltRec
  | [] => [r]
  | x :: l => if same && decide (x.t = r.t) && decide (r.sw < x.sw) then r :: x :: l else x :: insertRec r same l

/-- Show records from place `k` on; SIMUL marks one of the same field clock as the record before. -/
def State.showRecs (s : State) (c k : Nat) (before : Option Nat) : List FltRec → State
  | [] => s
  | r :: l =>
    let w := r.sw + r.cause * 2 ^ 4 + (if before = some r.t then 2 ^ 7 else 0) + r.trips * 2 ^ 8
    ((s.wr (GDV_FLT_REC c k) (BitVec.ofNat 32 w)).wr (GDV_FLT_T c k) (BitVec.ofNat 32 r.t)).showRecs c (k + 1) (some r.t) l

/-- Record a detection (R294). -/
def State.recordDet (s : State) (c sw cause trips : Nat) : State :=
  let t := s.dt / 16 % 2 ^ 32
  let same := (s.ldc c).detAt == some (s.dt / 16)
  let l := insertRec ⟨sw, cause, trips, t⟩ same (s.fltRecs c)
  let s1 := s.showRecs c 0 none (l.take 4)
  let s2 := (s1.wrFld (GDV_FLT_NREC c) 2 0 (min 4 l.length)).when (decide (4 < l.length)) fun st => st.wrBit (GDV_FLT_NREC c) 3 true
  (s2.setLdc c { s2.ldc c with detAt := some (s.dt / 16) }).count (GDV_CNT_PROT c) 31 24 (gdvPage c) 8

/-- A detection: recorded, latched, the channel turned off, the event raised, the reaction started (R292 to R296). Switch 7 stands for the whole channel. -/
def State.detect (s : State) (c sw cause trips : Nat) : State :=
  let s1 := s.recordDet c sw cause trips
  let mask := if sw < 6 then 2 ^ sw else 63
  let s2 := s1.wrFld (GDV_FLT_STAT c) 5 0 (s1.fld (GDV_FLT_STAT c) 5 0 ||| mask)
  let s3 := match cause with
    | 1 => s2.wrBit (GDV_FLT_CAUSE c) sw true
    | 2 => s2.wrBit (GDV_FLT_CAUSE c) (8 + sw) true
    | 3 => (s2.wrBit (GDV_FLT_CAUSE c) 16 true).wrFld (GDV_FLT_CAUSE c) 31 24 (s2.fld (GDV_FLT_CAUSE c) 31 24 ||| trips)
    | _ => s2.wrBit (GDV_FLT_CAUSE c) 17 true
  ((s3.softOff c).raise (gdvPage c) (cause - 1)).ldcFault c .torqueOff (some .localProt)

/-- Whether a detector of switch `sw` judges: it is on, or in step 1 of a turn-off (R290, R292). -/
def State.judges (s : State) (c sw : Nat) : Bool :=
  let x := s.ldc c
  decide (x.gates / 2 ^ sw % 2 = 1) || (x.softEnd.isSome && decide (x.softMask / 2 ^ sw % 2 = 1))

/-- Desaturation of switch `sw`, after its blanking time (R290). -/
def State.desat (s : State) (c sw : Nat) : State :=
  let blank := (s.fld (GDV_DESAT_CFG c) 4 0 + 1) * 400
  if s.judges c sw ∧ (s.ldc c).onAt.getD sw 0 + blank ≤ s.dt then s.detect c sw 1 0 else s

/-- A hard short of switch `sw` (R290). -/
def State.hardShort (s : State) (c sw : Nat) : State := if s.judges c sw then s.detect c sw 2 0 else s

/-- The filtered active levels of the trip inputs. -/
def State.tripLevels (s : State) : Nat := (List.range 8).foldl (fun a k => a + (if s.bit (GDV_TRIP_CFG 0 k) 11 then 2 ^ k else 0)) 0

/-- Trip inputs of mask `m` act on channel `c` (R291). -/
def State.tripOn (s : State) (c m : Nat) : State :=
  let sel := s.fld (GDV_TRIP_EN c) 7 0 &&& m
  if sel ≠ 0 then (s.setLdc c { s.ldc c with tripBy := (s.ldc c).tripBy ||| sel }).detect c 7 3 s.tripLevels else s

/-- A filtered trip input becomes active (R291). -/
def State.tripInput (s : State) (k : Nat) : State :=
  if s.bit (GDV_TRIP_CFG 0 k) 11 then s else (s.wrBit (GDV_TRIP_CFG 0 k) 11 true).each (List.range 6) fun c st => st.tripOn c (2 ^ k)

/-- The gate supply has stayed below 8.5 V for 1 µs (R293). -/
def State.gateUv (s : State) (c mv : Nat) : State :=
  let s1 := s.wrFld (GDV_VGATE c) 15 0 mv
  if 8500 ≤ mv ∨ s1.bit (GDV_FLT_STAT c) 6 = true then s1 else (s1.wrBit (GDV_FLT_STAT c) 6 true).detect c 7 4 0

/-- The gate supply has risen above 9.0 V (R295). -/
def State.gateRecovery (s : State) (c mv : Nat) : State :=
  let s1 := s.wrFld (GDV_VGATE c) 15 0 mv
  if mv ≤ 9000 then s1 else s1.wrBit (GDV_FLT_STAT c) 6 false

/-- A timer freeze holds the channel's timers (R297): what only a timer brings about does not happen. -/
def State.unfrozen (s : State) (c : Nat) (f : State → State) : State := if s.bit (GDV_FLT_STAT c) 12 then s else f s

/-- SOFT_T has expired: the full sink (R292). -/
def State.softOffEnd (s : State) (c : Nat) : State :=
  match (s.ldc c).softEnd with
  | none => s
  | some t => if s.dt < t then s else (s.setLdc c { s.ldc c with softEnd := none, softMask := 0 }).wrBit (GDV_FLT_STAT c) 11 false

/-- The end of the bootstrap precharge (R287). -/
def State.bstPreEnd (s : State) (c : Nat) : State :=
  match (s.ldc c).preEnd with
  | none => s
  | some t => if s.dt < t then s else (s.setLdc c { s.ldc c with preEnd := none }).followAll c

/-- The channel starts switching: the bootstraps count as uncharged and the low sides precharge (R287). -/
def State.startSwitching (s : State) (c : Nat) : State :=
  let us := max 1 (s.fld (GDV_BST_PRE c) 7 0)
  s.setLdc c { s.ldc c with charge := [true, true, true], preEnd := some (s.dt + 4000 * us) }

/-- The amplifier offset is measured: the mean of the conversions less 2,048, rounded (R299); the ageing block keeps the day's extremes (R507). At a start that brings no conversions the measured value is free (log 62). -/
def State.offsetMeasure (s0 : State) (c : Nat) (codes : List Nat) : State :=
    let (m, s) : Int × State :=
      if codes = [] then (signedOf 16 (Config.freeWord s0.free).toNat, s0.nextFree.2) else (rdiv (codes.sum : Nat) codes.length - 2048, s0)
    let s1 := s.wr (LDC_CS_OFS c) (BitVec.ofNat 32 (wrapTo 16 m))
    { s1 with age := { s1.age with
        shuntLo := tabSet c (min m (tabGet m c s1.age.shuntLo)) s1.age.shuntLo
        shuntHi := tabSet c (max m (tabGet m c s1.age.shuntHi)) s1.age.shuntHi } }

/-! ### The cycle-by-cycle limit (R302) -/

/-- The shunt comparator fires: high sides that are on turn off until their next turn-on edge. -/
def State.cbcFire (s : State) (c : Nat) : State :=
  let x := s.ldc c
  let blank := 16 * s.fld (LDC_CBC_CTL c) 15 8
  let th := s.fld (LDC_CBC_CTL c) 7 0 * s.fld (LDC_THR_FRAC c) 16 0 / 2 ^ 16
  let blanked := (List.range 6).any fun k => decide (x.gates / 2 ^ k % 2 = 1) && decide (s.dt < x.onAt.getD k 0 + blank)
  if s.fld (LDC_CBC_CTL c) 7 0 = 0 ∨ th = 0 ∧ x.gates = 0 ∨ blanked = true then s
  else
    let hi := x.gates &&& 21
    let s1 := s.setLdc c { x with held := x.held ||| hi, cbcFired := true }
    let s2 := (s1.raise (ldcPage c) 1).when (!x.cbcFired) fun st => st.count (LDC_CBC_CNT c) 15 0 (ldcPage c) 5
    s2.followAll c

/-- The end of a period: PERSIST consecutive periods with a firing raise CBC_PERSIST (R302). -/
def State.cbcPeriod (s : State) (c : Nat) : State :=
  let x := s.ldc c
  if !x.cbcFired then s.setLdc c { x with cbcRun := 0 }
  else if x.cbcRun + 1 < max 1 (s.fld (LDC_CBC_CTL c) 23 16) then s.setLdc c { x with cbcFired := false, cbcRun := x.cbcRun + 1 }
  else ((s.setLdc c { x with cbcFired := false, cbcRun := 0 }).raise (ldcPage c) 2).protClass c (ldcPage c) 2 6 4

/-! ### Current samples (R298, R300, R301) -/

/-- The plan of one leg for the period that ends: its turn-on window (command to completion) and its turn-off window, PWM units; a held or uncharged leg is not planned. -/
def State.legPlan (s : State) (c k : Nat) : Option ((Nat × Nat) × (Nat × Nat)) :=
  let x := s.ldc c
  let mode := x.modes.getD k 3
  let edge := s.edgeAligned c
  let p := s.pwmPeriod c
  let a := onIvl edge p (x.duties0.getD k 0)
  let b := onIvl edge p (x.duties.getD k 0)
  if 2 ≤ mode ∨ a.1 = a.2 then none
  else some ((a.1, a.1 + 8 * x.dead.getD (2 * k + 1) 0), (b.2, b.2 + (if mode = 0 then 8 * x.dead.getD (2 * k) 0 else 0)))

/-- Whether the high side of leg `k` is on at phase `u` of the plan. -/
def State.legHigh (s : State) (c k u : Nat) : Bool :=
  match s.legPlan c k with
  | none => false
  | some (a, b) => decide (a.2 ≤ u) && decide (u < b.1) && !s.gateLatched c (2 * k) && !s.bit (GDV_FLT_STAT c) (7 + k)

/-- The switch state at phase `u`: a in bit 2, b in bit 1, c in bit 0 (R301). -/
def State.swState (s : State) (c u : Nat) : Nat :=
  (if s.legHigh c 0 u then 4 else 0) + (if s.legHigh c 1 u then 2 else 0) + (if s.legHigh c 2 u then 1 else 0)

/-- Insert a window by its start. -/
def insertWin (w : Nat × Nat) : List (Nat × Nat) → List (Nat × Nat)
  | [] => [w]
  | x :: l => if w.1 ≤ x.1 then w :: x :: l else x :: insertWin w l

/-- The intervals without a switch change before `top`: from the completion of one change to the start of the next. -/
def gapsOf (top lo : Nat) : List (Nat × Nat) → List (Nat × Nat)
  | [] => if lo < top then [(lo, top)] else []
  | w :: l => (if lo < w.1 ∧ lo < top then [(lo, min w.1 top)] else []) ++ gapsOf top (max lo w.2) l

/-- The intervals of the plan, to the middle of the period or to its end (R300). -/
def State.planGaps (s : State) (c top : Nat) : List (Nat × Nat) :=
  let ws := (List.range 3).flatMap fun k =>
    match s.legPlan c k with
    | none => []
    | some (a, b) => [a, b]
  gapsOf top 0 (ws.foldr insertWin [])

/-- The interval and the instant of sample `k`, if one is placed (R300). -/
def State.smpPlace (s : State) (c k : Nat) : Option ((Nat × Nat) × Nat) :=
  let p := s.pwmPeriod c
  if s.actBit (LDC_CS_CTL c) 2 then
    let top := if s.edgeAligned c then p else p / 2
    let gs := (s.planGaps c top).filter fun g => let v := s.swState c g.1; v != 0 && v != 7
    (gs[k]?).map fun g => (g, g.2 - 120)
  else
    let r := s.act (if k = 0 then LDC_SMP_AT0 c else LDC_SMP_AT1 c)
    if bitOf r 31 then
      let u := fldOf r 17 0
      some (((s.planGaps c p).find? fun g => decide (g.1 ≤ u) && decide (u < g.2)).getD (u, u), u)
    else none

/-- A conversion in amperes, 16.16 (R298). -/
def State.shuntAmps (s : State) (c code : Nat) : Int :=
  let gain : Int := 5 * 2 ^ s.actFld (LDC_CS_CTL c) 1 0
  let sh : Int := s.actFld (LDC_SHUNT c) 23 0
  rdiv (((code : Int) - 2048 - signedOf 16 (s.fld (LDC_CS_OFS c) 15 0)) * 48000000) (gain * max 1 sh)

/-- The phase a switch state measures, and the sign (R301). -/
def phaseOf : Nat → Option (Nat × Int)
  | 4 => some (0, 1)
  | 3 => some (0, -1)
  | 2 => some (1, 1)
  | 5 => some (1, -1)
  | 1 => some (2, 1)
  | 6 => some (2, -1)
  | _ => none

/-- One sample of the period that ends: its value, its switch state, whether it is valid, whether its interval was too short. -/
structure Sample where
  val : Int
  st : Nat
  valid : Bool
  short : Bool
deriving DecidableEq, Repr

/-- Take sample `k` from its conversion (R300, R301). -/
def State.takeSample (s : State) (c k : Nat) (code : Option Nat) : Sample :=
  match s.smpPlace c k, code with
  | some (g, u), some v =>
    if g.2 - g.1 < 8 * s.actFld (LDC_CS_CTL c) 15 8 then ⟨0, s.swState c u, false, true⟩
    else
      let st := s.swState c u
      ⟨s.shuntAmps c v, st, (phaseOf st).isSome, false⟩
  | some (g, u), none => ⟨0, s.swState c u, false, decide (g.2 - g.1 < 8 * s.actFld (LDC_CS_CTL c) 15 8)⟩
  | none, _ => ⟨0, 0, false, false⟩

/-- The phase currents of a period: measured ones, the third from two, the others unchanged (R301). -/
def phaseCurrents (old : List Int) (a b : Sample) : List (Int × Bool) :=
  let one (x : Sample) : Option (Nat × Int) := if x.valid then (phaseOf x.st).map fun p => (p.1, p.2 * x.val) else none
  let base := old.map fun v => (v, false)
  match one a, one b with
  | none, none => base
  | some (k, v), none => base.set k (v, true)
  | none, some (k, v) => base.set k (v, true)
  | some (k, v), some (m, w) => if k = m then base.set m (w, true) else ((base.set k (v, true)).set m (w, true)).set (3 - k - m) (-(v + w), true)

/-- The end of a period: the samples and the phase currents are shown (R300, R301). -/
def State.currentSample (s : State) (c : Nat) (codes : List Nat) : State :=
  let a := s.takeSample c 0 codes[0]?
  let b := s.takeSample c 1 codes[1]?
  let ph (k : Nat) : Nat := LDC_I_PH_A c + 4 * k
  let old := (List.range 3).map fun k => signedOf 32 (s.rd (ph k)).toNat
  let new := phaseCurrents old a b
  let floats (k : Nat) : Bool := (s.ldc c).modes.getD k 3 == 3
  let s1 := (s.wr (LDC_I_SMP0 c) (w32 (satTo 32 a.val))).wr (LDC_I_SMP1 c) (w32 (satTo 32 b.val))
  let s2 := s1.each (List.range 3) fun k st => st.wr (ph k) (if floats k then 0 else w32 (satTo 32 (new.getD k (0, false)).1))
  let fresh := (List.range 3).foldl (fun acc k => acc + (if (new.getD k (0, false)).2 && !floats k then 2 ^ k else 0)) 0
  let short := a.short || b.short
  let stat := (if a.valid then 1 else 0) + (if b.valid then 2 else 0) + a.st * 4 + b.st * 32 + (if short then 256 else 0) + fresh * 512
  (s2.wr (LDC_SMP_STAT c) (BitVec.ofNat 32 stat)).raiseIf short (ldcPage c) 3

/-! ### Commits and reload points (R279 to R281) -/

/-- Where a timer that starts begins its first period: at the next field clock, or at the next synchronous boundary (R277). -/
def firstPeriod (sync : Bool) (ofs period t : Nat) : Nat :=
  let next := t / 16 * 16 + 16
  if sync then
    let m := 2 * period
    if m = 0 then next else
      let r := (t + m - ofs % m) % m
      if r = 0 then t + m else t + (m - r)
  else next

/-- The end of the present period: after 2 × PERIOD ticks, or, with SYNC, at the next instant of the synchronous grid, so that a set that moves the grid cuts the period in which it applies short (R277; the cut is the model's choice, log 62). -/
def State.periodEnd (s : State) (c : Nat) : Nat :=
  if s.actBit (LDC_PWM_CTL c) 4 then firstPeriod true (s.act (LDC_SYNC_OFS c)).toNat (s.pwmPeriod c) (s.pstart c) else s.pstart c + 2 * s.pwmPeriod c

/-- The next reload point of a running timer: whether it is mid-period, and its device time. -/
def State.nextReload (s : State) (c : Nat) : Bool × Nat :=
  let mid := s.pstart c + s.pwmPeriod c
  if (s.ldc c).midDone ∨ s.periodEnd c ≤ mid then (false, s.periodEnd c) else (true, mid)

/-- The latest reload point of a running timer. -/
def State.lastReload (s : State) (c : Nat) : Nat := if (s.ldc c).midDone then s.pstart c + s.pwmPeriod c else s.pstart c

/-- Whether a set waits for a period boundary whatever UPD selects: it changes PERIOD, ALIGN, SYNC, UPD, SYNC_OFS, SMP_AT0 or SMP_AT1 (R279). -/
def State.needsBoundary (s : State) (c : Nat) (vals : Tab W32) : Bool :=
  let ch (a : Nat) : Bool := setVal vals a != s.act a
  let pw := setVal vals (LDC_PWM_CTL c)
  ch (LDC_PERIOD c) || ch (LDC_SYNC_OFS c) || ch (LDC_SMP_AT0 c) || ch (LDC_SMP_AT1 c) ||
    fldOf pw 4 1 != s.actFld (LDC_PWM_CTL c) 4 1

/-- FREQ_MAX: the smaller of 3,000 Hz and f_PWM / 24, 16.16 (R316). -/
def freqMax (period : Nat) : Nat := min (3000 * 2 ^ 16) (if period = 0 then 3000 * 2 ^ 16 else 2000000000 * 2 ^ 16 / (24 * period))

/-- The engine owns the legs from SENSING to COASTING (R310). -/
def State.engineOwns (s : State) (c : Nat) : Bool := decide (1 ≤ s.comState c) && decide (s.comState c ≤ 5)

/-- The duties and modes that LEG_CTL and DUTY give a channel whose engine does not own them (R275, R310). -/
def State.ownLegs (s : State) (c : Nat) : State :=
  if s.engineOwns c then s
  else
    let v := s.act (LDC_LEG_CTL c)
    let d := [s.actFld (LDC_DUTY_A c) 17 0, s.actFld (LDC_DUTY_B c) 17 0, s.actFld (LDC_DUTY_C c) 17 0]
    s.setLdc c { s.ldc c with modes := [fldOf v 1 0, fldOf v 3 2, fldOf v 5 4], dutiesP := d }

/-- The pending set applies whole; LATE stays for a set that was late (R279, R280). -/
def State.ldcApply (s : State) (c : Nat) (k : Commit) : State :=
  let late := match (s.ldc c).arrived with
    | none => false
    | some (_, l) => l
  let s1 := ((s.putInForce (ldcPage c) k.vals).dropCommit (ldcPage c)).wrBit (ldcPage c + 0x020) 31 late
  let s2 := s1.wr (LDC_FREQ_MAX c) (BitVec.ofNat 32 (freqMax (s1.actFld (LDC_PERIOD c) 17 0)))
  (s2.setLdc c { s2.ldc c with arrived := none }).ownLegs c

/-- The instant before which a set may not take effect, as far as it is a device time (R280). -/
def dueNoEarlier (d : CommitDue) (t : Nat) : Nat :=
  match d with
  | .atTime u => max t u
  | _ => t

/-- A COMMIT of the LDC page arrives on the field die: refused for a bad PERIOD or UPD, else the pending set (R274, R279, R280). -/
def State.ldcArrival (s : State) (c : Nat) (due : CommitDue) : State :=
  let vals := s.shadowVals (ldcPage c)
  let per := fldOf (setVal vals (LDC_PERIOD c)) 17 0
  let pw := setVal vals (LDC_PWM_CTL c)
  if per < 20000 ∨ 250000 < per then s.err (ldcPage c) .commit 0x044
  else if fldOf pw 3 2 = 3 then s.err (ldcPage c) .commit 0x040
  else
    let x := s.ldc c
    let s1 := s.acceptCommit (ldcPage c) vals due
    if x.running then
      let meets := decide (s.lastReload c / 16 = s.dt / 16) || decide ((s.nextReload c).2 / 16 = s.dt / 16)
      let late := match due with
        | .nextApply => meets
        | .atTime t => decide (t ≤ s.lastReload c) || (meets && decide (t ≤ (s.nextReload c).2))
        | .atAngle _ _ => s.dueReached due (s.lastReload c)
      ((s1.setLdc c { x with arrived := some (s.dt, late) }).wrBit (ldcPage c + 0x020) 31 (late || s.bit (ldcPage c + 0x020) 31)).raiseIf late (ldcPage c) 0
    else
      let s2 := s1.setLdc c { x with arrived := some (s.dt, false) }
      if bitOf pw 0 then
        let st := firstPeriod (bitOf pw 4) (setVal vals (LDC_SYNC_OFS c)).toNat (if bitOf pw 1 then per else per / 2 * 2) (dueNoEarlier due s.dt)
        s2.setLdc c { s2.ldc c with startAt := some st }
      else s2.ldcApply c ⟨ldcPage c, 0, vals, due⟩

/-- Whether the pending set applies at the reload point `t`. -/
def State.setApplies (s : State) (c : Nat) (mid : Bool) (t : Nat) (k : Commit) : Bool :=
  let upd := s.actFld (LDC_PWM_CTL c) 3 2
  let arr := match (s.ldc c).arrived with
    | none => true
    | some (a, _) => decide (a / 16 < t / 16)
  let sel := if mid then (upd == 1 || upd == 2) && !s.needsBoundary c k.vals else upd == 0 || upd == 2 || s.needsBoundary c k.vals
  arr && sel && s.dueReached k.due t

/-- The pending set at a reload point. -/
def State.reloadSet (s : State) (c : Nat) (mid : Bool) (t : Nat) : State :=
  match s.commitOf (ldcPage c) with
  | none => s
  | some k => if s.setApplies c mid t k then s.ldcApply c k else s

/-- The duties that the engine's common duty gives, PWM units (R310, R312). -/
def State.engineDuty (s : State) (c : Nat) : State :=
  if !s.engineOwns c then s
  else
    let x := s.ldc c
    let d := ((max 0 x.duty) * (s.pwmPeriod c : Nat) / 2 ^ 32).toNat
    s.setLdc c { x with dutiesP := [d, d, d] }

/-- New duties govern from a mid-period reload: the falling half, or, edge-aligned, a turn-off not yet reached; a switch already off stays off (R281). -/
def midDuties (edge : Bool) (p : Nat) (now new : List Nat) : List Nat :=
  (List.range 3).map fun k => if edge ∧ now.getD k 0 ≤ p / 2 then now.getD k 0 else new.getD k 0

/-- The mid-period reload at `t`. -/
def State.reloadMid (s : State) (c t : Nat) : State :=
  let s1 := s.reloadSet c true t
  let upd := s1.actFld (LDC_PWM_CTL c) 3 2
  let s2 := if upd = 1 ∨ upd = 2 then s1.engineDuty c else s1
  let x := s2.ldc c
  let d := if upd = 1 ∨ upd = 2 then midDuties (s2.edgeAligned c) (s2.pwmPeriod c) x.duties x.dutiesP else x.duties
  if s2.actBit (LDC_PWM_CTL c) 0 then ((s2.setLdc c { x with midDone := true, duties := d }).newDead c).followAll c
  else (s2.setLdc c { x with running := false, midDone := false }).allOff c

/-- The throttle fraction of channel `c`: THR_FRAC_SET while the device throttle is active or a channel sensor of its own reads THROT (R501, R502). -/
def State.thrFrac (s : State) (c : Nat) : Nat :=
  let own := (List.range 14).any fun k => decide (6 ≤ k) && s.bit THM_THROT k && s.fld (THM_SNS_CFG k) 4 3 == 1 && s.fld (THM_SNS_CFG k) 7 5 == c
  if s.bit THM_THM_STAT 0 || own then s.fld THM_THR_FRAC_SET 16 0 else 65536

/-- The period boundary at `t`: the set, the throttle fraction, the start of the next period, or the stop of the timer (R277, R279, R501). -/
def State.reloadBoundary (s : State) (c t : Nat) : State :=
  let s1 := (s.reloadSet c false t).wrFld (LDC_THR_FRAC c) 16 0 (s.thrFrac c)
  if s1.actBit (LDC_PWM_CTL c) 0 then
    let upd := s1.actFld (LDC_PWM_CTL c) 3 2
    let s2 := (if upd = 0 ∨ upd = 2 then s1.engineDuty c else s1).wr64 (LDC_PSTART_LO c) t
    let x := s2.ldc c
    ((s2.setLdc c { x with running := true, midDone := false, duties0 := x.dutiesP, duties := x.dutiesP }).newDead c).followAll c
  else (s1.setLdc c { s1.ldc c with running := false, midDone := false }).allOff c

/-- The first period of a timer: no measurement exists yet (R277, R283). -/
def State.timerStart (s : State) (c t : Nat) : State :=
  let x := s.ldc c
  let s1 := s.setLdc c { x with startAt := none, running := true, meas := [[], [], [], [], [], []] }
  match s1.commitOf (ldcPage c) with
  | none => s1.reloadBoundary c t
  | some k => (s1.ldcApply c k).reloadBoundary c t

end Sys2Proof.Machine
end

