-- ==== Sys2Proof/Machine/SixStep.lean ====
section
/-! DEFINITION. The commutation engine of a local channel: six-step tables, back-EMF and Hall commutation, sensorless start, running, loss of synchronism (R308 to R331).
Frequencies and duties are integers in units of 2^-32 Hz and 2^-32 of PERIOD. -/

namespace Sys2Proof.Machine

/-! ### Tables (R311, R321) -/

/-- The leg modes of step `k`: 1 HIGH_PWM, 2 LOW_ON, 3 OFF (R311). -/
def stepModes : Nat → List Nat
  | 0 => [1, 3, 2]
  | 1 => [3, 1, 2]
  | 2 => [2, 1, 3]
  | 3 => [2, 3, 1]
  | 4 => [3, 2, 1]
  | _ => [1, 2, 3]

/-- The leg modes of the test pulse along 30° × `k`: even pulses use three legs, odd ones the legs of a step (R321); a leg that the vector marks 1 runs COMPL, one that it marks 0 LOW_ON. -/
def pulseModes : Nat → List Nat
  | 0 => [0, 2, 2]
  | 2 => [0, 0, 2]
  | 4 => [2, 0, 2]
  | 6 => [2, 0, 0]
  | 8 => [2, 2, 0]
  | 10 => [0, 2, 0]
  | k => stepModes ((k - 1) / 2)

/-- The step whose range of greatest torque holds the rotor angle 30° × `k` (R311). -/
def stepOfAngle (rev : Bool) (k : Nat) : Nat := if rev then (k + 9) / 2 % 6 else (k + 3) / 2 % 6

/-- The step after `k` in a direction (R311). -/
def nextStep (rev : Bool) (k : Nat) : Nat := if rev then (k + 5) % 6 else (k + 1) % 6

/-- The commanded direction is reverse (R330). -/
def State.comRev (s : State) (c : Nat) : Bool := s.bit (LDC_COM_CTL c) 1

/-- The step in force. -/
def State.comStep (s : State) (c : Nat) : Nat := s.fld (LDC_COM_STAT c) 5 3

/-- The floating back-EMF of the present step is expected to rise (R311). -/
def State.risingSlope (s : State) (c : Nat) : Bool := (s.comStep c % 2 == 0) != s.comRev c

/-! ### Frequency and duty (R316, R319, R325) -/

/-- The electrical frequency of a crossing interval in field clocks (R316). -/
def freqOfInt (int : Nat) : Int := if int = 0 then 0 else 250000000 * one32 / (6 * int)

/-- Show ZC_INT, COM_FREQ and the measured direction (R315, R316). -/
def State.showFreq (s : State) (c int : Nat) (rev : Bool) : State :=
  let f := freqOfInt int
  ((s.wr (LDC_ZC_INT c) (BitVec.ofNat 32 int)).wr (LDC_COM_FREQ c) (toS16 (if rev then -f else f))).wrBit (LDC_COM_STAT c) 6 rev

/-- DUTY_MIN and DUTY_MAX. -/
def State.dutyMin (s : State) (c : Nat) : Int := (s.fld (LDC_DUTY_LIM c) 15 0 : Nat) * 65536
def State.dutyMax (s : State) (c : Nat) : Int := (s.fld (LDC_DUTY_LIM c) 31 16 : Nat) * 65536

/-- The back-EMF duty |f| × KE / V_bus; with KE 0 it is 0; with no bus voltage the manual gives none (R319, log 2). -/
def State.bemfDuty (s : State) (c : Nat) (f : Int) : Int × State :=
  let ke : Int := (s.rd (LDC_KE c)).toNat
  let v : Int := (s.rd (LDC_VBUS c)).toNat
  if ke = 0 then (0, s)
  else if v = 0 then
    let (k, s1) := s.nextFree
    (Config.freeInt k, s1)
  else ((f.natAbs : Int) * ke / (1000 * v), s)

/-- Store the common duty. -/
def State.setDuty (s : State) (c : Nat) (d : Int) : State := s.setLdc c { s.ldc c with duty := d }

/-- The starting duty of a catch or a Hall start (R319). -/
def State.startDuty (s : State) (c : Nat) (f : Int) : State :=
  if (s.rd (LDC_KE c)).toNat = 0 then s.setDuty c (s.dutyMin c)
  else
    let (d, s1) := s.bemfDuty c f
    s1.setDuty c (clampInt (s.dutyMin c) (s.dutyMax c) d)

/-- A running duty: held within DUTY_LIM and never below the back-EMF duty (R325). -/
def State.runDuty (s : State) (c : Nat) (f d : Int) : State :=
  let (b, s1) := s.bemfDuty c f
  s1.setDuty c (max b (clampInt (s.dutyMin c) (s.dutyMax c) d))

/-! ### Commutation (R312) -/

/-- Count a commutation, downwards for one in reverse (R316). -/
def State.countStep (s : State) (c : Nat) (rev : Bool) : State :=
  s.wr (LDC_STEP_CNT c) (s.rd (LDC_STEP_CNT c) + (if rev then BitVec.ofInt 32 (-1) else 1))

/-- Put step `k` in force at once: the leg modes change now (R312). -/
def State.setStep (s : State) (c k t : Nat) : State :=
  let s1 := s.wrFld (LDC_COM_STAT c) 5 3 k
  (s1.setLdc c { s1.ldc c with modes := stepModes k, comLast := t, crossed := false, zcPrev := none, zcFirst := none }).followAll c

/-- Count one more in a field of COM_CNT (R329). -/
def State.comCount (s : State) (c hi lo : Nat) : State := s.count (LDC_COM_CNT c) hi lo (ldcPage c) 24

/-- Milliseconds in ticks. -/
def msTicks (n : Nat) : Nat := n * 4000000

/-! ### Loss of synchronism (R327, R328) -/

/-- A loss or a start failure: the two-step turn-off, then a re-catch or the fault (R328). -/
def State.syncLoss (s : State) (c cause : Nat) : State :=
  let s1 := (((s.softOff c).engineStop c).wrFld (LDC_COM_STAT c) 18 16 cause).raise (ldcPage c) 17
  let s2 := s1.comCount c 7 0
  let s3 := if 5 ≤ cause then s2.comCount c 23 16 else s2
  let used := s3.fld (LDC_COM_STAT c) 10 9
  if used < s3.fld (LDC_COM_CTL c) 13 12 then
    let s4 := ((s3.wrFld (LDC_COM_STAT c) 10 9 (used + 1)).raise (ldcPage c) 19).comCount c 15 8
    let wait := msTicks (s.fld (LDC_RECATCH_WAIT c) 15 0)
    (s4.setLdc c { s4.ldc c with recatchAt := some (s.dt + wait) }).setComState c 5
  else ((s3.raise (ldcPage c) 18).setComState c 6).ldcFault c .torqueOff none

/-! ### Entering the states -/

/-- The engine forgets what it measured. -/
def State.clearMeasure (s : State) (c : Nat) : State :=
  s.setLdc c { s.ldc c with ints := [], crossings := 0, lastMean := none, good := 0, missRun := 0, crossed := false, zcPrev := none, zcFirst := none }

/-- RUNNING: the integrators of the channel and of a bound slot at zero, the target ramp starts from the present frequency (R325, R328). -/
def State.enterRunning (s : State) (c : Nat) (f : Int) : State :=
  let s0 := match s.slotOfLdc c with
    | none => s
    | some n => s.setServo n { s.servo n with iVel := 0, iD := 0, iQ := 0 }
  let s1 := s0.clearMeasure c
  (s1.setLdc c { s1.ldc c with integ := 0, target := f.natAbs, backward := s.comRev c }).setComState c 4

/-- SENSING: all switches off (R318). -/
def State.enterSensing (s : State) (c : Nat) : State :=
  let s1 := ((s.allOff c).engineStop c).clearMeasure c
  (s1.setLdc c { s1.ldc c with recatchAt := none, crossAt := none }).setComState c 1

/-- Reverse wait (R320). -/
def State.enterReverseWait (s : State) (c : Nat) : State :=
  let s1 := s.setComState c 1
  ((s1.setLdc c { s1.ldc c with crossAt := some s.dt }).wrBit (LDC_COM_STAT c) 8 true).raise (ldcPage c) 23

/-- The hold of vector 100 at ALIGN_DUTY (R323). -/
def State.holdVector (s : State) (c : Nat) : State :=
  let s1 := s.setLdc c { s.ldc c with
    modes := pulseModes 0
    duty := (s.fld (LDC_ALIGN_CFG c) 31 16 : Nat) * 65536
    ipd := none
    since := s.dt }
  (s1.wrBit (LDC_COM_STAT c) 8 true).followAll c

/-- No rotor angle can be found without the alignment vector: cause 7; else the vector is held (R323). -/
def State.alignOrFail (s : State) (c : Nat) : State := if s.bit (LDC_COM_CTL c) 4 then s.holdVector c else s.syncLoss c 7

/-- Test pulse `k` of the initial position detection from time `t` on (R321). -/
def State.ipdPulse (s : State) (c k t : Nat) : State :=
  (s.setLdc c { s.ldc c with ipd := some k, ipdAt := t, modes := pulseModes k, duty := one32 }).followAll c

/-- ALIGNING: switching starts with the precharge, then the detection or the vector (R287, R321, R323). -/
def State.enterAligning (s : State) (c : Nat) : State :=
  let s1 := ((s.setComState c 2).wrBit (LDC_COM_STAT c) 11 false).startSwitching c
  if s1.bit (LDC_COM_CTL c) 2 then
    let s2 := s1.setLdc c { s1.ldc c with rises := [] }
    s2.ipdPulse c 0 ((s2.ldc c).preEnd.getD s.dt)
  else s1.alignOrFail c

/-- The interval of the next forced step, one sixth of an electrical period, and the frequency at its end: the frequency rises at START_RATE until it reaches HANDOVER_F, where it holds (R324). -/
def State.forcedStep (s : State) (c : Nat) (f : Int) : Option (Nat × Int) :=
  let cap := u16 (s.rd (LDC_HANDOVER_F c))
  let rate := u16 (s.rd (LDC_START_RATE c))
  let even (f : Int) : Option (Nat × Int) := if f ≤ 0 then none else some ((4000000000 * one32 / (6 * f)).toNat, f)
  if cap ≤ f then even cap
  else if rate = 0 then even f
  else
    let root : Int := isqrt (f * f + rate * one32 / 3).toNat
    if root ≤ cap then some (((root - f) * 4000000000 / rate).toNat, root)
    else
      let left := one32 / 6 - (cap * cap - f * f) / (2 * rate)
      some (((cap - f) * 4000000000 / rate + left * 4000000000 / cap).toNat, cap)

/-- The frequency of the open-loop start at time `t` (R324). -/
def State.startFreqAt (s : State) (c t : Nat) : Int :=
  let x := s.ldc c
  min (u16 (s.rd (LDC_HANDOVER_F c))) (x.startFreq + u16 (s.rd (LDC_START_RATE c)) * ((t - x.comLast : Nat) : Int) / 4000000000)

/-- The duty of the open-loop start, within DUTY_LIM (R324). -/
def State.openDuty (s : State) (c : Nat) (f : Int) : State :=
  let d0 : Int := (s.fld (LDC_START_V c) 15 0 : Nat) * 65536
  let kv : Int := (s.fld (LDC_START_V c) 31 16 : Nat) * 65536
  s.setDuty c (clampInt (s.dutyMin c) (s.dutyMax c) (d0 + kv * f / (100 * one32)))

/-- Schedule the next forced commutation after one at time `t` (R324). -/
def State.scheduleForced (s : State) (c t : Nat) (f : Int) : State :=
  let x := s.ldc c
  match s.forcedStep c f with
  | none => s.setLdc c { x with comAt := none, forced := true, startFreq := f, freqEnd := f }
  | some (d, f') => (s.setLdc c { x with comAt := some (t + d), forced := true, startFreq := f, freqEnd := f' }).openDuty c f

/-- STARTING from rotor angle 30° × `k` (R322 to R324). -/
def State.enterStarting (s : State) (c k : Nat) : State :=
  let s1 := s.wrFld (LDC_COM_STAT c) 15 12 k
  let s2 := ((s1.setLdc c { s1.ldc c with ipd := none, crossAt := none }).clearMeasure c).setComState c 3
  let s3 := s2.setStep c (stepOfAngle (s.comRev c) k) s.dt
  s3.scheduleForced c s.dt (min (u16 (s.rd (LDC_START_F0 c))) (u16 (s.rd (LDC_HANDOVER_F c))))

/-! ### Running (R315, R325, R327) -/

/-- The deadline of a crossing after a commutation at `t`: the replacement commutation, at the expected instant or, if that is later, as soon as the crossing counts as missing (R327; the order of the two is the model's reading, log 62). -/
def State.scheduleMissing (s : State) (c t : Nat) : State :=
  let int := (s.rd (LDC_ZC_INT c)).toNat * 16
  let w := s.fld (LDC_PLAUS c) 15 8
  s.setLdc c { s.ldc c with comAt := (if int = 0 then none else some (t + max int (int * w / 16))), forced := true }

/-- The standalone speed regulator at a crossing: the target ramp, the PI law, the end of a run ramped to zero (R325, R326). -/
def State.regulate (s : State) (c int : Nat) : State :=
  let x := s.ldc c
  let raw := s16 (s.rd (LDC_SPD_TGT c))
  let want : Int := if x.backward then (if raw < 0 then -raw else 0) else (if raw < 0 then 0 else raw)
  let step := u16 (s.rd (LDC_SPD_RAMP c)) * int / 250000000
  let tgt := if x.target < want then min want (x.target + step) else max want (x.target - step)
  if tgt = 0 ∧ want = 0 then s.ldcCoast c
  else
    let f := freqOfInt int
    let e := tgt - f
    let d := (s.rd (LDC_SPD_KP c)).toNat * e / one32 + x.integ
    let free := decide (s.dutyMin c ≤ d) && decide (d ≤ s.dutyMax c)
    let i := if free then x.integ + (s.rd (LDC_SPD_KI c)).toNat * e / one32 * int / 250000000 else x.integ
    (s.setLdc c { x with target := tgt, integ := i }).runDuty c f d

/-- Cause 1 or 3 of a loss, found with interval `int` (R327). -/
def State.implausible (s : State) (c int : Nat) : Option Nat :=
  let x := s.ldc c
  let l := x.ints.take 6
  let mean : Int := if l = [] then int else (l.sum : Nat) / l.length
  let tol : Int := s.fld (LDC_PLAUS c) 7 0
  let sum := (int :: x.ints.take 5).sum
  let f : Int := if sum = 0 then 0 else 250000000 * one32 / sum
  let whole := (x.crossings + 1) % 6 == 0 && decide (5 ≤ x.ints.length)
  if ((int : Int) - mean).natAbs * 256 > tol * mean then some 1
  else
    match x.lastMean with
    | none => none
    | some m => if whole ∧ u16 (s.rd (LDC_JUMP_MAX c)) < (f - m).natAbs then some 3 else none

/-- Remember an accepted interval. -/
def Ldc.addInt (x : Ldc) (int : Nat) : Ldc :=
  let sum := (int :: x.ints.take 5).sum
  let whole := (x.crossings + 1) % 6 == 0 && decide (5 ≤ x.ints.length)
  { x with
    ints := (int :: x.ints).take 6
    crossings := x.crossings + 1
    missRun := 0
    lastMean := (if whole && sum != 0 then some (250000000 * one32 / sum) else x.lastMean) }

/-- The delay from a crossing to its commutation, ticks (R315). -/
def State.delayTicks (s : State) (c int : Nat) : Nat := int * 16 * s.fld (LDC_COM_DELAY c) 15 0 / 65536

/-- A crossing in RUNNING at time `t` with interval `int` (R315, R325, R327). -/
def State.runCrossing (s : State) (c t int : Nat) : State :=
  match s.implausible c int with
  | some k => s.syncLoss c k
  | none =>
    let s1 := s.showFreq c int (s.comRev c)
    let s2 := s1.setLdc c { (s1.ldc c).addInt int with comAt := some (t + s.delayTicks c int), forced := false, crossed := true, crossAt := some t }
    if (s.slotOfLdc c).isSome then s2 else s2.regulate c int

/-- A crossing in STARTING at time `t`: good or not, and the hand-over (R324). -/
def State.startCrossing (s : State) (c t : Nat) (int : Option Nat) : State :=
  let x := s.ldc c
  let reached := decide (u16 (s.rd (LDC_HANDOVER_F c)) ≤ s.startFreqAt c t)
  let good := match x.comAt with
    | none => false
    | some u =>
      let len := u - x.comLast
      decide ((2 * (t : Int) - (u + x.comLast : Nat)).natAbs * 128 ≤ s.fld (LDC_START_HO c) 15 8 * len)
  let n := if reached && good then x.good + 1 else 0
  let s1 := s.setLdc c { x with good := n, crossed := true, crossAt := some t }
  match int with
  | none => s1
  | some i =>
    let s2 := s1.showFreq c i (s.comRev c)
    if max 1 (s.fld (LDC_START_HO c) 3 0) ≤ n then
      let s3 := (s2.enterRunning c (freqOfInt i)).raise (ldcPage c) 21
      s3.setLdc c { s3.ldc c with comAt := some (t + s.delayTicks c i), forced := false, crossed := true, crossAt := some t }
    else s2

/-- A confirmed crossing at device time `t` (R314, R315). -/
def State.zeroCrossing (s : State) (c t : Nat) : State :=
  let x := s.ldc c
  let int := x.crossAt.map fun p => (t - p) / 16
  if s.comState c = 3 then s.startCrossing c t int
  else
    match int with
    | none => s.setLdc c { x with crossed := true, crossAt := some t }
    | some i => s.runCrossing c t i

/-- The crossing instant by linear interpolation between the last sample before the sign change and the first after it (R314). -/
def State.zcDone (s : State) (c : Nat) : State :=
  match (s.ldc c).zcPrev, (s.ldc c).zcFirst with
  | some (t0, v0), some (t1, v1, _) =>
    let w := v1 - min 0 v0
    let d := if w ≤ 0 then 0 else ((t1 : Int) - t0) * (-(min 0 v0)) / w
    s.zeroCrossing c (t0 + d.toNat)
  | _, _ => s

/-- Where the engine samples the floating phase in the period that ends: the later of the centre of the on-interval and SETTLE after its turn-on edge; none for an on-interval shorter than 2 × SETTLE (R313). -/
def State.zcInstant (s : State) (c : Nat) : Option Nat :=
  let x := s.ldc c
  let k := (x.modes.findIdx? fun m => m == 1).getD 0
  let a := (onIvl (s.edgeAligned c) (s.pwmPeriod c) (x.duties0.getD k 0)).1
  let b := (onIvl (s.edgeAligned c) (s.pwmPeriod c) (x.duties.getD k 0)).2
  let settle := 8 * s.fld (LDC_ZC_CFG c) 7 0
  if b - a < 2 * settle ∨ b ≤ a then none else some (s.pstart c + 2 * max ((a + b) / 2) (a + settle))

/-- One sample of the floating phase against the neutral, in mV; none while the node is at a rail (R313, R314). -/
def State.zcSample (s : State) (c : Nat) (mv : Option Int) : State :=
  let x := s.ldc c
  let st := s.comState c
  match s.zcInstant c, mv with
  | some t, some v0 =>
    let v := if s.risingSlope c then v0 else -v0
    let h : Int := s.fld (LDC_ZC_CFG c) 23 16 * 25
    let blank := (s.rd (LDC_ZC_INT c)).toNat * 16 * s.fld (LDC_COM_DELAY c) 31 16 / 65536
    if (st ≠ 3 ∧ st ≠ 4) ∨ s.bit (LDC_COM_CTL c) 0 ∨ x.crossed ∨ t < x.comLast + blank then s
    else
      match x.zcFirst with
      | none =>
        if h ≤ v ∧ 0 < v then
          match x.zcPrev with
          | none => s
          | some _ =>
            let s1 := s.setLdc c { x with zcFirst := some (t, v, 1) }
            if max 1 (s.fld (LDC_ZC_CFG c) 11 8) ≤ 1 then s1.zcDone c else s1
        else s.setLdc c { x with zcPrev := some (t, v) }
      | some (t1, v1, n) =>
        if v ≤ -h ∧ v < 0 then s.setLdc c { x with zcPrev := some (t, v), zcFirst := none }
        else
          let s1 := s.setLdc c { x with zcFirst := some (t1, v1, n + 1) }
          if max 1 (s.fld (LDC_ZC_CFG c) 11 8) ≤ n + 1 then s1.zcDone c else s1
  | _, _ => s
/-! ### The commands and events -/

/-- A command on COM_CMD is refused (R309). -/
def State.comRefuse (s : State) (c : Nat) : State := s.err (ldcPage c) .state 0x104

/-- The Hall code of the channel's port and the step it maps to, if the port is in Hall mode and the code is valid (R317). -/
def State.hallStepOf (s : State) (c code : Nat) : Option Nat :=
  let k := s.fld (LDC_HALL_MAP c) (3 * code + 2) (3 * code)
  if code < 8 ∧ k < 6 then some k else none

/-- The code at START (R317). -/
def State.hallNow (s : State) (c : Nat) : Option Nat :=
  let p := s.fld (LDC_COM_CTL c) 11 8
  if p < 12 ∧ s.actFld (FBP_FB_CTL p) 2 0 = 4 then s.hallStepOf c (tabGet Port.reset p s.ports).hall else none

/-- START of a channel in OFF or COASTING: the offset is measured, then sensing or Hall running begins (R299, R309, R317). -/
def State.ldcStart (s : State) (c : Nat) (codes : List Nat) : State :=
  let st := s.comState c
  if st ≠ 0 ∧ st ≠ 5 then s.comRefuse c
  else if !s.bit (LDC_COM_CTL c) 0 then (s.offsetMeasure c codes).enterSensing c
  else
    match s.hallNow c with
    | none => s.comRefuse c
    | some k =>
      let f := s16 (s.rd (LDC_COM_FREQ c))
      let back := if s.comRev c then decide (0 < f) else decide (f < 0)
      let s1 := s.offsetMeasure c codes
      if back ∧ u16 (s.rd (LDC_REV_F c)) ≤ f.natAbs then (s1.enterSensing c).enterReverseWait c
      else ((((s1.enterRunning c f).startDuty c f).startSwitching c).setStep c k s.dt).scheduleMissing c s.dt

/-- COM_CMD START (R309). -/
def State.comStart (s : State) (c : Nat) (codes : List Nat) : State := if (s.slotOfLdc c).isSome then s.comRefuse c else s.ldcStart c codes

/-- COM_CMD STOP (R309, R326). -/
def State.comStop (s : State) (c : Nat) : State :=
  let st := s.comState c
  if (s.slotOfLdc c).isSome ∨ st < 1 ∨ 4 < st then s.comRefuse c else s.ldcCoast c

/-- The acknowledge of a channel in FAULT without a protection latch (R309, R328). -/
def State.ldcAck (s : State) (c : Nat) : State :=
  if s.comState c = 6 ∧ s.fld (GDV_FLT_STAT c) 5 0 = 0 then ((s.wrFld (LDC_COM_STAT c) 10 9 0).setComState c 0).ownLegs c else s.comRefuse c

/-- COM_CMD ACK (R309). -/
def State.comAck (s : State) (c : Nat) : State := if (s.slotOfLdc c).isSome then s.comRefuse c else s.ldcAck c

/-- A reload point of the field clock of `t` has not been passed yet: it applies before a commutation (R312). -/
def State.reloadFirst (s : State) (c t : Nat) : Bool := (s.ldc c).running && (s.nextReload c).2 / 16 == t / 16

/-- The commutation instant has come: a forced step of a start, a scheduled commutation, or the replacement of a missing crossing (R315, R324, R327). -/
def State.commutation (s : State) (c : Nat) : State :=
  let x := s.ldc c
  match x.comAt with
  | none => s
  | some t =>
    if s.dt < t ∨ s.reloadFirst c t = true then s
    else
      let st := s.comState c
      let k := nextStep (s.comRev c) (s.comStep c)
      if st = 3 then
        let good := if x.crossed then x.good else 0
        let s1 := s.setLdc c { x with good := good }
        ((s1.countStep c (s.comRev c)).setStep c k t).scheduleForced c t x.freqEnd
      else if st = 4 then
        if x.forced then
          let n := x.missRun + 1
          let int := (s.rd (LDC_ZC_INT c)).toNat
          if max 1 (s.fld (LDC_PLAUS c) 19 16) ≤ n then s.syncLoss c 2
          else
            let s1 := s.setLdc c { x with missRun := n, crossAt := some (t - s.delayTicks c int) }
            ((s1.countStep c (s.comRev c)).setStep c k t).scheduleMissing c t
        else ((s.countStep c (s.comRev c)).setStep c k t).scheduleMissing c t
      else s

/-- A Hall code change reaches the engine (R317, R327). -/
def State.hallCommutation (s : State) (c code : Nat) : State :=
  if !s.bit (LDC_COM_CTL c) 0 then s
  else
    let x := s.ldc c
    let old := s.comStep c
    let int := match x.crossAt with
      | none => 0
      | some p => (s.dt - p) / 16
    match s.hallStepOf c code with
    | none => if s.comState c = 4 then (s.comCount c 31 24).syncLoss c 4 else s.comCount c 31 24
    | some k =>
      let rev := k == nextStep true old
      let near := rev || k == nextStep false old
      if s.comState c = 4 then
        if !near then (s.comCount c 31 24).syncLoss c 4
        else
          let s1 := (s.countStep c rev).setStep c k s.dt
          if int = 0 then (s1.setLdc c { s1.ldc c with crossAt := some s.dt }).scheduleMissing c s.dt
          else
            match s1.implausible c int with
            | some w => s1.syncLoss c w
            | none =>
              let s2 := s1.showFreq c int rev
              let s3 := s2.setLdc c { (s2.ldc c).addInt int with crossAt := some s.dt, crossed := true, backward := rev }
              let s4 := s3.scheduleMissing c s.dt
              if (s.slotOfLdc c).isSome then s4 else s4.regulate c int
      else
        let s1 := (s.wrFld (LDC_COM_STAT c) 5 3 k).setLdc c { x with crossAt := some s.dt }
        if int = 0 ∨ !near then s1 else s1.showFreq c int rev

/-- The decision of SENSING: what the engine found is the direction, the interval and the step of the last crossing. A catch takes place at the commutation instant that R315 predicts from that crossing, which is when the command is given (R318, R319, log 62). -/
def State.sensingDecision (s : State) (c : Nat) (found : Option (Bool × Nat × Nat)) : State :=
  if s.comState c ≠ 1 ∨ s.bit (LDC_COM_STAT c) 8 = true then s
  else
    let listen := msTicks (min 50 (max 1 (s.fld (LDC_LISTEN c) 7 0)))
    match found with
    | none => if s.dt < (s.ldc c).since + listen then s else s.enterAligning c
    | some (rev, int, k) =>
      let s1 := s.showFreq c int rev
      let f := freqOfInt int
      if rev = s.comRev c ∧ u16 (s.rd (LDC_CATCH_F c)) ≤ f then
        let s2 := ((s1.enterRunning c f).startDuty c f).startSwitching c
        let s3 := s2.setLdc c { s2.ldc c with crossAt := some (s.dt - s.delayTicks c int) }
        ((s3.setStep c (nextStep rev k) s.dt).scheduleMissing c s.dt).raise (ldcPage c) 22
      else if rev ≠ s.comRev c ∧ u16 (s.rd (LDC_REV_F c)) ≤ f then s1.enterReverseWait c
      else s1.enterAligning c

/-- The run-down in reverse wait: a crossing interval, or none for 2 / (6 × REV_F) seconds (R320). -/
def State.reverseWaitEnd (s : State) (c : Nat) (int : Option Nat) : State :=
  if s.comState c ≠ 1 ∨ s.bit (LDC_COM_STAT c) 8 = false then s
  else
    let revF := u16 (s.rd (LDC_REV_F c))
    let go (st : State) : State :=
      if st.bit (LDC_COM_CTL c) 0 then
        let k := (st.hallNow c).getD (st.comStep c)
        ((((st.enterRunning c 0).startDuty c 0).startSwitching c).setStep c k st.dt).scheduleMissing c st.dt
      else st.enterAligning c
    match int with
    | some i =>
      let s1 := s.showFreq c i (!s.comRev c)
      let s2 := s1.setLdc c { s1.ldc c with crossAt := some s.dt }
      if freqOfInt i < revF then go s2 else s2
    | none =>
      let quiet : Int := if revF = 0 then 0 else 4000000000 * 2 * one32 / (6 * revF)
      if revF = 0 ∨ (s.dt : Int) < ((s.ldc c).crossAt.getD 0 : Nat) + quiet then s else go s

/-- REV_WAIT_T has elapsed (R320). -/
def State.reverseWaitTimeout (s : State) (c : Nat) : State :=
  if s.comState c ≠ 1 ∨ s.bit (LDC_COM_STAT c) 8 = false ∨ s.dt < (s.ldc c).since + msTicks (10 * s.fld (LDC_LISTEN c) 31 16) then s
  else s.syncLoss c 6

/-- The rise time of pulse `k` among those stored (R321). -/
def riseAt (twelve : Bool) (l : List Nat) (k : Nat) : Nat := l.getD (if twelve then k else k / 2) 0xFFFF

/-- The pulse with the shortest rise time, the lowest of equals. -/
def bestPulse (twelve : Bool) (l : List Nat) : Nat :=
  (List.range l.length).foldl (fun b i =>
    let k := if twelve then i else 2 * i
    if riseAt twelve l k < riseAt twelve l b then k else b) 0

/-- The result of a detection: valid, and the rotor angle in units of 30° (R322). -/
def ipdResult (twelve : Bool) (margin : Nat) (l : List Nat) : Bool × Nat :=
  let k := bestPulse twelve l
  let r := riseAt twelve l k
  let o := riseAt twelve l ((k + 6) % 12)
  let valid := decide (o * margin ≤ (o - r) * 256) && decide (r < o ∨ (r = o ∧ margin = 0))
  if twelve then (valid, k)
  else
    let up := riseAt false l ((k + 2) % 12)
    let dn := riseAt false l ((k + 10) % 12)
    let n := min up dn
    if (n - r) * 256 ≤ r * margin then (valid, if up ≤ dn then (k + 1) % 12 else (k + 11) % 12) else (valid, k)

/-- A test pulse ends at its threshold, with its rise time, or at TMAX (R321, R322). -/
def State.ipdPulseEnd (s : State) (c : Nat) (rise : Option Nat) : State :=
  let x := s.ldc c
  match x.ipd with
  | none => s
  | some k =>
    let twelve := s.bit (LDC_COM_CTL c) 3
    let tmax := min 200 (max 5 (s.fld (LDC_IPD_CFG c) 7 0))
    let late := match rise with
      | none => decide (s.dt < x.ipdAt + 4000 * tmax)
      | some r => decide (s.dt < x.ipdAt + 16 * r)
    if s.comState c ≠ 2 ∨ late = true then s
    else
      let r := match rise with
        | none => 0xFFFF
        | some r => if 250 * tmax ≤ r then 0xFFFF else r
      let lo := 16 * (k % 2)
      let s1 := (s.allOff c).wrFld (LDC_IPD_RISE c (k / 2)) (lo + 15) lo r
      let l := x.rises ++ [r]
      let s2 := s1.setLdc c { s1.ldc c with rises := l, ipd := none }
      let n := if twelve then 12 else 6
      if l.length < n then
        let gap := 40000 * max 1 (s.fld (LDC_IPD_CFG c) 15 8)
        s2.ipdPulse c (if twelve then k + 1 else k + 2) (s.dt + gap)
      else
        let (valid, a) := ipdResult twelve (s.fld (LDC_IPD_CFG c) 23 16) l
        let s3 := s2.raise (ldcPage c) 20
        if valid then s3.enterStarting c a
        else (s3.wrBit (LDC_COM_STAT c) 11 true).alignOrFail c

/-- ALIGN_T has passed: the rotor angle is 0° (R323). -/
def State.alignEnd (s : State) (c : Nat) : State :=
  if s.comState c ≠ 2 ∨ s.bit (LDC_COM_STAT c) 8 = false ∨ s.dt < (s.ldc c).since + msTicks (s.fld (LDC_ALIGN_CFG c) 15 0) then s
  else s.enterStarting c 0

/-- START_TMAX has passed without a hand-over (R324). -/
def State.startTimeout (s : State) (c : Nat) : State :=
  if s.comState c ≠ 3 ∨ s.dt < (s.ldc c).since + msTicks (s.fld (LDC_START_HO c) 31 16) then s else s.syncLoss c 5

/-- RECATCH_WAIT has ended (R328). -/
def State.recatchWaitEnd (s : State) (c : Nat) : State :=
  match (s.ldc c).recatchAt with
  | none => s
  | some t => if s.comState c ≠ 5 ∨ s.dt < t then s else (s.offsetMeasure c []).enterSensing c

/-- STILL_T has passed without a crossing (R326). -/
def State.coastStill (s : State) (c : Nat) : State :=
  let last := max (s.ldc c).since ((s.ldc c).crossAt.getD 0)
  if s.comState c ≠ 5 ∨ (s.ldc c).recatchAt.isSome ∨ s.dt < last + msTicks (s.fld (LDC_STILL_T c) 15 0) then s
  else ((s.wr (LDC_COM_FREQ c) 0).setComState c 0).ownLegs c

/-- One second of RUNNING has passed (R328). -/
def State.recatchReset (s : State) (c : Nat) : State :=
  if s.comState c ≠ 4 ∨ s.dt < (s.ldc c).since + msTicks 1000 then s else s.wrFld (LDC_COM_STAT c) 10 9 0

/-- A reload point: the conversions of the period that ends, its floating-phase sample, the pending set, the duties (R279 to R281, R300, R302, R313). -/
def State.pwmReload (s : State) (c : Nat) (codes : List Nat) (bemf : Option Int) : State :=
  let x := s.ldc c
  if s.bit (GDV_FLT_STAT c) 12 then s
  else if x.running then
    let (mid, t) := s.nextReload c
    if s.dt < t then s
    else
      let s0 := s.when (s.comState c == 3) fun st => st.openDuty c (st.startFreqAt c t)
      let s1 := if mid then s0.reloadMid c t else (((s0.currentSample c codes).cbcPeriod c).zcSample c bemf).reloadBoundary c t
      -- a commutation of the same field clock follows the reload (R312)
      s1.when ((s1.ldc c).comAt.any fun u => u / 16 == t / 16) fun st => st.commutation c
  else
    match x.startAt with
    | none => s
    | some t => if s.dt < t then s else s.timerStart c t

/-- The change of one leg: the transition that has ended is measured, an overlap of the commands is blocked, the leg follows the timer (R276, R282, R286, R289). -/
def State.legChange (s : State) (c k : Nat) (meas : Option Nat) (mv : Nat) (overlap : Bool) : State :=
  if overlap then s.shoot c k
  else
    let x := s.ldc c
    let w := s.legWant c k
    let fall := decide (x.gates / 2 ^ (2 * k) % 2 = 1) && !w.1
    let rise := decide (x.gates / 2 ^ (2 * k + 1) % 2 = 1) && !w.2
    let s1 := match meas with
      | none => s
      | some m => if s.fld (LDC_DT_CTL c) 15 8 < m then s else if fall then s.dtMeasure c k 0 m else if rise then s.dtMeasure c k 1 m else s
    s1.follow c k (some mv)

def execPwmReload (c : Fin 6) (codes : List (BitVec 12)) (bemf : Option (BitVec 16)) (s : State) : Host.Outcome State Fault Refusal :=
  .next (s.pwmReload c.val (codes.map BitVec.toNat) (bemf.map BitVec.toInt))

/-- A COMMIT or COMMIT_AT of the channel arrives on the field die, and no longer waits on the bridge (R279, R280). -/
def execLdcCommitArrival (c : Fin 6) (at_ : Option (BitVec 64)) (s : State) : Host.Outcome State Fault Refusal :=
  .next (({ s with posted := s.posted.eraseP fun p => p.addr == ldcPage c.val + 0x020 || p.addr == ldcPage c.val + 0x024 } : State).ldcArrival c.val (match at_ with
    | none => .nextApply
    | some t => .atTime t.toNat))
def execPwmLegChange (c : Fin 6) (leg : Fin 3) (meas : Option (BitVec 8)) (bst : BitVec 16) (overlap : Bool) (s : State) : Host.Outcome State Fault Refusal :=
  .next (s.legChange c.val leg.val (meas.map BitVec.toNat) bst.toNat overlap)
def execBstPreEnd (c : Fin 6) (s : State) : Host.Outcome State Fault Refusal := .next (s.unfrozen c.val fun s => s.bstPreEnd c.val)
def execDesat (c sw : Fin 6) (s : State) : Host.Outcome State Fault Refusal := .next (s.desat c.val sw.val)
def execHardShort (c sw : Fin 6) (s : State) : Host.Outcome State Fault Refusal := .next (s.hardShort c.val sw.val)
def execTripInput (k : Fin 8) (s : State) : Host.Outcome State Fault Refusal := .next (s.tripInput k.val)
def execGateUv (c : Fin 6) (mv : BitVec 16) (s : State) : Host.Outcome State Fault Refusal := .next (s.gateUv c.val mv.toNat)
def execSoftOffEnd (c : Fin 6) (s : State) : Host.Outcome State Fault Refusal := .next (s.softOffEnd c.val)
def execFltClr (c : Fin 6) (s : State) : Host.Outcome State Fault Refusal := .next (s.fltClr c.val)
def execCbc (c : Fin 6) (s : State) : Host.Outcome State Fault Refusal := .next (s.cbcFire c.val)
def execGateSupplyRecovery (c : Fin 6) (mv : BitVec 16) (s : State) : Host.Outcome State Fault Refusal := .next (s.gateRecovery c.val mv.toNat)
def execTripInputRelease (k : Fin 8) (s : State) : Host.Outcome State Fault Refusal := .next (s.wrBit (GDV_TRIP_CFG 0 k.val) 11 false)
def execComStart (c : Fin 6) (codes : List (BitVec 12)) (s : State) : Host.Outcome State Fault Refusal := .next (s.comStart c.val (codes.map BitVec.toNat))
def execComStop (c : Fin 6) (s : State) : Host.Outcome State Fault Refusal := .next (s.comStop c.val)
def execComAck (c : Fin 6) (s : State) : Host.Outcome State Fault Refusal := .next (s.comAck c.val)
def execCommutation (c : Fin 6) (s : State) : Host.Outcome State Fault Refusal := .next (s.unfrozen c.val fun s => s.commutation c.val)
def execHallCommutation (c : Fin 6) (code : Fin 8) (s : State) : Host.Outcome State Fault Refusal := .next (s.hallCommutation c.val code.val)
def execSensingDecision (c : Fin 6) (found : Option (Bool × BitVec 32 × Fin 6)) (s : State) : Host.Outcome State Fault Refusal :=
  .next (s.sensingDecision c.val (found.map fun x => (x.1, x.2.1.toNat, x.2.2.val)))
def execReverseWaitEnd (c : Fin 6) (int : Option (BitVec 32)) (s : State) : Host.Outcome State Fault Refusal :=
  .next (s.reverseWaitEnd c.val (int.map BitVec.toNat))
def execReverseWaitTimeout (c : Fin 6) (s : State) : Host.Outcome State Fault Refusal := .next (s.unfrozen c.val fun s => s.reverseWaitTimeout c.val)
def execIpdPulseEnd (c : Fin 6) (rise : Option (BitVec 16)) (s : State) : Host.Outcome State Fault Refusal :=
  .next (s.unfrozen c.val fun s => s.ipdPulseEnd c.val (rise.map BitVec.toNat))
def execAlignEnd (c : Fin 6) (s : State) : Host.Outcome State Fault Refusal := .next (s.unfrozen c.val fun s => s.alignEnd c.val)
def execStartTimeout (c : Fin 6) (s : State) : Host.Outcome State Fault Refusal := .next (s.unfrozen c.val fun s => s.startTimeout c.val)
def execRecatchWaitEnd (c : Fin 6) (s : State) : Host.Outcome State Fault Refusal := .next (s.unfrozen c.val fun s => s.recatchWaitEnd c.val)
def execCoastStill (c : Fin 6) (s : State) : Host.Outcome State Fault Refusal := .next (s.coastStill c.val)
def execRecatchReset (c : Fin 6) (s : State) : Host.Outcome State Fault Refusal := .next (s.unfrozen c.val fun s => s.recatchReset c.val)

end Sys2Proof.Machine
end

