-- ==== Sys2Proof/Machine/Loop.lean ====
section
/-! DEFINITION. Dispatch of the loop runs on the LPUs, and the taking effect of coefficient sets (R183 to R186, R197, R198, R223 to R227). -/

namespace Sys2Proof.Machine

/-- The stock program of a slot: its index in the table of R224. -/
def State.stockProg (s : State) (n : Nat) : Nat :=
  if s.isLdc n then 6
  else if s.isStage n ∧ s.stageStepper n = true then 5
  else
    let rc := if s.rcEnabled n then 1 else 0
    match s.struct n with
    | 0 => rc
    | 1 => 2 + rc
    | _ => 4

/-- The program that position `p` of LPU `i` runs for slot `n` (R225). -/
def State.progOf (s : State) (i p n : Nat) : Nat := if s.actFld (LPU_ASSIGN i p) 15 8 = 0xFF then s.stockProg n else s.actFld (LPU_ASSIGN i p) 15 8

/-- Worst-case cycles of a stock program (R224). -/
def stockWorst : Nat → Nat
  | 0 => 620
  | 1 => 684
  | 2 => 560
  | 3 => 624
  | 4 => 380
  | 5 => 450
  | _ => 160

/-- Worst-case cycles of a program: those of its header in the loaded library, the table's while no library has been loaded in place of the stock one (R222 to R224). -/
def State.worstOf (s : State) (k : Nat) : Nat := if s.sched.lib = [] then (if k ≤ 6 then stockWorst k else 0) else s.worstCase k

/-- The instant that orders the ready runs: the apply instant, or the next sample instant with as-computed timing (R227). -/
def State.runKey (s : State) (n : Nat) : Nat :=
  (s.servo n).sampleT.getD 0 + (if s.asComputed n then s.sampleTicks n else s.applyOfs n)

/-- The positions of LPU `i` whose run is ready (R227). -/
def State.readyAt (s : State) (i : Nat) : List (Nat × Nat) :=
  (List.range 8).filterMap fun p =>
    match s.slotAt i p with
    | none => none
    | some n => if (s.servo n).ready && !(s.servo n).started then some (p, n) else none

/-- A run is in progress on LPU `i`: it is never preempted by another (R227). -/
def State.lpuRuns (s : State) (i : Nat) : Bool :=
  (s.lpu i).run.isSome || (List.range 8).any fun p =>
    match s.slotAt i p with
    | none => false
    | some n => (s.servo n).inProgress s.dt

/-- The ready run with the earliest instant; a tie goes to the lower position (R227). -/
def State.firstReady (s : State) (i : Nat) : Option (Nat × Nat) :=
  (s.readyAt i).foldl (fun b x =>
    match b with
    | none => some x
    | some y => if s.runKey x.2 < s.runKey y.2 then some x else some y) none

/-- As-computed output: its latency (R197). -/
def State.latency (s : State) (n : Nat) (lat : Nat) : State :=
  let s1 := s.wr (AXL_LAT_LAST n) (BitVec.ofNat 32 lat)
  if (s.rd (AXL_LAT_MAX n)).toNat < lat then s1.wr (AXL_LAT_MAX n) (BitVec.ofNat 32 lat) else s1

/-- The six-step speed loop of a slot bound to a local channel: its law is not stated, so the duty is free within the limits of R325 (log 8). -/
def State.runSix (s : State) (n : Nat) : State :=
  let (k, s1) := s.nextFree
  (s1.setServo n { s1.servo n with pPrev := (s.axis n).act1.p, first := false, duty := Config.freeInt k }).wr (AXL_MON_VEL n) (toS16 ((s.axis n).rawVel / one32))

/-- The result of an as-computed run goes out the moment it is ready: CONSEC returns to 0, its latency is recorded, its duty reaches the channel (R192, R197, R325). -/
def State.outputDue (s : State) (n : Nat) : State :=
  let x := s.servo n
  match s.ldcOfSlot n, x.doneAt with
  | some c, some d =>
    if !x.started ∨ x.judged ∨ s.dt < d then s
    else
      let s1 := ((s.setServo n { x with judged := true }).onTime n).latency n (d - x.sampleT.getD d)
      if s.comState c = 4 ∧ (s.axis n).pwm = true then s1.runDuty c (s16 (s.rd (LDC_COM_FREQ c))) x.duty else s1
  | _, _ => s

/-- The computation of a stock run (R160, R161, R191). -/
def State.runStock (s : State) (n prog : Nat) : State :=
  match s.ldcOfSlot n with
  | some _ => s.runSix n
  | none =>
    if !(s.axis n).pwm then s.runMeasure n
    else if prog = 5 then s.runStepper n
    else s.runCascade n

/-- A stock run of `cycles` cycles starts: its result is ready after them; an overrun of the worst case by more than 10 % is recorded (R223). -/
def State.startStock (s : State) (i p n prog cycles : Nat) : State :=
  let s1 := s.runStock n prog
  let d := s.dt + 4 * cycles
  let s2 := (s1.setServo n { s1.servo n with started := true, doneAt := some d }).lpuBusy i cycles
  let s3 := if (s2.rd (LPU_RUN_MAX i)).toNat < cycles then s2.wr (LPU_RUN_MAX i) (BitVec.ofNat 32 (min 0xFFFFFFFF cycles)) else s2
  if s.worstOf prog * 11 < cycles * 10 then
    ((s3.wr (LPU_PFAULT i) (BitVec.ofNat 32 (8 + p * 16))).count (LPU_ERR_CNT i) 31 16 (lpuPage i) 6).raise (lpuPage i) 7
  else s3

/-- A run of a user program starts: the LPU executes it bundle by bundle from its entry (R222, R223). -/
def State.startUser (s : State) (i p n prog : Nat) : State :=
  let x := s.lpu i
  -- the place and form of a user program's output in the link area are not stated: its duties are free (log 8)
  let (f, s0) := s.takeFree 7
  let s1 := s0.setServo n { s0.servo n with started := true, doneAt := none, first := false, edges := (List.range 6).map fun j => (Config.freeWord (f + j)).toNat, duty := Config.freeInt (f + 6) }
  s1.setLpu i { x with run := some (p, prog, x.cyc), runT := s.dt, pc := (s.sched.lib.getD prog []).getD 1 0, loops := [], stack := [], pend := [], stall := false }

/-- LPU `i` starts the ready run with the earliest apply instant; `cycles` is what the run of a stock program takes (R227). -/
def State.loopRunStart (s : State) (i cycles : Nat) : State :=
  if s.roleOf i = 4 ∨ s.roleOf i = 5 ∨ (s.lpu i).halted = true ∨ s.lpuRuns i = true then s
  else
    match s.firstReady i with
    | none => s
    | some (p, n) =>
      let prog := s.progOf i p n
      let x := s.servo n
      let s1 : State := { s with servoUndo := tabSet n { x with regionAt := s.region n } s.servoUndo }
      let s2 := s1.setServo n { x with rcUndo := [] }
      if prog ≤ 6 then s2.startStock i p n prog cycles else s2.startUser i p n prog

/-! ### The load of the LPUs (R17, R226) -/

/-- The load of LPU `i` in cycles per second: every valid position counts (R17). -/
def State.loadOf (s : State) (i : Nat) : Nat :=
  ((s.usedPositions i).map fun p =>
    let n := s.actFld (LPU_ASSIGN i p) 5 0
    if s.runsNothing n then 0 else s.worstOf (s.progOf i p n) * s.sampleHz n).sum

/-- LOAD of every LPU, in Mcycles/s (R235). -/
def State.showLoads (s : State) : State := s.each (List.range 9) fun i st => st.wr (LPU_LOAD i) (BitVec.ofNat 32 (st.loadOf i / 1000000))

/-- The largest load of an LPU, cycles per second (R17). -/
def loadMax : Nat := 900000000

/-! ### Coefficient sets (R185, R186) -/

/-- A set taken up while a run is in progress stays when that run is aborted (R193). -/
def State.keepTaken (s : State) (n : Nat) : State :=
  let x := s.servo n
  let o := tabGet x n s.servoUndo
  { s with servoUndo := tabSet n { o with coef := x.coef, coefTo := x.coefTo, blendLeft := x.blendLeft, nf := x.nf, nfRun := x.nfRun, regionAt := s.region n } s.servoUndo }

/-- Every coefficient of the set in force, and the notches, are taken up; a running blend turns towards the new set (R182, R185). -/
def State.takeCoefs (s : State) (n : Nat) : State :=
  let x := s.servo n
  let r := s.region n
  let s1 := if x.blendLeft ≠ 0 then s.startBlend n r else s.setServo n { x with coef := s.coefSet n r, coefTo := s.coefSet n r }
  let s2 := s1.setServo n { s1.servo n with nf := (List.range 4).map fun k => s1.notchNow n k, nfRun := 0 }
  (if s.actBit (AXL_LOOP_CTL n) 13 ∨ r = 0 then s2 else ((s2.wrFld (AXL_LOOP_STAT n) 10 8 0).startBlend n 0).raise (axlPage n) 5).keepTaken n

/-- The pending set of an AXL page takes effect whole; COEF_SEQ shows its sequence (R185). -/
def State.applyAxl (s : State) (n : Nat) (k : Commit) : State :=
  let vals := if s.tuneLocked n && (s.axis n).st != .opened then s.keepCoefs n k.vals else k.vals
  let s1 := (s.putInForce (axlPage n) vals).dropCommit (axlPage n)
  let s2 := (s1.wr (AXL_COEF_SEQ n) (BitVec.ofNat 32 k.seq)).wrBit (AXL_LOOP_STAT n) 3 false
  (s2.setServo n { s2.servo n with converted := false }).takeCoefs n

/-- The axis takes a converted set at once (R186). -/
def AxState.idle (st : AxState) : Bool :=
  match st with
  | .off => true
  | .ready => true
  | .opened => true
  | _ => false

/-- The conversion of a committed coefficient area has ended (R185, R186). -/
def State.conversionDone (s : State) (n : Nat) : State :=
  if !s.bit (AXL_LOOP_STAT n) 3 ∨ (s.servo n).converted = true then s
  else
    let s1 := (s.taskGranted n 0).setServo n { s.servo n with converted := true }
    match s.commitOf (axlPage n) with
    | none => s1.wrBit (AXL_LOOP_STAT n) 3 false
    | some k => if (s.axis n).st.idle && s.dueReached k.due s.dt then (s1.applyAxl n k).showLoads else s1

/-- A write of IQ_EXT takes effect at the next sample instant; EXT_AGE restarts (R198). -/
def State.iqExtWrite (s : State) (n : Nat) (v : W32) : State :=
  ((s.setServo n { s.servo n with iqNew := some v }).wr (AXL_IQ_EXT n) v).wr (AXL_EXT_AGE n) 0

def execLoopRunStart (i : Fin 9) (cycles : BitVec 16) (s : State) : Host.Outcome State Fault Refusal := .next (s.loopRunStart i.val cycles.toNat)
def execCoefConversionDone (n : Fin 64) (s : State) : Host.Outcome State Fault Refusal := .next (s.conversionDone n.val)
def execIqExtWrite (n : Fin 64) (v : W32) (s : State) : Host.Outcome State Fault Refusal := .next (s.softWrite (AXL_IQ_EXT n.val) v fun st => st.iqExtWrite n.val v)

end Sys2Proof.Machine
end

