-- ==== Sys2Proof/Machine/SafCycle.lean ====
section
/-! DEFINITION. The safety channels: the safety cycle, the safe positions, the functions, SS1, the cross-check, the demands, the safety reset, activation and the field inputs and outputs (R399 to R443). -/

namespace Sys2Proof.Machine

/-! ### Views of the active set -/

/-- Bit of a channel: channel A is 0, channel B is 1. -/
def chPage (ch : Nat) : Nat := if ch = 0 then saf0Page else saf1Page

/-- The guarded axes of the active set (R401). -/
def State.guardedBlocks (s : State) : List Nat := if s.safRun then (List.range 16).filter fun g => s.actBit (SAF0_GA_CFG g) 6 else []

def State.gaSlot (s : State) (g : Nat) : Nat := s.actFld (SAF0_GA_CFG g) 5 0
def State.gaGroup (s : State) (g : Nat) : Nat := s.actFld (SAF0_GA_CFG g) 15 14
def State.gaSrc (s : State) (g : Nat) : Nat := s.actFld (SAF0_GA_CFG g) 12 8
def State.gaPort (s : State) (g : Nat) : Bool := s.actBit (SAF0_GA_CFG g) 7

/-- The guarded axes of group `k`. -/
def State.axesOfGroup (s : State) (k : Nat) : List Nat := s.guardedBlocks.filter fun g => s.gaGroup g == k

/-- Channel `ch`'s view of guarded axis `g`. -/
def State.saf (s : State) (g ch : Nat) : SafAxis := tabGet SafAxis.reset (2 * g + ch) s.safAxes
def State.setSaf (s : State) (g ch : Nat) (x : SafAxis) : State := { s with safAxes := tabSet (2 * g + ch) x s.safAxes }

/-- The SS1 that channel `ch` runs for axis `g` (R410). -/
def State.stopOf (s : State) (g ch : Nat) : Option SafStop := if tabHas (2 * g + ch) s.ss1 then some (tabGet ⟨0, 0, .line⟩ (2 * g + ch) s.ss1) else none

/-- Channel A evaluates unless a lockstep mismatch has stopped it or the debug unit has halted it (R400, R415). -/
def State.chanRuns (s : State) (ch : Nat) : Bool := ch == 1 || (!s.chanAStop && decide (s.dbgHalt / 32 % 2 = 0))

/-! ### Input pairs (R431) -/

def pairStatAt (ch : Nat) : Nat := if ch = 0 then SAF0_PAIR_STAT else SAF1_B_PAIR

/-- The inputs of pair `p` are together in the demand state, by the levels `v`; without a field supply every input reads off (R431, R434). -/
def State.pairState (s : State) (p : Nat) (v : BitVec 16) : Bool :=
  let on (k : Nat) : Bool := v.getLsbD k && !s.bit FIO_SUP_STAT 17
  !on (2 * p) && (on (2 * p + 1) == s.actBit (SAF0_PAIR_CFG p) 12)

/-- Pair `p` is in demand by its levels; without a field supply every enabled pair counts as in demand (R431, R434). -/
def State.pairOff (s : State) (p : Nat) (v : BitVec 16) : Bool := s.bit FIO_SUP_STAT 17 || s.pairState p v

/-- Channel `ch` judges its pairs: the discrepancy latch clears when both inputs have been in the demand state together, a latched pair counts as in demand (R431). -/
def State.judgePairs (s : State) (ch : Nat) (v : BitVec 16) : State :=
  let a := pairStatAt ch
  s.each (List.range 8) fun p st =>
    if !st.actBit (SAF0_PAIR_CFG p) 11 then (st.wrBit a p false).wrBit a (8 + p) false
    else
      let off := st.pairOff p v
      let lat := st.bit a (8 + p) && !st.pairState p v
      (st.wrBit a (8 + p) lat).wrBit a p (off || lat)

/-- Pair `p` is in demand for channel `ch`. -/
def State.pairDem (s : State) (ch p : Nat) : Bool := s.bit (pairStatAt ch) p

/-! ### Safe positions (R402, R403) -/

/-- The valid field of channel `ch` for axis `g`: the raw count, if there is one. -/
def State.safField (s : State) (g ch : Nat) : Option Int :=
  let slp := s.actBit (SAF0_GA_FUNC g) 1
  let i := s.gaSrc g
  if s.gaPort g then
    if s.portValid i then some (if ch = 0 then (s.port i).count else (s.port i).countB) else none
  else
    let x := s.link i
    let f := x.fields.getD (2 * s.actFld (SAF0_GA_CFG g) 13 13 + ch) []
    if x.fresh && fieldOk (if ch = 0 then 0x2F else 0x1D) f && (!slp || (f.getD 4 0).getLsbD 1) then some (fieldPos f : Int) else none

/-- The counts per turn of channel `ch`, at least 1. -/
def State.safCpt (s : State) (g ch : Nat) : Int := max 1 (s.act (if ch = 0 then SAF0_CPT_A g else SAF0_CPT_B g)).toNat

/-- The safe position, in units of 2^-32 turns, after `c` counts: with SLP the reading is absolute and SLP_OFS is added (R403). -/
def State.safPos (s : State) (g ch : Nat) (c : Int) : Int :=
  c * 4294967296 / s.safCpt g ch + (if s.actBit (SAF0_GA_FUNC g) 1 then signedOf 32 (s.act (SAF0_SLP_OFS g)).toNat * 1048576 else 0)

/-- One more cycle with the safe position at `p`: the velocity is the change over the last 4 cycles divided by 1 ms (R403, log 31). -/
def State.safAdvance (s : State) (g : Nat) (x : SafAxis) (p : Int) : SafAxis :=
  let v := (p - x.hist.getD 3 (x.hist.getLastD p)) * 1000
  { x with hist := (p :: x.hist).take 4, vel := v, still := decide (v.natAbs ≤ (s.act (SAF0_SS_VEL g)).toNat * 65536) }

/-- The view after one more valid field: unwrapped (R403). -/
def State.safTake (s : State) (g ch : Nat) (x : SafAxis) (r : Int) : SafAxis :=
  let c := match x.raw with
    | none => if s.actBit (SAF0_GA_FUNC g) 1 then r else 0
    | some o => x.count + signedOf 32 (wrapTo 32 (r - o))
  let p := s.safPos g ch c
  s.safAdvance g { x with raw := some r, count := c, missing := 0, ext := (if x.raw.isSome then x.ext else p) } p

/-- A cycle without a valid field: the position stands, and the second such cycle in succession loses it (R403). -/
def State.safMiss (s : State) (g : Nat) (x : SafAxis) : SafAxis :=
  let y := { x with missing := x.missing + 1 }
  match x.hist with
  | [] => y
  | p :: _ => s.safAdvance g y p

/-- Channel `ch` takes its field of axis `g`. -/
def State.safSample (s : State) (g ch : Nat) : State :=
  let x := s.saf g ch
  match s.safField g ch with
  | some r => s.setSaf g ch (s.safTake g ch x r)
  | none =>
    let s1 := s.setSaf g ch (s.safMiss g x)
    if x.missing = 1 then s1.positionLost g (ch == 0) (ch == 1) else s1

/-- The stage's identity no longer matches CPT_A (R402). -/
def State.posfBad (s : State) (g : Nat) : Bool :=
  !s.gaPort g && s.bit (SLK_LINK_STAT (s.gaSrc g)) 7 && decide ((s.act (SAF0_CPT_A g)).toNat ≠ 2 ^ s.fld (SLK_STAGE_CAPS (s.gaSrc g)) 13 8)

/-- The position of axis `g` is lost for channel `ch`. -/
def State.safLost (s : State) (g ch : Nat) : Bool := decide (2 ≤ (s.saf g ch).missing) || s.posfBad g

/-! ### SS1 (R410) -/

/-- An SS1 of axis `g` starts in channel `ch`, unless one runs or the channel has its group off: SS1_START, and QUICK at the slot's next sample unless its reaction is RAMP or stronger already (R410). -/
def State.ss1Start (s : State) (g ch : Nat) (c : SafCause) : State :=
  let grp := s.group (s.gaGroup g)
  if (s.stopOf g ch).isSome || (if ch = 0 then grp.offA else grp.offB) then s
  else
    let n := s.gaSlot g
    let quick := (match (s.axis n).react with
      | none => true
      | some r => decide (r.num < 2)) && !s.ss1Quick.contains n
    let s1 : State := { s with
      ss1 := tabSet (2 * g + ch) ⟨s.dt, (s.saf g ch).vel, c⟩ s.ss1
      ss1Quick := if quick then n :: s.ss1Quick else s.ss1Quick }
    s1.raise (chPage ch) 5

/-- The group of an axis is off in channel `ch`: its SS1s there have ended (R410). -/
def State.dropStops (s : State) : State :=
  { s with ss1 := tabDrop (fun k => let x := s.group (s.gaGroup (k / 2)); if k % 2 = 0 then x.offA else x.offB) s.ss1 }

/-- The envelope of an SS1 at time `t` after its start (R410). -/
def State.envelope (s : State) (g : Nat) (v0 : Int) (t : Nat) : Int :=
  let lat := s.actFld (SAF0_SS1_CFG g) 23 16 * 4000000
  let tol : Int := (s.act (SAF0_VEL_TOL g)).toNat * 65536
  if t < lat then v0.natAbs + tol
  else max ((v0.natAbs : Int) - (s.act (SAF0_SS1_DEC g)).toNat * 16777216 * ((t - lat : Nat) : Int) / 4000000000) 0 + tol

/-- TMAX in ticks; 0 stores 1 ms. -/
def State.tmax (s : State) (g : Nat) : Nat := max 1 (s.actFld (SAF0_SS1_CFG g) 15 0) * 4000000

/-- Channel `ch` supervises its SS1 of axis `g`: the envelope and TMAX end it in STO (R410). -/
def State.ss1Check (s : State) (g ch : Nat) : State :=
  match s.stopOf g ch with
  | none => s
  | some x =>
    let t := s.dt - x.t0
    if s.envelope g x.v0 t < (s.saf g ch).vel.natAbs then s.stoBy (s.gaGroup g) (ch == 0) (ch == 1) .violation
    else if s.tmax g ≤ t then s.stoBy (s.gaGroup g) (ch == 0) (ch == 1) x.cause
    else s

/-- Both channels find standstill during an SS1: STO (R410). -/
def State.ss1Still (s : State) (g : Nat) : State :=
  match s.stopOf g 0, s.stopOf g 1 with
  | some x, some _ => if (s.saf g 0).still && (s.saf g 1).still then s.stoBy (s.gaGroup g) true true x.cause else s
  | _, _ => s

/-! ### Monitoring functions (R407 to R409) -/

/-- The functions of axis `g` are active for channel `ch` (R407). -/
def State.funcActive (s : State) (g ch : Nat) : Bool := !s.actBit (SAF0_GA_FUNC g) 7 || s.pairDem ch (s.actFld (SAF0_GA_FUNC g) 10 8)

/-- A signed 20.12 limit in units of 2^-32 turns. -/
def State.slpLim (s : State) (a : Nat) : Int := signedOf 32 (s.act a).toNat * 1048576

/-- The violated functions of axis `g` for a position, a velocity and the SDI extreme: 1 SLS, 2 SLP, 4 SDI (R408). -/
def State.violations (s : State) (g : Nat) (p v ext : Int) : Nat :=
  let f (b : Nat) : Bool := s.actBit (SAF0_GA_FUNC g) b
  let lo := s.slpLim (SAF0_SLP_MIN g)
  let hi := s.slpLim (SAF0_SLP_MAX g)
  let stop := p + v * v.natAbs / max 1 (2 * (s.act (SAF0_SS1_DEC g)).toNat * 16777216)
  let tol : Int := (s.act (SAF0_SDI_TOL g)).toNat * 65536
  let sls := f 0 && decide ((s.act (SAF0_SLS_LIM g)).toNat * 65536 < v.natAbs)
  let slp := f 1 && (decide (p < lo) || decide (hi < p) || decide (stop < lo) || decide (hi < stop))
  let sdi := f 2 && (if f 3 then decide (ext + tol < p) else decide (p < ext - tol))
  (if sls then 1 else 0) + (if slp then 2 else 0) + (if sdi then 4 else 0)

/-- Channel `ch` evaluates the functions of axis `g` and acts on its own verdict (R405, R407 to R409). -/
def State.safFunc (s : State) (g ch : Nat) : State :=
  let x := s.saf g ch
  match x.raw with
  | none => s.setSaf g ch { x with active := s.funcActive g ch }
  | some _ =>
    let p := x.hist.headD 0
    let on := s.funcActive g ch
    let neg := s.actBit (SAF0_GA_FUNC g) 3
    let ext := if !on || !x.active then p else if neg then min x.ext p else max x.ext p
    let viol := if on then s.violations g p x.vel ext else 0
    let s1 := s.setSaf g ch { x with ext := ext, active := on, viol := viol }
    let new := viol &&& (7 - x.viol)
    let s2 := if new ≠ 0 then (s1.raise (chPage ch) 4).safErr 6 g ch else s1
    -- a function whose SS1 bit is clear reacts with STO
    let sto := viol &&& (7 - (if s.actBit (SAF0_GA_FUNC g) 4 then 1 else 0) - (if s.actBit (SAF0_GA_FUNC g) 5 then 2 else 0) - (if s.actBit (SAF0_GA_FUNC g) 6 then 4 else 0))
    if sto ≠ 0 then s2.stoBy (s.gaGroup g) (ch == 0) (ch == 1) .violation
    else if viol ≠ 0 then s2.ss1Start g ch .violation
    else s2

/-! ### Cross-check (R406) -/

/-- DISC_N. -/
def State.discN (s : State) : Nat := min 4 (max 1 (s.actFld SAF0_SAF_CTL 3 1))

/-- The items of R406 that disagree: kind 0 position, 1 velocity, 2 verdicts, 3 group command, 4 pair; both channels compute the signature from equal copies, so it agrees. -/
def State.disagreeing (s : State) : List Nat :=
  let ax (g : Nat) : List Nat :=
    let a := s.saf g 0
    let b := s.saf g 1
    (if (s.act (SAF0_POS_TOL g)).toNat * 65536 < (a.hist.headD 0 - b.hist.headD 0).natAbs then [g] else []) ++
      (if (s.act (SAF0_VEL_TOL g)).toNat * 65536 < (a.vel - b.vel).natAbs then [16 + g] else []) ++
      (if a.viol ≠ b.viol ∨ (s.stopOf g 0).isSome ≠ (s.stopOf g 1).isSome ∨ a.still ≠ b.still then [32 + g] else [])
  s.guardedBlocks.flatMap ax ++
    ((List.range 4).filter fun k => (s.group k).offA != (s.group k).offB).map (48 + ·) ++
    ((List.range 8).filter fun p => s.actBit (SAF0_PAIR_CFG p) 11 && s.fld SAF0_PAIR_STAT (8 + p) (8 + p) + 2 * s.fld SAF0_PAIR_STAT p p != s.fld SAF1_B_PAIR (8 + p) (8 + p) + 2 * s.fld SAF1_B_PAIR p p).map (64 + ·)

/-- The groups that an item concerns. -/
def State.itemGroups (s : State) (k : Nat) : List Nat :=
  if k < 48 then [s.gaGroup (k % 16)]
  else if k < 64 then [k - 48]
  else
    let p := k - 64
    (List.range 4).filter fun g =>
      (s.actBit (SAF0_GRP_CFG g) 3 && s.actFld (SAF0_GRP_CFG g) 2 0 == p) ||
        (s.axesOfGroup g).any fun x => s.actBit (SAF0_GA_FUNC x) 7 && s.actFld (SAF0_GA_FUNC x) 10 8 == p

/-- An item has disagreed in DISC_N consecutive cycles: SAFE on every group it concerns (R406). -/
def State.itemBad (s : State) (k : Nat) : State :=
  ((((s.safEvent 6).safCount 15 8).safErr 1 (k % 16) 0).wrBit SAF0_SAF_STAT 11 true).safeOn (s.itemGroups k) .disagree

/-- The channels compare the results of the last boundary (R406). -/
def State.crossCheck (s : State) : State :=
  let bad := s.disagreeing
  let s1 : State := { s with disagree := bad.foldl (fun t k => tabSet k (min 255 (tabGet 0 k s.disagree + 1)) t) [] }
  let s2 := (s1.wrBit SAF0_SAF_STAT 11 (s1.disagree.any fun e => decide (s1.discN ≤ e.2))).wrBit SAF1_B_STAT 11 (s1.disagree.any fun e => decide (s1.discN ≤ e.2))
  s2.each (bad.filter fun k => tabGet 0 k s1.disagree == s1.discN) fun k st => st.itemBad k

/-- A channel finds its partner lost: all four groups through its own outputs (R406). -/
def State.partnerLost (s : State) (ch : Nat) : State := (s.safErr 5 0 ch).each (List.range 4) fun g st => st.stoBy g (ch == 0) (ch == 1) .partner

/-- The exchange of a boundary: `ex` bit 0, channel A received one; bit 1, channel B did (R406). -/
def State.exchange (s : State) (ex : BitVec 2) : State :=
  let a := s.chanRuns 0
  let gotB := ex.getLsbD 1 && a
  let s1 : State := { s with noExA := if ex.getLsbD 0 then 0 else min 255 (s.noExA + 1), noExB := if gotB then 0 else min 255 (s.noExB + 1) }
  let s2 := if a && ex.getLsbD 0 && gotB then s1.crossCheck else s1
  let s3 := if a && s2.noExA == 2 then s2.partnerLost 0 else s2
  if s3.noExB = 2 then s3.partnerLost 1 else s3

/-! ### Demands and faults of a group (R415) -/

/-- The remote pair of group `k` is in demand, or its entry in error (R424). -/
def State.remoteDem (s : State) (k : Nat) : Bool :=
  s.actBit (SAF0_GRP_CFG k) 7 &&
    (let e := tabGet ⟨ContIn.reset, 0⟩ (s.actFld (SAF0_GRP_CFG k) 13 8) s.ring.entries
     e.cont.error || e.cont.seq.isNone || e.cont.lapsed s.dt || e.data / 2 ^ (4 + s.actFld (SAF0_GRP_CFG k) 16 14) % 2 == 1)

/-- The pair of group `k` is in demand for channel `ch`. -/
def State.groupPair (s : State) (k ch : Nat) : Bool := s.actBit (SAF0_GRP_CFG k) 3 && s.pairDem ch (s.actFld (SAF0_GRP_CFG k) 2 0)

/-- The demands on group `k` that channel `ch` finds, and whether they ask for STO (false: SS1). -/
def State.demandsOf (s : State) (k ch : Nat) : List (SafCause × Bool) :=
  let sto := !s.actBit (SAF0_GRP_CFG k) 4
  (if s.groupPair k ch then [(.pair, sto)] else []) ++ (if s.remoteDem k then [(.remote, sto)] else []) ++
    (if s.bit SAF0_DEM_REQ k then [(.host, true)] else []) ++ (if s.bit SAF0_DEM_REQ (4 + k) then [(.host, false)] else [])

/-- Channel `ch` acts on a demand: STO, or SS1 of every guarded axis in the group; a group without one goes to STO (R415, log 31). -/
def State.demand (s : State) (k ch : Nat) (d : SafCause × Bool) : State :=
  let axes := s.axesOfGroup k
  if d.2 ∨ axes = [] then (if (if ch = 0 then (s.group k).offA else (s.group k).offB) then s else s.stoBy k (ch == 0) (ch == 1) d.1)
  else s.each axes fun g st => st.ss1Start g ch d.1

/-- The links that serve the guarded axes of group `k`. -/
def State.groupLinks (s : State) (k : Nat) : List Nat := ((s.axesOfGroup k).filter fun g => !s.gaPort g).map fun g => s.gaSrc g

/-- A gated output of group `k` has latched an EDM fault (R433). -/
def State.edmOf (s : State) (k : Nat) : Bool :=
  (List.range 8).any fun o => s.actBit SAF0_OUT_GATE o && s.actFld SAF0_OUT_GATE (9 + 2 * o) (8 + 2 * o) == k && s.bit FIO_OUT_STAT (16 + o)

/-- A core-die processor or LPU is halted by the debug unit (R415). -/
def State.anyHalt (s : State) : Bool := decide (s.dbgHalt ≠ 0) || s.lpus.any fun e => e.2.halted

/-- The causes now present for group `k` (R415, R416). -/
def State.liveCauses (s : State) (k : Nat) : List SafCause :=
  let ax := s.axesOfGroup k
  let c (b : Bool) (x : SafCause) : List SafCause := if b then [x] else []
  c (s.groupPair k 0 || s.groupPair k 1) .pair ++ c (s.remoteDem k) .remote ++ c (s.bit SAF0_DEM_REQ k || s.bit SAF0_DEM_REQ (4 + k)) .host ++
    c (ax.any fun g => (s.saf g 0).viol != 0 || (s.saf g 1).viol != 0) .violation ++
    c (s.disagree.any fun e => decide (s.discN ≤ e.2) && (s.itemGroups e.1).contains k) .disagree ++
    c (decide (2 ≤ s.noExA) || decide (2 ≤ s.noExB) || !s.chanRuns 0) .partner ++
    c (ax.any fun g => s.safLost g 0 || s.safLost g 1) .position ++ c (s.group k).outBad .output ++
    c ((s.groupLinks k).any fun l => (s.link l).cont.error) .container ++ c (s.edmOf k) .edm ++
    c (s.actBit SAF0_SAF_CTL 0 && s.anyHalt) .halt ++ c s.lost .hardware

/-- The faults that act on group `k` through both channels at a boundary, beside those that have acted already (R415, R428, R431). -/
def State.groupFaults (s : State) (k : Nat) : State :=
  let s1 := s.when (s.edmOf k && !(s.group k).off) fun st => st.safeGroup k .edm
  let s2 := s1.when (s1.actBit SAF0_SAF_CTL 0 && s1.anyHalt && !(s1.group k).off) fun st => st.safeGroup k .halt
  let s3 := s2.when (s2.lost && !(s2.group k).off) fun st => st.safeGroup k .hardware
  s3.when (decide (s3.safPeer / 2 ^ k % 2 = 1)) fun st =>
    if (st.group k).off then st.setGroup k { st.group k with onlyDemands := false } else st.safeGroup k .peer

/-! ### Outputs (R412, R413) -/

/-- An output of group `g` does not follow: an output fault of channel `ch` (R413). -/
def State.outputFault (s : State) (g ch : Nat) : State :=
  (((s.setGroup g { s.group g with outBad := true }).safEvent 9).safErr 4 g ch).safeGroup g .output

/-- The readbacks of the outputs at a boundary: an output that has not followed its command for 100 µs is an output fault (R413). -/
def State.checkOutputs (s : State) (rdA rdB : BitVec 4) : State :=
  let s0 := (s.wrFld SAF1_B_OUT 11 8 rdA.toNat).wrFld SAF1_B_OUT 7 4 rdB.toNat
  s0.each (List.range 4) fun g st =>
    let x := st.group g
    let badA := rdA.getLsbD g == x.offA
    let badB := rdB.getLsbD g == x.offB
    if x.since + 400000 ≤ st.dt && (badA || badB) then (if x.outBad then st else st.outputFault g (if badA then 0 else 1))
    else if x.since + 400000 ≤ st.dt then st.setGroup g { x with outBad := false }
    else st

/-! ### Display (R438 to R440) -/

/-- GA_STAT and GA_VEL, GB_STAT and GB_VEL. -/
def State.showAxis (s : State) (g ch : Nat) : State :=
  let x := s.saf g ch
  let en := s.guardedBlocks.contains g
  let dis := s.disagree.any fun e => decide (e.1 < 48) && e.1 % 16 == g
  let b (c : Bool) (k : Nat) : Nat := if c then 2 ^ k else 0
  let v := b x.active 0 + 2 * x.viol + b (s.stopOf g ch).isSome 4 + b (s.safLost g ch) 5 + b dis 6 + b x.still 7
  (s.wr (if ch = 0 then SAF0_GA_STAT g else SAF1_GB_STAT g) (BitVec.ofNat 32 (if en then v else 0))).wr (if ch = 0 then SAF0_GA_VEL g else SAF1_GB_VEL g)
    (if en then w32 (satTo 32 (x.vel / 65536)) else 0)

/-- GRP_SS1 of channel `ch`. -/
def State.stopsOf (s : State) (ch : Nat) : Nat := groupBits fun k => s.ss1.any fun e => e.1 % 2 == ch && s.gaGroup (e.1 / 2) == k

/-- Everything the SAF pages show of an evaluation. -/
def State.showSaf (s : State) : State :=
  let s1 := (s.wrFld SAF0_SAF_STAT 9 6 (s.stopsOf 0)).wrFld SAF1_B_STAT 9 6 (s.stopsOf 1)
  ((s1.each (List.range 16) fun g st => (st.showAxis g 0).showAxis g 1).wrBit SAF1_B_STAT 0 s.safRun).showGroups

/-! ### The safety cycle (R405) -/

/-- Channel `ch` evaluates every function of every guarded axis and every demand. -/
def State.chanEval (s : State) (ch : Nat) : State :=
  if !s.chanRuns ch then s
  else
    let s1 := s.each s.guardedBlocks fun g st => st.safSample g ch
    let s2 := s1.each s.guardedBlocks fun g st => st.safFunc g ch
    let s3 := s2.each (List.range 4) fun k st => st.each (st.demandsOf k ch) fun d st => st.demand k ch d
    let s4 := if s3.ss1Line then s3.each s3.guardedBlocks fun g st => st.ss1Start g ch .line else s3
    s4.each s4.guardedBlocks fun g st => st.ss1Check g ch

/-- The demands counted: those found that were not causes of their group before. -/
def State.countDemands (s was : State) : State :=
  s.each (List.range 4) fun k st =>
    st.each ((s.liveCauses k).filter fun c => c.demand && !(was.group k).causes.contains c) fun _ st => st.safCount 23 16

/-- The causes are remembered, a fault found while the group is off among them; a group with AUTO whose only causes were demands energises when none remains (R416). -/
def State.settleGroup (s : State) (k : Nat) : State :=
  let live := s.liveCauses k
  let x := s.group k
  if x.off && live.isEmpty && x.alone (s.actBit (SAF0_GRP_CFG k) 5) then s.groupOn k
  else s.setGroup k { x with causes := live, onlyDemands := x.onlyDemands && live.all SafCause.demand, faulted := x.faulted || (x.off && live.any SafCause.isFault) }

/-- One safety cycle boundary (R405). `inA` and `inB` are the levels of the two comparators of each input, `ex` the exchanges received, `rdA` and `rdB` the readbacks of the outputs. -/
def State.safetyCycle (s : State) (inA inB : BitVec 16) (ex : BitVec 2) (rdA rdB : BitVec 4) : State :=
  if s.dt % 1000000 ≠ 0 then s
  else
    let k1 := if s.chanRuns 0 then { s with keepA := s.dt, dropA := false } else s
    if !k1.safRun then k1.latchClaims.refreshGates
    else
      let s1 := k1.latchClaims.exchange ex
      let s2 := ((if s1.chanRuns 0 then s1.judgePairs 0 inA else s1).judgePairs 1 inB).countDemands k1
      let s3 := ((s2.chanEval 0).chanEval 1)
      let s4 := s3.each s3.guardedBlocks fun g st => st.ss1Still g
      let s5 := (s4.each (List.range 4) fun k st => st.groupFaults k).checkOutputs rdA rdB
      let s6 : State := { s5 with ss1Line := false, safPeer := 0, links := s5.links.map fun e => (e.1, { e.2 with fresh := false }) }
      let s7 := (s6.each (List.range 4) fun k st => st.settleGroup k).dropStops
      s7.refreshGates.showSaf

/-! ### Container lapse, test pulses, keep-alive, lockstep -/

/-- The last valid WD of a container has lapsed: of link `o` below 32, of ring entry `o − 32` above (R422 to R424). -/
def State.containerLapse (s : State) (o : Nat) : State :=
  if o < 32 then
    let x := s.link o
    if s.blocksOfLink o ≠ [] ∧ x.cont.lapsed s.dt = true ∧ x.cont.error = false then
      (s.setLink o { x with cont := { x.cont with error := true } }).containerError o
    else s
  else
    let e := o - 32
    let x := tabGet ⟨ContIn.reset, 0⟩ e s.ring.entries
    if s.entryUsed e && x.cont.lapsed s.dt && !x.cont.error then
      (((s.setRing { s.ring with entries := tabSet e { x with cont := { x.cont with error := true } } s.ring.entries }).safEvent 7).safCount 7 0).safErr 2 o 0
    else s

/-- PT_PER in ticks (R437). -/
def State.ptPer (s : State) : Nat := max 1 (s.actFld SAF0_PT_CFG 31 16) * 40000000

/-- A pulse of an output is due: of STO_A.g a PT_PER after its last, of STO_B.g half a PT_PER after that of STO_A.g; the first pulse of STO_A.g since the group was energised comes at any time (R413, log 31). -/
def State.pulseDue (s : State) (g ch : Nat) : Bool :=
  let x := s.group g
  match x.pulseA with
  | none => ch == 0
  | some a =>
    if ch = 0 then decide (a + s.ptPer ≤ s.dt)
    else decide (a + s.ptPer / 2 ≤ s.dt) && (match x.pulseB with
      | none => true
      | some b => decide (b < a))

/-- An energised output of a group with PT_EN is pulsed when its pulse is due; `low`: its readback fell below 5 V within PT_W (R413). -/
def State.testPulse (s : State) (g ch : Nat) (low : Bool) : State :=
  let x := s.group g
  if s.safRun && s.actBit (SAF0_GRP_CFG g) 6 && !(if ch = 0 then x.offA || s.dropA else x.offB) && !s.lost && s.pulseDue g ch then
    (s.setGroup g (if ch = 0 then { x with pulseA := some s.dt } else { x with pulseB := some s.dt })).when (!low) fun st => st.outputFault g ch
  else s

/-- The STO_A driver has had no fresh command within 500 µs and de-energises (R412). -/
def State.keepTimeout (s : State) : State :=
  if s.keepA + 2000000 ≤ s.dt then ({ s with dropA := true } : State).wrFld SAF1_B_OUT 11 8 0 else s

/-! ### Activation (R426, R427) -/

/-- The registers of SAF.0 marked rwl (R437). -/
def safRegs : List Nat :=
  [SAF0_SAF_CTL, SAF0_SAF_SIG, SAF0_CONN_ID, SAF0_RING_ID, SAF0_WD_CFG] ++ (List.range 4).map SAF0_GRP_CFG ++
    (List.range 4).flatMap (fun g => [SAF0_GRP_MASK_LO g, SAF0_GRP_MASK_HI g]) ++ [SAF0_PT_CFG, SAF0_OUT_GATE] ++ (List.range 8).map SAF0_PAIR_CFG ++
    (List.range 16).flatMap fun g => (List.range 14).map fun w => SAF0_GA_CFG g + 4 * w

/-- Those the signature covers (R426). -/
def sigRegs : List Nat := safRegs.filter fun a => a != SAF0_SAF_SIG

/-- The signature of a set of values (R426). -/
def signatureOf (v : Nat → W32) : Nat := crcOf scrcPoly (leBytes 4 0 ++ sigRegs.flatMap fun a => leBytes 4 (v a).toNat)

/-- The signature of the shadow set: SIG_A and SIG_B, each from the channel's own equal copy. -/
def State.sigShadow (s : State) : Nat := signatureOf s.rd

/-- SHADOW_DIFF (R438). -/
def State.shadowDiff (s : State) : Bool := safRegs.any fun a => s.rd a != s.act a

/-- SIG_A, SIG_B and SHADOW_DIFF follow the shadow set (R437, R438, R440). -/
def State.showSigs (s : State) : State :=
  (((s.wr SAF0_SIG_A (BitVec.ofNat 32 s.sigShadow)).wr SAF1_SIG_B (BitVec.ofNat 32 s.sigShadow)).wrBit SAF0_SAF_STAT 1 s.shadowDiff).wrBit SAF1_B_STAT 1 s.shadowDiff

/-- What a set says of slot `n`: the blocks that guard it and the masks that hold it. -/
def slotConfig (v : Nat → W32) (n : Nat) : List (List W32) :=
  ((List.range 16).map fun g => if bitOf (v (SAF0_GA_CFG g)) 6 ∧ fldOf (v (SAF0_GA_CFG g)) 5 0 = n then (List.range 14).map fun w => v (SAF0_GA_CFG g + 4 * w) else []) ++
    (List.range 4).map fun g => if bitOf (v (if n < 32 then SAF0_GRP_MASK_LO g else SAF0_GRP_MASK_HI g)) (n % 32) then [1] else []

/-- Slot `n` is in a state other than OFF or OPEN. -/
def State.slotBusy (s : State) (n : Nat) : Bool := decide ((s.axis n).st ≠ .off) && decide ((s.axis n).st ≠ .opened)

/-- The configuration of slot `n` before an activation: nothing while RUN is 0. -/
def State.slotWas (s : State) (n : Nat) : List (List W32) := if s.safRun then slotConfig s.act n else slotConfig (fun _ => 0) n

/-- A slot stands in two blocks or two masks of the shadow set. -/
def State.slotTwice (s : State) (n : Nat) : Bool :=
  let l := slotConfig s.rd n
  decide (1 < ((l.take 16).filter fun x => x != []).length) || decide (1 < ((l.drop 16).filter fun x => x != []).length)

/-- The source of block `g` of the shadow set breaks R402. -/
def State.sourceBad (s : State) (g : Nat) : Bool :=
  let i := s.fld (SAF0_GA_CFG g) 12 8
  let a := (s.rd (SAF0_CPT_A g)).toNat
  let b := (s.rd (SAF0_CPT_B g)).toNat
  if !s.bit (SAF0_GA_CFG g) 7 then
    let w := 2 ^ s.fld (SLK_STAGE_CAPS i) 13 8
    !s.bit (SLK_LINK_STAT i) 7 || a != w || b != w
  else
    let m := s.portMode i
    decide (12 ≤ i) || a != (s.cpt i).toNat ||
      (if m = 1 then b != a
       else if m = 5 then b * 2 ^ s.fld (FBP_SC_CFG i) 3 0 != 4 * a
       else if m = 6 then b != 4 * s.actFld (FBP_RES_CFG i) 7 0
       else true)

/-- A value of the shadow set is 0 or out of order while in use (code 8): a line loss can start an SS1 on every guarded axis, so its values are in use wherever a block is. -/
def State.valuesBad (s : State) (g : Nat) : Bool :=
  (s.bit (SAF0_GA_FUNC g) 1 && decide (signedOf 32 (s.rd (SAF0_SLP_MAX g)).toNat ≤ signedOf 32 (s.rd (SAF0_SLP_MIN g)).toNat)) ||
    s.rd (SAF0_SS1_DEC g) == 0 || s.rd (SAF0_SS_VEL g) == 0 || (s.bit (SAF0_GA_FUNC g) 0 && s.rd (SAF0_SLS_LIM g) == 0)

/-- The first refusal code that applies to an ACTIVATE, 0 for none (R426). -/
def State.activateCode (s : State) (key : Nat) (stored : Bool) : Nat :=
  let blocks := (List.range 16).filter fun g => s.bit (SAF0_GA_CFG g) 6
  if key ≠ 0xC3A5 then 1
  else if (List.range 64).any fun n => s.slotBusy n && slotConfig s.rd n != s.slotWas n then 2
  else if s.sigShadow ≠ (s.rd SAF0_SAF_SIG).toNat then 3
  else if (List.range 64).any fun n => s.slotTwice n then 5
  else if blocks.any fun g => s.sourceBad g then 6
  else if blocks.any fun g => s.bit (SAF0_GA_CFG g) 7 && s.bit (SAF0_GA_FUNC g) 1 then 7
  else if s.fld SAF0_SAF_CTL 3 1 = 0 ∨ (blocks.any fun g => s.valuesBad g) then 8
  else if !stored then 9
  else 0

/-- A refused activation: the code, CFG_REFUSED; a wrong key and a busy slot are also recorded in ERR_CAP (R426, R596). -/
def State.cfgRefused (s : State) (code : Nat) : State :=
  let s1 := ((s.wrFld SAF0_SAF_STAT 19 16 code).wrFld SAF1_B_STAT 19 16 code).safEvent 11
  if code = 1 then s1.err saf0Page .key 0x48 else if code = 2 then s1.err saf0Page .state 0x48 else s1

/-- All four groups off, by a change of the configuration (R426). -/
def State.allGroupsOff (s : State) : State := s.each (List.range 4) fun g st => if (st.group g).off then st else st.safeGroup g .config

/-- Every channel starts afresh on a set that comes into force. -/
def State.startSet (s : State) (run : Bool) : State :=
  let s1 : State := { s with safAxes := [], ss1 := [], disagree := [], noExA := 0, noExB := 0, ss1Line := false, groups := [] }
  ((s1.wrBit SAF0_SAF_STAT 0 run).wrBit SAF0_SAF_STAT 11 false).refreshGates.showSaf.showSigs

/-- SAF_CMD with CMD 1: ACTIVATE; `stored`: the store in the MRAM succeeded (R426, R427). -/
def State.safActivate (s : State) (v : W32) (stored : Bool) : State :=
  let code := s.activateCode (fldOf v 31 16) stored
  if code ≠ 0 then s.cfgRefused code
  else
    let vals : Tab W32 := safRegs.map fun a => (a, s.rd a)
    let s1 : State := s.allGroupsOff
    let s2 : State := { s1 with safStore := some (vals, s.sigShadow) }
    ((s2.each vals fun e st => st.setAct e.1 e.2).startSet true).safEvent 10

/-- SAF_CMD with CMD 3: DEACTIVATE, under code 2 only (R426). -/
def State.safDeactivate (s : State) (v : W32) : State :=
  if fldOf v 31 16 ≠ 0xC3A5 then s.cfgRefused 1
  else if (List.range 64).any fun n => s.slotBusy n && s.slotWas n != slotConfig (fun _ => 0) n then s.cfgRefused 2
  else s.allGroupsOff.startSet false

/-- After a boot both channels reload the stored set; `ok`: its bytes read back as stored (R427). -/
def State.safReload (s : State) (ok : Bool) : State :=
  match s.safStore with
  | none => s.startSet false
  | some (vals, sig) =>
    if ok && signatureOf (fun a => tabGet (resetOf a) a vals) == sig then
      let s1 := s.each vals fun e st => st.setAct e.1 e.2
      (s1.wrBit SAF0_SAF_STAT 0 true).latchClaims.startSet true
    else (s.startSet false).safEvent 11

/-! ### Safety reset (R416) -/

/-- A safety reset energises every de-energised group whose causes have all gone (R416). -/
def State.safetyReset (s : State) : State :=
  let can := if s.safRun then (List.range 4).filter fun k => (s.group k).off && (s.liveCauses k).isEmpty else []
  if can = [] then s.safEvent 13 else (((s.each can fun k st => st.groupOn k).safEvent 12).safCount 31 24).showSaf

/-- SAF_CMD with CMD 2: RESET from the host (R416). -/
def State.safReset (s : State) (v : W32) : State :=
  if fldOf v 31 16 ≠ 0xC3A5 then s.err saf0Page .key 0x48
  else if !(s.safRun && s.actBit SAF0_SAF_CTL 4) then s.err saf0Page .state 0x48
  else s.safetyReset

/-- A falling edge of field input `k` after `us` microseconds at the high level (R416). -/
def State.resetInput (s : State) (k us : Nat) : State :=
  if s.safRun ∧ s.actBit SAF0_SAF_CTL 12 = true ∧ s.actFld SAF0_SAF_CTL 11 8 = k ∧ 100000 ≤ us ∧ us ≤ 3000000 then s.safetyReset else s

/-! ### Field inputs and outputs (R429 to R434) -/

/-- Input `k` has held a new level for DEB: IN_LVL, the debounced level after INV; without a supply every input reads off (R430, R434). -/
def State.inChange (s : State) (k : Nat) (lvl : Bool) : State :=
  let on := lvl && !s.bit FIO_SUP_STAT 17
  let was := s.bit FIO_IN_LVL (16 + k)
  (s.wrBit FIO_IN_LVL (16 + k) on).inShow k (on != was)

/-- A discrepancy of pair `p` latches in the channels of `a` and `b` (R431). -/
def State.discrepancy (s : State) (p : Nat) (a b : Bool) : State :=
  if !(s.safRun && s.actBit (SAF0_PAIR_CFG p) 11) then s
  else
    let new := (a && !s.bit SAF0_PAIR_STAT (8 + p)) || (b && !s.bit SAF1_B_PAIR (8 + p))
    let s1 := if a then (s.wrBit SAF0_PAIR_STAT (8 + p) true).wrBit SAF0_PAIR_STAT p true else s
    let s2 := if b then (s1.wrBit SAF1_B_PAIR (8 + p) true).wrBit SAF1_B_PAIR p true else s1
    if new then (s2.raise fioPage 1).count FIO_CNT_FIO 7 0 fioPage 5 else s2

/-- Output `k` carries more than 0.7 A for 100 µs or overheats (R432). -/
def State.overload (s : State) (k : Nat) : State :=
  if s.outOn k then (((s.wrBit FIO_OUT_STAT (8 + k) true).showOutputs).raise fioPage 2).count FIO_CNT_FIO 23 16 fioPage 5 else s

/-- The feedback of output `k`'s contactor misses its state (R433). -/
def State.edmFault (s : State) (k : Nat) : State :=
  if s.bit (FIO_OUT_CFG k) 0 && !s.bit FIO_OUT_STAT (16 + k) then
    (((s.wrBit FIO_OUT_STAT (16 + k) true).showOutputs).raise fioPage 3).count FIO_CNT_FIO 15 8 fioPage 5
  else s

/-- The feedback of output `k` shows the contactor open: the input itself, since IN_CFG governs the software view only (R430, R433). -/
def State.contactorOpen (s : State) (k : Nat) : Bool := s.bit FIO_IN_LVL (16 + s.fld (FIO_OUT_CFG k) 4 1) != s.bit (FIO_OUT_CFG k) 5

/-- OUT_CLR: OVL clears, EDM clears only while the feedback shows the contactor open (R432, R433). -/
def State.outClr (s : State) (v : W32) : State :=
  (s.each ((List.range 8).filter fun k => bitOf v k) fun k st =>
    let s1 := st.wrBit FIO_OUT_STAT (8 + k) false
    if !st.bit (FIO_OUT_CFG k) 0 || st.contactorOpen k then s1.wrBit FIO_OUT_STAT (16 + k) false else s1).showOutputs

/-- One threshold with hysteresis. -/
def hystBelow (was : Bool) (lo hi mv : Nat) : Bool := if mv < lo then true else if hi < mv then false else was

/-- The field supply is now at `mv` millivolts (R434). -/
def State.fieldSupply (s : State) (mv : Nat) : State :=
  let low := hystBelow (s.bit FIO_SUP_STAT 16) 18000 19000 mv
  let miss := hystBelow (s.bit FIO_SUP_STAT 17) 9000 10000 mv
  let was := s.bit FIO_SUP_STAT 17
  let change := low != s.bit FIO_SUP_STAT 16 || miss != was
  let s1 := ((s.wrFld FIO_SUP_STAT 15 0 mv).wrBit FIO_SUP_STAT 16 low).wrBit FIO_SUP_STAT 17 miss
  let s2 := s1.raiseIf change fioPage 4
  let s3 := if miss && !was then (s2.each (List.range 16) fun k st => st.inChange k false).count FIO_CNT_FIO 31 24 fioPage 5 else s2
  s3.showOutputs

/-! ### Commands -/

def execSafetyCycle (inA inB : BitVec 16) (ex : BitVec 2) (rdA rdB : BitVec 4) (s : State) : Host.Outcome State Fault Refusal := .next (s.safetyCycle inA inB ex rdA rdB)

def execContainerLapse (o : Fin 96) (s : State) : Host.Outcome State Fault Refusal := .next (s.containerLapse o.val)

def execTestPulse (g : Fin 4) (ch : Fin 2) (low : Bool) (s : State) : Host.Outcome State Fault Refusal := .next (s.testPulse g.val ch.val low)

def execStoAKeepaliveTimeout (s : State) : Host.Outcome State Fault Refusal := .next s.keepTimeout

/-- A lockstep mismatch stops channel A; channel B finds its partner lost (R400). -/
def execLockstepMismatch (s : State) : Host.Outcome State Fault Refusal := .next { s with chanAStop := true }

def execSafActivate (v : W32) (stored : Bool) (s : State) : Host.Outcome State Fault Refusal := .next (s.safActivate v stored)

def execSafReset (v : W32) (s : State) : Host.Outcome State Fault Refusal := .next (s.safReset v)

def execSafDeactivate (v : W32) (s : State) : Host.Outcome State Fault Refusal := .next (s.safDeactivate v)

def execSafetyResetInput (k : Fin 16) (us : W32) (s : State) : Host.Outcome State Fault Refusal := .next (s.resetInput k.val us.toNat)

def execInChg (k : Fin 16) (lvl : Bool) (s : State) : Host.Outcome State Fault Refusal := .next (s.inChange k.val lvl)

def execDiscrepancy (p : Fin 8) (a b : Bool) (s : State) : Host.Outcome State Fault Refusal := .next (s.discrepancy p.val a b)

def execOutputOverload (k : Fin 8) (s : State) : Host.Outcome State Fault Refusal := .next (s.overload k.val)

def execEdmFault (k : Fin 8) (s : State) : Host.Outcome State Fault Refusal := .next (s.edmFault k.val)

def execOutClr (v : W32) (s : State) : Host.Outcome State Fault Refusal := .next (s.outClr v)

def execFieldSupply (mv : BitVec 16) (s : State) : Host.Outcome State Fault Refusal := .next (s.fieldSupply mv.toNat)

end Sys2Proof.Machine
end

