-- ==== Sys2Proof/Machine/Commit.lean ====
section
/-! DEFINITION. COMMIT and COMMIT_AT: what a page refuses, what it accepts, and what taking effect does (R598, R599, R390 and the commit rules of the blocks). -/

namespace Sys2Proof.Machine

/-- The reason of a refusal: the code and the offset of the register concerned (R596). -/
abbrev Why := Option (ErrCode × Nat)

/-- A refusal with code COMMIT concerning offset `o` when the condition holds. -/
def whenBad (b : Bool) (o : Nat) : Why := if b then some (.commit, o) else none

/-- The first reason of a list. -/
def firstWhy (l : List Why) : Why := l.findSome? id

/-- Whether the value of a register in the set differs from the one in force. -/
def State.differs (s : State) (vals : Tab W32) (a : Nat) : Bool := setVal vals a != s.act a

/-- Slot `n` is OFF, READY or OPEN. -/
def State.slotIdle (s : State) (n : Nat) : Bool := (s.axis n).st.idle

/-! ### The load of the LPUs -/

/-- The load of the LPU that carries slot `n` would exceed the limit. -/
def State.overloads (s : State) (n : Nat) : Bool :=
  match s.lpuOf n with
  | none => false
  | some (i, _) => decide (loadMax < s.loadOf i)

/-! ### The scheduler and the silos -/

/-- LANE_WIN of lane `k` in a set: its first entry and its length (R68). -/
def laneWin (vals : Tab W32) (k : Nat) : Nat × Nat := (fldOf (setVal vals (ASC_LANE_WIN k)) 11 0, fldOf (setVal vals (ASC_LANE_WIN k)) 28 16)

/-- Two windows overlap: some entry lies in both, so an empty window overlaps none (R69). -/
def winOverlap (a b : Nat × Nat) : Bool := decide (max a.1 b.1 < min (a.1 + a.2) (b.1 + b.2))

/-- Entry `e` of the scheduler is armed: bit 0 of byte 9 of its entry (R72). -/
def State.entryArmed (s : State) (e : Nat) : Bool := (s.byteAt (0x027F0000 + 16 * e + 9)).getLsbD 0

/-- The window in force of lane `k` holds an armed entry. -/
def State.laneArmed (s : State) (k : Nat) : Bool :=
  let w := (s.actFld (ASC_LANE_WIN k) 11 0, s.actFld (ASC_LANE_WIN k) 28 16)
  (List.range w.2).any fun i => s.entryArmed (w.1 + i)

/-- The refusals of R69. -/
def State.laneCheck (s : State) (vals : Tab W32) : Why :=
  let on (k : Nat) : Bool := bitOf (setVal vals (ASC_LANE_CFG k)) 0
  firstWhy ((List.range 16).map fun k =>
    let w := laneWin vals k
    let cfg := s.differs vals (ASC_LANE_CFG k)
    let win := s.differs vals (ASC_LANE_WIN k)
    firstWhy
      [ whenBad ((cfg || win) && s.laneArmed k) (if cfg then 0x100 + 16 * k else 0x104 + 16 * k),
        whenBad (decide (4096 < w.1 + w.2)) (0x104 + 16 * k),
        whenBad (on k && (List.range k).any fun j => on j && winOverlap w (laneWin vals j)) (0x104 + 16 * k) ])

/-! ### Loops (R175, R183, R184, R190, R194, R197) -/

/-- The gain registers of set `r`, with the number of each (R184). -/
def gainRegs (n r : Nat) : List (Nat × Nat) :=
  [(0, AXL_SET_KP_POS n r), (1, AXL_SET_KV_FF n r), (2, AXL_SET_KA_FF n r), (3, AXL_SET_KP_VEL n r), (4, AXL_SET_KI_VEL n r), (5, AXL_SET_KP_CUR n r), (6, AXL_SET_KI_CUR n r)]

/-- Whether gain `k` with register value `v` converts to 256 per unit or more (R184), `i` and `u` being I_SCALE and V_SCALE: KV_FF has no unit, KP_POS (1/s) is taken by T_s, KP_CUR (V/A) by I_SCALE / V_SCALE, KI_CUR (V/(A·s)) by
I_SCALE × T_s / V_SCALE. The gains whose unit holds a turn have no stated base for it, so their conversion is open (log 40). -/
def gainBig (k v i u hz : Nat) : Bool :=
  v != 0 &&
  match k with
  | 0 => decide (256 * 65536 * hz ≤ v)
  | 1 => false
  | 5 => decide (256 * 65536 * u ≤ v * i)
  | 6 => decide (256 * 256 * u * hz ≤ v * i)
  | _ => decide (256 * 65536 ≤ Config.perUnit k v i u hz)

/-- The refusals of R184: the first gain whose converted value reaches 256 per unit, then I_SCALE below I_PEAK. -/
def State.gainCheck (n : Nat) (vals : Tab W32) : Why :=
  let v (a : Nat) : Nat := (setVal vals a).toNat
  let hz := v (AXL_SAMPLE_HZ n)
  let big (kr : Nat × Nat) : Bool := gainBig kr.1 (v kr.2) (v (AXL_I_SCALE n)) (v (AXL_V_SCALE n)) hz
  firstWhy (((List.range 8).flatMap fun r => (gainRegs n r).map fun kr => whenBad (big kr) (kr.2 - axlPage n)) ++
    [whenBad (decide (v (AXL_I_SCALE n) < v (AXL_I_PEAK n))) (AXL_I_SCALE n - axlPage n)])

/-- Breakpoints that do not rise within the speed bands in use, those that NSPD names (R181, R183, R202). -/
def bandCheck (n : Nat) (vals : Tab W32) : Why :=
  let bp (k : Nat) : Nat := (setVal vals (AXL_GS_SPD_BP n k)).toNat
  let nspd := fldOf (setVal vals (AXL_GS_CTL n)) 1 0
  whenBad ((List.range (nspd - 1)).any fun k => decide (bp (k + 1) ≤ bp k)) 0x140

/-- The uplink delay of the link in ticks: DELAY − 2 × DELAY_ASYM, or that of 10 m while none is measured (R194; log 41). -/
def State.upDelay (s : State) (k : Nat) : Int :=
  let d := s.fld (SLK_DELAY k) 15 0
  if s.linkState k ≠ 4 ∨ d = 0xFFFF then 200 else (d : Int) - 2 * signedOf 16 (s.fld (SLK_DELAY_ASYM k) 15 0)

/-- APPLY_OFS passes R194 for slot `n`. A slot with as-computed output has no apply instant (R197). -/
def State.applyOk (s : State) (n : Nat) : Bool :=
  if s.isLdc n then true
  else
    let t := s.sampleTicks n
    let a : Nat := if s.act (AXL_APPLY_OFS n) = 0 then t / 4 else (s.act (AXL_APPLY_OFS n)).toNat
    let inRange := decide (4000 ≤ a) && decide (a + 2000 ≤ t / 2)
    match s.linkOfSlot n, s.lpuOf n with
    | some (k, _), some (i, p) =>
      let earliest : Int := 1000 + (if s.twoBridges k then 1280 else 1024) + s.upDelay k + 360 + 4 * (s.worstOf (s.progOf i p n) : Nat)
      inRange && decide (earliest ≤ (a : Int))
    | _, _ => inRange

/-- SAMPLE_HZ equals that of every other slot of the same link whose axis is past OPEN (R190). -/
def State.rateOk (s : State) (n : Nat) : Bool :=
  match s.linkOfSlot n with
  | none => true
  | some (k, _) => (s.linkSlots k).all fun m => m == n || s.slotIdle m || s.sampleHz m == s.sampleHz n

/-- The LPU assignment of slot `n` is accepted: a working LPU carries it within its load (R17, R190). A slot that runs no program needs none. -/
def State.lpuOk (s : State) (n : Nat) : Bool := s.runsNothing n || (s.carried n && !s.overloads n)

/-- The checks that take an axis from OFF to READY, in the order of R190, over a state in which the set is in force. -/
def State.readyCheck (s : State) (n : Nat) : Why :=
  let cascade := decide (s.struct n < 2)
  firstWhy
    [ whenBad (!s.slotLive n) 0x040,
      whenBad (!s.rateOk n) 0x058,
      whenBad (!s.lpuOk n) 0x040,
      whenBad (!s.applyOk n) 0x054,
      whenBad (cascade && s.act (AXL_SET_KP_VEL n 0) == 0) 0x18C,
      whenBad (cascade && s.act (AXL_SET_KP_CUR n 0) == 0) 0x194 ]

/-- What refuses a COMMIT of an AXL page as a whole, the checks of R190 in its order; `h` is the state with the set in force. -/
def State.axlCheck (s h : State) (n : Nat) (vals : Tab W32) : Why :=
  let hz := fldOf (setVal vals (AXL_SAMPLE_HZ n)) 16 0
  let ctl := setVal vals (AXL_LOOP_CTL n)
  let rate := s.differs vals (AXL_SAMPLE_HZ n)
  let ofs := s.differs vals (AXL_APPLY_OFS n)
  let prog := decide (s.stockProg n ≠ h.stockProg n)
  let idle := s.slotIdle n
  let standing := decide ((s.axis n).st = .ready ∨ (s.axis n).st = .opened) && (rate || ofs || prog)
  firstWhy
    [ if 8000 ≤ hz ∧ hz ≤ 100000 then none else some (.value, 0x058),
      whenBad (rate && !idle) 0x058,
      whenBad (ofs && !idle) 0x054,
      whenBad (bitOf ctl 2 && !s.isLdc n && fldOf ctl 1 0 != 3) 0x040,
      whenBad (standing && !h.rateOk n) 0x058,
      whenBad (((prog || rate) && h.overloads n) || (standing && !h.lpuOk n)) 0x040,
      State.gainCheck n vals,
      whenBad (standing && !h.applyOk n) 0x054,
      bandCheck n vals,
      whenBad (bitOf ctl 12 && bitOf (setVal vals (AXL_RC_CTL n)) 4 && s.modPer n == 0) (AXL_RC_CTL n - axlPage n) ]

/-! ### Profiles -/

/-- The refusals of an AXP page (R120, R148, R153). -/
def State.axpCheck (s : State) (n : Nat) (vals : Tab W32) : Why :=
  let d (a : Nat) : Bool := s.differs vals a
  let v (a : Nat) : W32 := setVal vals a
  let free := decide ((s.axis n).st = .off ∨ (s.axis n).st = .ready)
  let md := d (AXP_MOD_LO n) || d (AXP_MOD_HI n)
  let step := v (AXP_STEP_CTL n)
  let stall := v (AXP_STALL_CTL n)
  firstWhy
    [ whenBad (md && !free) 0x074,
      whenBad (d (AXP_LIM_CTL n) && !free) 0x07C,
      whenBad (bitOf (v (AXP_LIM_CTL n)) 0 && (v (AXP_MOD_LO n) != 0 || v (AXP_MOD_HI n) != 0)) 0x07C,
      whenBad (d (AXP_STEP_CTL n) && decide ((s.axis n).st ≠ .off)) 0x0F0,
      whenBad (d (AXP_STEP_CTL n) && bitOf step 0 && (s.ldcOfSlot n).isSome) 0x0F0,
      whenBad (bitOf step 0 && (List.range 64).any fun m => m != n && s.isStep m && s.actFld (AXP_STEP_CTL m) 3 1 == fldOf step 3 1) 0x0F0,
      whenBad (bitOf stall 0 && (v (AXP_STALL_KE n) == 0 || v (AXP_STALL_RL n) == 0)) 0x108 ]

/-! ### Bindings of links and ports -/

/-- The slots that a BIND value names. -/
def bindSlots (v : W32) : List Nat := (if bitOf v 6 then [fldOf v 5 0] else []) ++ (if bitOf v 14 then [fldOf v 13 8] else [])

/-- The refusals of an SLK page (R258, R404). A slot has one output (R15): a BIND that names a slot of another link, of a local channel, or one slot for both bridges is refused (DEDUCED, log 61); a step pair may share its slot with a stepper stage (R17). -/
def State.slkCheck (s h : State) (k : Nat) (vals : Tab W32) : Why :=
  let b := s.differs vals (SLK_BIND k)
  let dbl := s.isDouble k != h.isDouble k
  let slots := bindSlots (s.act (SLK_BIND k)) ++ bindSlots (setVal vals (SLK_BIND k))
  let taken := (s.blocksOfLink k).any fun g => s.bridgeSlot k (if s.actBit (SAF0_GA_CFG g) 13 then 1 else 0) == some (s.gaSlot g) &&
    h.bridgeSlot k (if s.actBit (SAF0_GA_CFG g) 13 then 1 else 0) != some (s.gaSlot g)
  let new := bindSlots (setVal vals (SLK_BIND k))
  let elsewhere := new.any fun n => decide (1 < new.count n) || (s.ldcOfSlot n).isSome || (List.range 32).any fun j => j != k && (bindSlots (s.act (SLK_BIND j))).contains n
  firstWhy
    [ whenBad ((b || dbl) && !slots.all fun n => s.slotIdle n) (if b then 0x04C else 0x040),
      whenBad (b && elsewhere) 0x04C,
      whenBad taken 0x04C ]

/-- A port is in use (R334). -/
def State.portInUse (s : State) (p : Nat) : Bool :=
  (match s.slotOfPort p with
    | none => false
    | some n => !s.slotIdle n) ||
  (s.lineSrc == 1 && s.actFld LTB_SRC_CTL 13 8 == p) ||
  ((List.range 64).any fun n =>
    let g := s.gear n
    (s.follows n && g.law.msrc == 3 && g.law.minst == p) ||
      (match g.wait with
       | none => false
       | some (l, _) => l.msrc == 3 && l.minst == p)) ||
  ((List.range 4).any fun m => s.emuOn m && s.emuSrc m == 3 && s.emuInst m == p) ||
  ((List.range 6).any fun c => s.fld (LDC_COM_CTL c) 11 8 == p && s.fld (LDC_COM_CTL c) 1 0 == 1 && s.comState c != 0)

/-- The guarded-axis blocks whose source is port `p` (R402). -/
def State.blocksOfPort (s : State) (p : Nat) : List Nat := s.guardedBlocks.filter fun g => s.gaPort g && s.gaSrc g == p

/-- The refusals of an FBP page (R334, R337, R342, R404). -/
def State.fbpCheck (s : State) (p : Nat) (vals : Tab W32) : Why :=
  let v (a : Nat) : W32 := setVal vals a
  let mode := fldOf (v (FBP_FB_CTL p)) 2 0 != s.portMode p
  let use := s.portInUse p
  let bd := v (FBP_BIND p)
  let bound := s.differs vals (FBP_BIND p)
  let old := bindSlots (s.act (FBP_BIND p) &&& 0x7F)
  let new := bindSlots (bd &&& 0x7F)
  let ser := v (FBP_SER_CFG p)
  let guardOff := (s.blocksOfPort p).any fun g => old.contains (s.gaSlot g) && !new.contains (s.gaSlot g)
  firstWhy
    [ whenBad (use && mode) 0x040,
      whenBad (use && s.differs vals (FBP_CPT p)) 0x04C,
      whenBad (use && s.differs vals (FBP_SER_CFG p)) 0x080,
      whenBad (use && s.differs vals (FBP_RES_CFG p)) 0x0B0,
      whenBad (decide (40 < fldOf ser 4 0 + fldOf ser 9 5) || s.differs vals (FBP_SER_CFG p) && (decide (24 < fldOf ser 9 5) || decide (fldOf ser 4 0 < 8))) 0x080,
      whenBad (bound && !(old ++ new).all fun n => s.slotIdle n) 0x050,
      whenBad (bound && new.any fun n => (List.range 12).any fun q => q != p && s.slotOfPort q == some n) 0x050,
      whenBad (mode && s.blocksOfPort p != []) 0x040,
      whenBad guardOff 0x050 ]

/-- The refusals of an EMU page (R356). -/
def State.emuCtlCheck (s : State) (m : Nat) (vals : Tab W32) : Why :=
  let v := setVal vals (EMU_EMU_CTL m)
  let i := fldOf v 9 4
  whenBad (fldOf v 2 1 == 3 && (decide (12 ≤ i) || s.portMode i == 0)) 0x040

/-! ### LPU assignment (R226) -/

/-- A migration or failover of the group of LPU `i` is in progress. -/
def State.groupMoves (s : State) (i : Nat) : Bool :=
  match s.sched.move with
  | none => false
  | some (src, dst, _) => src == i || dst == i

/-- The refusals of an LPU page. -/
def State.lpuCheck (s h : State) (i : Nat) (vals : Tab W32) : Why :=
  let reg (p : Nat) : Nat := 0x080 + 4 * p
  let changed := (List.range 8).filter fun p => s.differs vals (LPU_ASSIGN i p)
  let slotsOf (x : W32) : List Nat := if bitOf x 7 then [fldOf x 5 0] else []
  let all := ((List.range 9).filter fun j => !s.lpuRetired j).flatMap fun j => h.lpuSlots j
  firstWhy
    ([ whenBad (s.roleOf i != 0) (reg 0), whenBad (s.groupMoves i) (reg 0) ] ++
     changed.map (fun p => whenBad (!(slotsOf (s.act (LPU_ASSIGN i p)) ++ slotsOf (setVal vals (LPU_ASSIGN i p))).all fun n => s.slotIdle n) (reg p)) ++
     changed.map (fun p => whenBad (bitOf (setVal vals (LPU_ASSIGN i p)) 7 && decide (1 < all.count (fldOf (setVal vals (LPU_ASSIGN i p)) 5 0))) (reg p)) ++
     changed.map (fun p =>
       let k := fldOf (setVal vals (LPU_ASSIGN i p)) 15 8
       whenBad (k != 0xFF && decide (s.sched.lib.length ≤ k)) (reg p)) ++
     [ whenBad (decide (loadMax < h.loadOf i)) (reg 0) ])

/-! ### The line timebase -/

/-- The shadow of the LTB page as a set: calendar time is part of it only when a register of its group has been written since the last commit (R59; log 38). -/
def State.ltbVals (s : State) : Tab W32 :=
  let v := tabDrop (fun a => a == LTB_RTC_SET_SEC_LO || a == LTB_RTC_SET_SEC_HI || a == LTB_RTC_SET_NS) (s.shadowVals ltbPage)
  if s.ltb.rtcDirty then [LTB_RTC_SET_SEC_LO, LTB_RTC_SET_SEC_HI, LTB_RTC_SET_NS].foldl (fun t a => tabSet a (s.rd a) t) v else v

/-- The set carries a calendar time. -/
def rtcOf (vals : Tab W32) : Bool := tabHas LTB_RTC_SET_NS vals

/-- A COMMIT of the LTB page of which nothing is accepted is refused as a whole (R36, R37, R598). -/
def State.ltbNothing (s : State) (vals : Tab W32) : Bool :=
  let srcBad := s.srcChanges vals && s.srcRefused vals
  let srcNone := srcRegs.all fun a => !s.differs vals a
  (srcBad && (!rtcOf vals || s.rtcRefused)) || (srcNone && rtcOf vals && s.rtcRefused)

/-! ### Accepting -/

/-- The set that a COMMIT copies: the shadowed registers of the page; on an SLK page also LINK_CTL, for its shadowed bit DOUBLE (R272). -/
def State.pageVals (s : State) (p : PageRef) : Tab W32 :=
  match p.kind with
  | .ltb => s.ltbVals
  | .slk => tabSet (SLK_LINK_CTL p.inst) (s.rd (SLK_LINK_CTL p.inst)) (s.shadowVals p.base)
  | _ => s.shadowVals p.base

/-- What the page refuses as a whole. -/
def State.commitCheck (s : State) (p : PageRef) (vals : Tab W32) : Why :=
  let h := s.putInForce p.base vals
  match p.kind with
  | .ltb => whenBad (setVal vals LTB_SCALE_DEN == 0) 0x0B4
  | .asc => s.laneCheck vals
  | .sil => whenBad (s.siloCfgBad p.inst (setVal vals (SIL_SIL_CFG p.inst))) 0x040
  | .axl => s.axlCheck h p.inst vals
  | .axp => s.axpCheck p.inst vals
  | .slk => s.slkCheck h p.inst vals
  | .fbp => s.fbpCheck p.inst vals
  | .emu => s.emuCtlCheck p.inst vals
  | .lpu => s.lpuCheck h p.inst vals
  | _ => none

/-- One notch parameter held within its limits (R173): the value, and whether it was clamped. -/
def notchLimits (n : Nat) (vals : Tab W32) (k : Nat) : List (Nat × W32) :=
  let fs := fldOf (setVal vals (AXL_SAMPLE_HZ n)) 16 0
  let f := notchClamp (setVal vals (AXL_NF_F0 n k)).toNat fs
  let w := max 65536 (min (setVal vals (AXL_NF_WIDTH n k)).toNat (2 * f))
  let c := setVal vals (AXL_NF_CFG n k)
  [(AXL_NF_F0 n k, BitVec.ofNat 32 f), (AXL_NF_WIDTH n k, BitVec.ofNat 32 w), (AXL_NF_CFG n k, withFld c 15 0 (min 15360 (fldOf c 15 0)))]

/-- A COMMIT stores the nearest limit of a notch parameter outside its range and records it (R173). -/
def State.clampNotches (s : State) (n : Nat) (vals : Tab W32) : Tab W32 × State :=
  ((List.range 4).flatMap (notchLimits n vals)).foldl (fun (vs : Tab W32 × State) av =>
    if setVal vs.1 av.1 = av.2 then vs else (tabSet av.1 av.2 vs.1, (vs.2.wr av.1 av.2).errAt .clamped av.1)) (vals, s)

/-- The page is mirrored by an active device whose crosslink is up: its commits take effect 4 µs after the write at the earliest (R388, R390). -/
def State.mirrorsPage (s : State) (p : PageRef) : Bool := s.role == 1 && s.fld XLK_XLK_STAT 1 0 == 2 && s.mirrorsKind p

/-- The page belongs to a region that a standby takes from its active peer (R388). -/
def State.standbyPage (s : State) (p : PageRef) : Bool := s.role == 2 && !s.xlk.applying && s.mirrorsKind p

/-- A commit is accepted (R598): the page's pending set, a record to the standby for a mirrored page (R389), and for an AXL page the conversion and the checks of R190. -/
def State.takeCommit (s : State) (p : PageRef) (vals : Tab W32) (due : CommitDue) : State :=
  let page := p.base
  let s1 := match p.kind with
    | .axl =>
      let n := p.inst
      let (vals1, s0) := s.clampNotches n vals
      let vals2 := if s0.tuneLocked n && (s0.axis n).st != .opened then s0.keepCoefs n vals1 else vals1
      let s2 := s0.acceptCommit page vals2 due
      let s3 := (s2.setServo n { s2.servo n with converted := false }).wrBit (AXL_LOOP_STAT n) 3 true
      if (s3.axis n).st = .off then
        match (s3.putInForce page vals2).readyCheck n with
        | none => s3.setAxState n .ready
        | some (c, o) => s3.err page c o
      else s3
    | _ => s.acceptCommit page vals due
  if s.mirrorsPage p then
    let seq := s1.fld (page + 0x020) 30 0
    let s2 := s1.xlkSend (.commit page seq due (s.dt + 16000))
    { s2 with xlk := { s2.xlk with waiting := (s2.xlk.waiting.filter fun w => w.page != page) ++ [⟨page, seq, s.dt + 16000, false⟩] } }
  else s1

/-! ### Taking effect -/

/-- The pending set of an AXP page takes effect at a sample instant; STOP acts in place of a START or RESUME committed with it (R126, R133, R134). -/
def State.axpApply (s : State) (n : Nat) (vals : Tab W32) : State :=
  let page := axpPage n
  let ctl := setVal vals (AXP_MOVE_CTL n)
  let lims := [AXP_VMAX n, AXP_ACC n, AXP_DEC n, AXP_JERK n].any fun a => s.differs vals a
  let s1 := s.putInForce page vals
  let s2 := if lims then s1.limsChanged n else s1
  let start := bitOf ctl 0
  let resume := bitOf ctl 2
  if bitOf ctl 1 then (s2.moveStop n).when (start || resume) fun st => st.err page .state 0x040
  else (s2.when start fun st => st.moveStart n (st.moveMode n)).when resume fun st => st.resumeMove n

/-- The pending set of an FBP page takes effect: a new mode starts the port afresh (R333, R335). -/
def State.fbpApply (s : State) (p : Nat) (vals : Tab W32) : State :=
  let m := s.portMode p
  let s1 := s.putInForce (fbpPage p) vals
  (if s1.portMode p = m then s1.showAbs p else s1.portStart p).emusCheck

/-- The pending set of an EMU page takes effect: a changed source or unit starts the output again at its source's position, an EN without a valid source raises SRC_LOST, the levels follow Z_POS, Z_EN and DIR_INV (R350 to R352). -/
def State.emuApply (s : State) (m : Nat) (vals : Tab W32) : State :=
  let again := s.differs vals (EMU_EMU_CTL m) || s.differs vals (EMU_LINES m)
  let s1 := s.putInForce (emuPage m) vals
  let s2 := (s1.when (again && s1.emuOn m && s1.emuValid m) fun st => st.wrBit (EMU_EMU_STAT m) 17 false).raiseIf (!s.emuOn m && s1.srcLost m) (emuPage m) 2
  let s3 := s2.emuCheck m
  s3.when (s3.emuActive m) fun st => st.emuShow m (st.emu m).count

/-- The pending set `k` of page `p` takes effect whole. -/
def State.pageApply (s : State) (p : PageRef) (k : Commit) : State :=
  let page := p.base
  let s0 := s.dropCommit page
  match p.kind with
  | .ltb => s0.ltbApply k.vals (rtcOf k.vals)
  | .axl => (s.applyAxl p.inst k).showLoads
  | .axp => (s0.axpApply p.inst k.vals).showLoads
  | .axg => (s0.putInForce page k.vals).gearApply p.inst (fldOf (setVal k.vals (AXG_GEAR_CMD p.inst)) 1 0)
  | .fbp => s0.fbpApply p.inst k.vals
  | .emu => s0.emuApply p.inst k.vals
  | .lpu => (s0.putInForce page k.vals).showLoads
  | .slk => (s0.putInForce page k.vals).showLoads
  | _ => s0.putInForce page k.vals

/-- The pages whose commit takes effect in the tick in which it reaches them (R36, R69, R96, R226, R258, R334, R356, R486). -/
def atOnce (k : PageKind) : Bool :=
  match k with
  | .ltb => true
  | .asc => true
  | .sil => true
  | .axg => true
  | .slk => true
  | .fbp => true
  | .emu => true
  | .lpu => true
  | _ => false

/-- The pending set of page `p` is due now: its target has been reached, and a mirrored one has had its 4 µs (R390, R599). -/
def State.commitDue (s : State) (p : PageRef) (k : Commit) : Bool :=
  s.dueReached k.due s.dt && !(s.xlk.waiting.any fun w => w.page == p.base)

/-- The pending set of a page that applies at once takes effect if it is due. -/
def State.applyNow (s : State) (p : PageRef) : State :=
  match s.commitOf p.base with
  | none => s
  | some k => if atOnce p.kind && s.commitDue p k then s.pageApply p k else s

/-- A COMMIT or COMMIT_AT of a core-die page with the target `due` (R598, R599): the command fields leave the shadow; it is refused as a whole, or accepted. -/
def State.commitTo (s : State) (p : PageRef) (due : CommitDue) : State :=
  let page := p.base
  let vals := s.pageVals p
  let s1 := s.stripCmds page
  let s2 : State := if p.kind = .ltb then { s1 with ltb := { s1.ltb with rtcDirty := false } } else s1
  match s2.commitCheck p vals with
  | some (c, o) => s2.err page c o
  | none =>
    if p.kind = .ltb ∧ due = .nextApply ∧ s2.ltbNothing vals = true then
      if s2.srcChanges vals && s2.srcRefused vals then s2.srcRefuse else s2.errAt .commit LTB_RTC_SET_SEC_LO
    else (s2.takeCommit p vals due).applyNow p

/-- Whether a page has a shadowed register. -/
def hasShadow (k : PageKind) : Bool := (pageRows k).any fun r => r.shadowed

/-- Whether a command to the page is heard: the page exists, its block is clocked, and a standby does not ignore it (R388, R592). A page of a mirrored region on the standby records the write. -/
def State.commitHeard (s : State) (p : PageRef) : Bool := s.bit (p.base + 0x004) 0

/-- A commit command reaches its page: `off` is the register written. -/
def State.commitReach (s : State) (p : PageRef) (off : Nat) (due : CommitDue) : State :=
  if !s.commitHeard p then s
  else if s.standbyPage p then s.err p.base .state off
  else if !hasShadow p.kind then s.err p.base .commit off
  else
    match p.kind with
    | .ldc => (s.stripCmds p.base).ldcArrival p.inst due
    | _ => s.commitTo p due

/-- A write that the bridge carries to the field die takes effect later (R8). -/
def State.postWrite (s : State) (req a : Nat) (v : W32) (due : Option CommitDue) : State := { s with posted := s.posted ++ [⟨req, a, v, s.dt, due⟩] }

/-- Whether a page lies on the field die (R591). -/
def PageRef.field (p : PageRef) : Bool := (pageTempl p.kind).die == 1

/-- COMMIT written with bit 0 set: at once on the core die, posted to the field die (R8, R598). -/
def State.commitWrite (s : State) (req page : Nat) (v : W32) : State :=
  match pageOf page with
  | none => s
  | some p =>
    if !bitOf v 0 then s
    else if p.field then s.postWrite req (p.base + 0x020) v none
    else s.commitReach p 0x020 .nextApply

/-- The target of KIND 1 (R599): the device time, or none once it has passed. -/
def State.timeTarget (s : State) (v : W32) : Option Nat :=
  let d := signedOf 32 (4 * fldOf v 29 0 + 2 ^ 32 - s.dt % 2 ^ 32)
  if 0 ≤ d then some (s.dt + d.toNat) else none

/-- The target of KIND 2 (R599): the next crossing of the fraction in the line's direction; a line that stands is watched on both sides. -/
def State.angleTarget (s : State) (v : W32) : CommitDue :=
  let k := s.lineAt s.dt
  let p := q32 k.p
  let f : Int := 4 * (fldOf v 29 0 : Nat)
  let up := p + ((f - p - 1) % 4294967296 + 1)
  let down := p - ((p - f - 1) % 4294967296 + 1)
  if 0 < k.v then .atAngle (some up) none else if k.v < 0 then .atAngle none (some down) else .atAngle (some up) (some down)

/-- COMMIT_AT keeps the value written (R599). -/
def State.keepAt (s : State) (p : PageRef) (v : W32) : State := s.wr (p.base + 0x024) v

/-- A COMMIT_AT with a target: `due` is its resolved target, `late` says that the target had passed, recorded with code LATE (R599). -/
def State.commitAt (s : State) (req page : Nat) (v : W32) (due : CommitDue) (late : Bool) : State :=
  match pageOf page with
  | none => s
  | some p =>
    if p.field then (s.postWrite req (p.base + 0x024) v (some due)).when late fun st => st.err p.base .late 0x024
    else if !s.commitHeard p then s
    else
      let s1 := if hasShadow p.kind && !s.standbyPage p then (s.keepAt p v).when late fun st => st.err p.base .late 0x024 else s
      s1.commitReach p 0x024 due

/-- COMMIT_AT of KIND 1. -/
def State.commitAtTime (s : State) (req page : Nat) (v : W32) : State :=
  match s.timeTarget v with
  | some t => s.commitAt req page (withFld v 31 30 1) (.atTime t) false
  | none => s.commitAt req page (withFld v 31 30 1) .nextApply true

/-- COMMIT_AT of KIND 2. -/
def State.commitAtAngle (s : State) (req page : Nat) (v : W32) : State := s.commitAt req page (withFld v 31 30 2) (s.angleTarget v) false

/-- A pending set of page `p` is withdrawn; one that has taken effect already leaves nothing to withdraw (R599). -/
def State.commitCancel (s : State) (p : PageRef) : State :=
  let s1 := (s.stripCmds p.base).dropCommit p.base
  match p.kind with
  | .axl => (s1.setServo p.inst { s1.servo p.inst with converted := false }).wrBit (AXL_LOOP_STAT p.inst) 3 false
  | .ldc => s1.setLdc p.inst { s1.ldc p.inst with arrived := none, startAt := if (s1.ldc p.inst).running then (s1.ldc p.inst).startAt else none }
  | _ => s1

/-- A CANCEL reaches its page. -/
def State.cancelReach (s : State) (p : PageRef) (v : W32) : State :=
  if !s.commitHeard p then s
  else if s.standbyPage p then s.err p.base .state 0x024
  else if !hasShadow p.kind then s.err p.base .commit 0x024
  else (s.commitCancel p).keepAt p (withFld v 31 30 0)

/-- COMMIT_AT of KIND 0. -/
def State.commitAtCancel (s : State) (req page : Nat) (v : W32) : State :=
  match pageOf page with
  | none => s
  | some p => if p.field then s.postWrite req (p.base + 0x024) (withFld v 31 30 0) none else s.cancelReach p v

/-- A pending set that is due takes effect at the apply point of its page. The set of an AXL page must have been converted; a channel's set applies at the reload points of its timer (R185, R279). -/
def State.commitApply (s : State) (page : Nat) : State :=
  match pageOf page with
  | none => s
  | some p =>
    match s.commitOf p.base with
    | none => s
    | some k =>
      if !s.commitDue p k then s
      else
        match p.kind with
        | .axl => if (s.servo p.inst).converted then s.pageApply p k else s
        | .ldc => s
        | _ => s.pageApply p k

/-- Every pending set of a page that applies at once and is due takes effect, in the order of acceptance. -/
def State.commitsDue (s : State) : State :=
  s.each (s.commits.map fun k => k.page) fun page st =>
    match pageOf page with
    | none => st
    | some p => st.applyNow p

/-- The address of the page with number `pg`. -/
def pageAddr (pg : BitVec 12) : Nat := pg.toNat * 0x1000

/-- The meaning of COMMIT_WRITE. -/
def execCommitWrite (r : Requester) (pg : BitVec 12) (v : W32) (s : State) : Host.Outcome State Fault Refusal := .next (s.commitWrite (reqNum r) (pageAddr pg) v)
/-- The meaning of COMMIT_AT_TIME; `target` is TARGET. -/
def execCommitAtTime (r : Requester) (pg : BitVec 12) (target : BitVec 30) (s : State) : Host.Outcome State Fault Refusal :=
  .next (s.commitAtTime (reqNum r) (pageAddr pg) (BitVec.ofNat 32 target.toNat))
/-- The meaning of COMMIT_AT_ANGLE. -/
def execCommitAtAngle (r : Requester) (pg : BitVec 12) (target : BitVec 30) (s : State) : Host.Outcome State Fault Refusal :=
  .next (s.commitAtAngle (reqNum r) (pageAddr pg) (BitVec.ofNat 32 target.toNat))
/-- The meaning of COMMIT_AT_CANCEL. -/
def execCommitAtCancel (r : Requester) (pg : BitVec 12) (target : BitVec 30) (s : State) : Host.Outcome State Fault Refusal :=
  .next (s.commitAtCancel (reqNum r) (pageAddr pg) (BitVec.ofNat 32 target.toNat))
/-- The meaning of COMMIT_APPLY: the apply point of the page. -/
def execCommitApply (pg : BitVec 12) (s : State) : Host.Outcome State Fault Refusal := .next (s.commitApply (pageAddr pg))

end Sys2Proof.Machine
end

