-- ==== Sys2Proof/Machine/Latch.lean ====
section
/-! DEFINITION. The latch inputs, their records and the latch windows (R83 to R87, R111, R145, R644). -/

namespace Sys2Proof.Machine

def State.fliPin (s : State) (k : Nat) : FliPin := tabGet FliPin.reset k s.fliPins
def State.setFliPin (s : State) (k : Nat) (x : FliPin) : State := { s with fliPins := tabSet k x s.fliPins }

/-- The latch window `w` of slot `n`. -/
def State.latWin (s : State) (n w : Nat) : LatWin := tabGet LatWin.reset (2 * n + w) s.latWins
def State.setLatWin (s : State) (n w : Nat) (x : LatWin) : State := { s with latWins := tabSet (2 * n + w) x s.latWins }

/-- The registers of window `w` of slot `n`: window 1 repeats window 0 at + 0x030 (R89). -/
def winReg (n w o : Nat) : Nat := axcPage n + 0x040 + 0x30 * w + o
def State.winCtl (s : State) (n w : Nat) : W32 := s.rd (winReg n w 0)

/-- The modulo period of the window's source, 32.32: one turn for an axis without one (R86). -/
def State.winPeriod (s : State) (n w : Nat) : Int :=
  if bitOf (s.winCtl n w) 1 then (if s.act64 (AXP_MOD_LO n) = 0 then 4294967296 else s.act64 (AXP_MOD_LO n)) else 4294967296

/-- A source position (32.32) in units of 2^-32 of the window's period. -/
def State.winScale (s : State) (n w : Nat) (x : Int) : Int := x * 4294967296 / s.winPeriod n w

/-- The filter time of the window's pin, ticks (R83): an edge that has happened this long ago has been accepted. -/
def State.winFilt (s : State) (n w : Nat) : Nat := 16 * s.fld (ASC_FLI_CTL (fldOf (s.winCtl n w) 7 4)) 11 4

/-- The window's source at the instant up to which every edge of its pin is known, the filter time ago: the line angle, or the actual position between its last two samples (R83, R87). -/
def State.winNow (s : State) (n w : Nat) : Int :=
  let t := s.dt - s.winFilt n w
  let x := s.axis n
  if bitOf (s.winCtl n w) 1 then s.winScale n w (q32 (if 2 ≤ x.nSamples ∧ x.act0.t ≤ t ∧ t < x.act1.t then (extrapolate x.act1 x.act0 t).p else x.act1.p))
  else signedOf 64 (s.angleAt t)

/-- A pass of the window has ended without an accepted mark (R87). -/
def State.noMark (s : State) (n w : Nat) : State := (s.count (winReg n w 0x14) 31 16 (axcPage n) 6).raise (axcPage n) (3 * w + 2)

/-- The source of a MODE 0 window has come to `x`: a crossing of END since the last look ends the pass (R87). -/
def State.winAdvance (s : State) (n w : Nat) (x0 : Int) : State :=
  let q := s.latWin n w
  let e : Int := (s.rd (winReg n w 8)).toNat
  match q.last with
  | none => s.setLatWin n w { q with last := some x0 }
  | some l =>
    let x := if bitOf (s.winCtl n w) 1 then x0 else l + signedOf 64 (wrapTo 64 (x0 - l))
    if (l - e) / 4294967296 = (x - e) / 4294967296 then s.setLatWin n w { q with last := some x }
    else (s.setLatWin n w { q with last := some x, got := false }).when (!q.got) fun st => st.noMark n w

/-- A fraction lies in [START, END), which may span the cycle boundary; equal bounds cover the whole period (R86). -/
def State.inRange (s : State) (n w : Nat) (f : Nat) : Bool :=
  let a := (s.rd (winReg n w 4)).toNat
  let b := (s.rd (winReg n w 8)).toNat
  if a = b then true else if a < b then decide (a ≤ f) && decide (f < b) else decide (a ≤ f) || decide (f < b)

/-- The pass of a MODE 1 window that holds instant `t`: its place and whether it has accepted a mark (R86). -/
def passAt (t : Nat) : List (Nat × Option Nat × Bool) → Nat → Option (Nat × Bool)
  | [], _ => none
  | (o, c, got) :: r, i =>
    let before : Bool := match c with
      | none => true
      | some c => decide (t < c)
    if decide (o ≤ t) && before then some (i, got) else passAt t r (i + 1)

/-- A record that waits for its later sample, taken from pin `k` before instant `t`. -/
def State.waiting (s : State) (k t : Nat) : Bool := s.fliRecs.any fun r => decide (r.pin = k) && r.seq.isSome && decide (r.t < t)

/-- The closed passes of a MODE 1 window are judged once every edge before their close has left its filter and its record waits no more (R83, R84, R87). -/
def State.passJudge (s : State) (n w : Nat) : State :=
  let q := s.latWin n w
  let pin := fldOf (s.winCtl n w) 7 4
  let due (p : Nat × Option Nat × Bool) : Bool := match p.2.1 with
    | none => false
    | some c => !s.waiting pin c && decide (c + s.winFilt n w ≤ s.dt)
  let bad := (q.passes.filter fun p => due p && !p.2.2).length
  (s.setLatWin n w { q with passes := q.passes.filter fun p => !due p }).each (List.range bad) fun _ st => st.noMark n w

/-- LATCH_OPEN and LATCH_CLOSE of a MODE 1 window (R86, R87): an open of an open window and a close of a closed one are ignored. -/
def State.winOpen (s : State) (n w : Nat) : State :=
  let c := s.winCtl n w
  if bitOf c 0 && bitOf c 2 && !bitOf c 8 then
    (s.wr (winReg n w 0) (withBit c 8 true)).setLatWin n w { s.latWin n w with passes := (s.latWin n w).passes ++ [(s.dt, none, false)] }
  else s
def State.winClose (s : State) (n w : Nat) : State :=
  let c := s.winCtl n w
  if bitOf c 0 && bitOf c 2 && bitOf c 8 then
    let q := s.latWin n w
    let ps := q.passes.map fun p => if p.2.1.isNone then (p.1, some s.dt, p.2.2) else p
    ((s.wr (winReg n w 0) (withBit c 8 false)).setLatWin n w { q with passes := ps }).passJudge n w
  else s

/-- A write of WIN_CTL: refused with SRC 1 and MODE 0 on an axis without a modulo period; the window starts afresh (R86, R89). -/
def State.winCtlWrite (s : State) (n w : Nat) (v : W32) : State :=
  if bitOf v 1 ∧ ¬ bitOf v 2 ∧ s.act64 (AXP_MOD_LO n) = 0 then s.err (axcPage n) .value (0x040 + 0x30 * w)
  else
    let old := s.winCtl n w
    let keepOpen := bitOf old 0 && bitOf old 2 && bitOf v 0 && bitOf v 2
    (s.wr (winReg n w 0) (withBit (v &&& 0xFF) 8 (keepOpen && bitOf old 8))).setLatWin n w (if keepOpen then s.latWin n w else LatWin.reset)

/-- A complete mark at a window (R86, R87): its device time, line angle (32.32), position (32.32) and the source's own position. Answers 1 accepted, 2 rejected. -/
def State.winMark (s0 : State) (n w t line : Nat) (pos own : Int) : Nat × State :=
  let c := s0.winCtl n w
  let x : Int := if bitOf c 1 then s0.winScale n w own else signedOf 64 line
  let s := if bitOf c 2 then s0 else s0.winAdvance n w x
  let q := s.latWin n w
  let f := (x % 4294967296).toNat
  let pass := passAt t q.passes 0
  let inside := if bitOf c 2 then pass.isSome else s.inRange n w f
  let got := if bitOf c 2 then (match pass with | some (_, g) => g | none => false) else q.got
  if inside && !(bitOf c 3 && got) then
    let e := signedOf 32 (wrapTo 32 ((f : Int) - (s.rd (winReg n w 0xC)).toNat))
    let i := match pass with | some (i, _) => i | none => 0
    let ps := q.passes.mapIdx fun j p => if j = i then (p.1, p.2.1, true) else p
    let s1 := s.setLatWin n w (if bitOf c 2 then { q with passes := ps } else { q with got := true })
    let s2 := ((s1.wr64 (winReg n w 0x18) t).wr64 (winReg n w 0x20) line).wr64 (winReg n w 0x28) (wrapTo 64 pos)
    let s3 := (s2.wr (winReg n w 0x10) (w32 e)).raise (axcPage n) (3 * w)
    (1, s3.autoCorrection n w e)
  else (2, (s.count (winReg n w 0x14) 15 0 (axcPage n) 6).raise (axcPage n) (3 * w + 1))

/-! ### Records -/

/-- The position of slot `n` at instant `t` (R84): interpolated between its two samples; the later one alone when none precedes; the latest before, once the limit has passed. Answers the position (32.32) and POS_EST; none while the later sample is awaited. -/
def State.posAt (s : State) (n t : Nat) : Option (Int × Bool) :=
  let x := s.axis n
  if x.nSamples ≠ 0 ∧ t ≤ x.act1.t then
    (if 2 ≤ x.nSamples ∧ x.act0.t ≤ t then some (q32 (extrapolate x.act1 x.act0 t).p, false) else some (q32 x.act1.p, true))
  else if t + s.sampleTicks n + 8000 ≤ s.dt then some (if x.nSamples = 0 then 0 else q32 x.act1.p, true)
  else none

/-- The windows that take edges of pin `k`. -/
def State.winsOf (s : State) (k : Nat) : List (Nat × Nat) :=
  (s.latWins.map fun e => (e.1 / 2, e.1 % 2)).filter fun e => bitOf (s.winCtl e.1 e.2) 0 && fldOf (s.winCtl e.1 e.2) 7 4 == k

/-- What the windows of pin `r.pin` make of a mark: the WIN byte, of the windows of the record's axis (R85, R87). -/
def State.markWins (s : State) (r : FliRec) (pos : Int) : Nat × State :=
  (s.winsOf r.pin).foldl
    (fun acc e =>
      let own := if e.1 = r.slot then pos else q32 (extrapolate (acc.2.axis e.1).act1 (acc.2.axis e.1).act0 r.t).p
      let (k, st) := acc.2.winMark e.1 e.2 r.t r.line pos own
      let b := if e.1 ≠ r.slot then acc.1 else if k = 1 then 1 + 2 * e.2 else if acc.1 % 2 = 1 then acc.1 else 4 + 2 * e.2
      (b, st))
    (0, s)

/-- The eight words of a latch record (R85). -/
def latchWords (r : FliRec) (pos : Int) (win seq : Nat) : List W32 :=
  let p := wrapTo 64 pos
  [BitVec.ofNat 32 r.t, BitVec.ofNat 32 (r.t / 2 ^ 32), BitVec.ofNat 32 r.line, BitVec.ofNat 32 (r.line / 2 ^ 32), BitVec.ofNat 32 p,
    BitVec.ofNat 32 (p / 2 ^ 32), BitVec.ofNat 32 (r.pin + (if r.fall then 16 else 0) + win * 256 + seq % 65536 * 65536), 0]

/-- Slots whose homing takes an edge of pin `k`: SWITCH methods its edge to inactive, MARK a selected edge (R145, R644). -/
def State.homesOn (s : State) (k : Nat) (switch : Bool) : List Nat :=
  (s.axes.map (·.1)).filter fun n =>
    decide ((s.axis n).kind = .home) && s.homePin n == k && s.fliOf k n &&
      (let m := s.homeMethod n
       if switch then !s.actBit (AXP_HOME_CTL n) 4 && (m == 2 || m == 3 || m == 6 || m == 7) else m == 10 || m == 11)

/-- A record is complete at position `pos`: homing references, windows, the silo (R84 to R87, R145). -/
def State.recComplete (s : State) (r : FliRec) (pos : Int) (est : Bool) : State :=
  let toTurns := q64 pos
  let homes := (s.homesOn r.pin true).filter (fun n => r.fall != s.actBit (AXP_HOME_CTL n) 9) ++ (if r.seq.isSome then s.homesOn r.pin false else [])
  let s1 := s.each (homes.filter fun n => n == r.slot) fun n st => st.homeCapture n false r.t toTurns
  match r.seq with
  | none => s1
  | some q =>
    let (b, s2) := s1.markWins r pos
    let s3 := if r.toSilo then (s2.siloPushEntry (64 + r.pin) (latchWords r pos (b + (if est then 8 else 0)) q)).2 else s2
    s3.each (s3.winsOf r.pin) fun e st => st.passJudge e.1 e.2

/-- Complete the oldest record that satisfies `p`, if its position is known. -/
def State.recStep (s : State) (p : FliRec → Bool) : State :=
  match s.fliRecs.find? p with
  | none => s
  | some r =>
    match s.posAt r.slot r.t with
    | none => s
    | some (pos, est) => (({ s with fliRecs := s.fliRecs.erase r } : State)).recComplete r pos est

/-- Every record that satisfies `p` and whose position is known, oldest first. -/
def State.recsComplete (s : State) (p : FliRec → Bool) : State := s.each (List.range (s.fliRecs.filter p).length) fun _ st => st.recStep p

/-- The records of slot `n` at one of its samples. -/
def State.latchSlot (s : State) (n : Nat) : State := s.recsComplete fun r => r.slot == n

/-- The windows' sources at an LTB step (the line) or at a sample of slot `n` (its own position): passes end where END is crossed (R87); closed passes of MODE 1 are judged. -/
def State.winLook (s0 : State) (own : Option Nat) : State :=
  let s := s0.each ((s0.latWins.filter fun e => !e.2.passes.isEmpty).map (·.1)) fun i st => st.passJudge (i / 2) (i % 2)
  s.each ((s.latWins.map fun e => (e.1 / 2, e.1 % 2)).filter fun e =>
      let c := s.winCtl e.1 e.2
      bitOf c 0 && !bitOf c 2 && (match own with | none => !bitOf c 1 | some n => bitOf c 1 && n == e.1)) fun e st =>
    if st.waiting (fldOf (st.winCtl e.1 e.2) 7 4) (st.dt - st.winFilt e.1 e.2) then st else st.winAdvance e.1 e.2 (st.winNow e.1 e.2)

/-- EDGE selects this direction (R83). -/
def selects (ctl : W32) (rising : Bool) : Bool := bitOf ctl (if rising then 1 else 2)

/-- A filtered edge at pin `k`: the ball has been at level `ball` for the whole filter time (R83 to R85, R453, R644). DESIGN CHOICE (log 42): with FLI_CTL.EN 0 the pin is not looked at and FLI_LVL keeps its level; R83 does not say. -/
def State.fliEdge (s : State) (k : Nat) (ball : Bool) : State :=
  let c := s.rd (ASC_FLI_CTL k)
  let lvl := ball != bitOf c 3
  if !bitOf c 0 || lvl == s.bit ASC_FLI_LVL k then s
  else
    let s1 := s.wrBit ASC_FLI_LVL k lvl
    let filt := 16 * fldOf c 11 4
    let t := s.dt - filt
    let x := s1.fliPin k
    let soon := match x.last with
      | none => false
      | some l => decide (t < l + 64 + filt)
    let sel := selects c lvl
    if soon || !(sel || !(s1.homesOn k true).isEmpty) then s1
    else
      let seq := if sel then (x.seq + 1) % 65536 else x.seq
      let r : FliRec := ⟨k, !lvl, t, s1.angleAt t, if sel then some seq else none, fldOf c 18 13, bitOf c 12⟩
      let s2 := (({ s1 with fliRecs := s1.fliRecs ++ [r] } : State).setFliPin k ⟨some t, seq⟩).when sel fun st => st.acqPin k t
      if (s2.axis r.slot).nSamples ≠ 0 ∧ t ≤ (s2.axis r.slot).act1.t then s2.recsComplete (fun q => q.pin == k) else s2

/-- A write of FLI_CTL of pin `k`: SEQ and the gap start afresh when the pin is enabled (R83, R85). -/
def State.fliCtlWrite (s : State) (k : Nat) (v : W32) : State :=
  let was := s.bit (ASC_FLI_CTL k) 0
  let s1 := s.wr (ASC_FLI_CTL k) (v &&& 0x7FFFF)
  let s2 := if bitOf v 3 = s.bit (ASC_FLI_CTL k) 3 then s1 else s1.wrBit ASC_FLI_LVL k (!s1.bit ASC_FLI_LVL k)
  if bitOf v 0 && !was then s2.setFliPin k FliPin.reset else s2

/-- The meaning of FLI_EDGE: pin `k`'s ball has come to level `ball`. -/
def execFliEdge (k : Fin 16) (ball : Bool) (s : State) : Host.Outcome State Fault Refusal := .next (s.fliEdge k.val ball)

/-- The meaning of LATCH_RECORD_COMPLETE: the records of pin `k` whose position is known (R84). -/
def execLatchRecordComplete (k : Fin 16) (s : State) : Host.Outcome State Fault Refusal := .next (s.recsComplete fun r => r.pin == k.val)

end Sys2Proof.Machine
end

