-- ==== Sys2Proof/Machine/Asc.lean ====
section
/-! DEFINITION. The angle scheduler: lanes, entries, arms, prediction, firing slots, actions (R67 to R78, R643). -/

namespace Sys2Proof.Machine

/-- The address of word `w` of entry `e` (R67). -/
def entryAddr (e w : Nat) : Nat := 0x027F0000 + 16 * e + 4 * w

/-! ### Lanes -/

/-- The enabled lane whose window holds entry `e` (R68, R72). -/
def State.laneOf (s : State) (e : Nat) : Option Nat :=
  (List.range 16).find? fun k =>
    let b := s.actFld (ASC_LANE_WIN k) 11 0
    s.actBit (ASC_LANE_CFG k) 0 && decide (b ≤ e) && decide (e < b + s.actFld (ASC_LANE_WIN k) 28 16)

def State.laneSrc (s : State) (k : Nat) : Nat := s.actFld (ASC_LANE_CFG k) 2 1
def State.laneAxis (s : State) (k : Nat) : Nat := s.actFld (ASC_LANE_CFG k) 13 8

/-- The modulo period of lane `k`, 32.32; 0 for none (R68). -/
def State.lanePeriod (s : State) (k : Nat) : Nat := if s.laneSrc k = 0 then 4294967296 else s.act64 (AXP_MOD_LO (s.laneAxis k))

/-- The source of lane `k` now, as the cubic that R45 predicts from. -/
def State.laneState (s : State) (k : Nat) : LineState :=
  let n := s.laneAxis k
  match s.laneSrc k with
  | 0 => s.lineNow
  | 1 => ⟨s.dt, s.cmdKin n s.dt, if (s.gear n).phase = .idle then (s.axis n).plan.jerkAt s.dt else 0⟩
  | _ => ⟨s.dt, extrapolate (s.axis n).act1 (s.axis n).act0 s.dt, 0⟩

/-! ### Entries -/

/-- The target as stored, 32.32 (R70). -/
def State.entTarget (s : State) (e : Nat) : Int := signedOf 64 (s.memNat (entryAddr e 0) 8)

def AscEnt.action (x : AscEnt) : Nat := fldOf x.w2 3 0
def AscEnt.dir (x : AscEnt) : Nat := fldOf x.w2 5 4
def AscEnt.nextPass (x : AscEnt) : Bool := bitOf x.w2 6
def AscEnt.recur (x : AscEnt) : Bool := bitOf x.w2 7
def AscEnt.arg (x : AscEnt) : Nat := fldOf x.w2 31 16

def State.ent (s : State) (e : Nat) : Option AscEnt := (s.ascEnts.find? fun x => x.1 == e).map (·.2)
def State.setEnt (s : State) (e : Nat) (x : AscEnt) : State := { s with ascEnts := tabSet e x s.ascEnts }

/-- Set bits of word 2 of an entry: ARMED 8, LATE 9, FIRED 10, OBS 11, REFUSED 12. -/
def State.entBit (s : State) (e b : Nat) (v : Bool) : State := s.putWord (entryAddr e 2) (withBit (s.memWord (entryAddr e 2)) b v)

/-- LANE_STAT of lane `k` and STATUS of the page: entries armed, observing, slots held (R88). -/
def State.showLane (s : State) (k : Nat) : State :=
  let l := s.ascEnts.filter fun x => x.2.lane == k
  let s1 := (s.wrFld (ASC_LANE_STAT k) 12 0 l.length).wrBit (ASC_LANE_STAT k) 16 (l.any fun x => x.2.obs)
  (s1.wrFld ASC_STATUS 12 0 s.ascEnts.length).wrFld ASC_STATUS 24 16 (s.ascEnts.filter fun x => x.2.slot.isSome).length

/-- Largest ARG of each action (R71). -/
def argMax (action : Nat) : Nat :=
  match action with
  | 5 => 63
  | 6 => 63
  | 7 => 127
  | 8 => 127
  | 9 => 3
  | 10 => 3
  | 12 => 65535
  | 13 => 65535
  | _ => 15

/-- The refusals of R72 for an arm with word 2 `v` of entry `e`. -/
def State.armInvalid (s : State) (e : Nat) (v : W32) : Bool :=
  let a := fldOf v 3 0
  match s.laneOf e with
  | none => true
  | some k => a == 0 || decide (14 ≤ a) || fldOf v 5 4 == 3 || decide (argMax a < fldOf v 31 16) || (bitOf v 7 && s.lanePeriod k == 0)

/-- Remove entry `e` from the armed entries; ARMED reads 0 (R70). -/
def State.entDisarm (s : State) (e : Nat) : State :=
  match s.ent e with
  | none => s.entBit e 8 false
  | some x => (({ s with ascEnts := tabDrop (fun j => j == e) s.ascEnts } : State).entBit e 8 false).showLane x.lane

/-! ### Actions (R71) -/

/-- The requester number that a scheduler's COMMIT bears, beside those of R601. -/
def schedReq : Nat := 14

/-- Execute an action at this instant (R71, R643): its argument, its parameter, its lane, its entry. DESIGN CHOICE (log 42): of a cam action's PARAM above 255 the low 8 bits name the table, and a COMMIT action's PARAM
that is no page address names the page it lies in; R71 gives neither case a treatment. -/
def State.ascAct (s : State) (a arg : Nat) (param : W32) (lane e : Nat) : State :=
  match a with
  | 1 => s.fcoDrive arg true
  | 2 => s.fcoDrive arg false
  | 3 => s.fcoDrive arg (!s.fcoLevel arg)
  | 4 => s.fcoPulse arg
  | 5 => s.camStart arg (param.toNat % 256)
  | 6 => s.gearSwitch arg (param.toNat % 256)
  | 7 => s.winOpen (arg % 64) (arg / 64)
  | 8 => s.winClose (arg % 64) (arg / 64)
  | 9 => s.acqArm arg
  | 10 => s.acqSched arg s.dt
  | 11 => s.sheafTrigger arg 1 e s.dt
  | 12 => s.raise ascPage lane
  | 13 => s.commitWrite schedReq (param.toNat / 0x1000 * 0x1000) 1
  | _ => s

/-- The entry fires at this instant: its action, its counters, its status bits; a RECUR entry gets one modulo period added to its target and stays armed, another ends (R70, R74, R75, R643). What follows for the RECUR
entry is no arm, so an outcome BEHIND leaves it waiting (R74, log 42). -/
def State.ascFireEnt (s : State) (e : Nat) (x : AscEnt) (late : Bool) : State :=
  let s1 := s.wrapUp (ASC_LANE_CNT x.lane) 31 16
  let s2 := ((s1.entBit e 10 true).entBit e 9 late).entBit e 11 x.obs
  let s3 := s2.when late fun st => (st.count (ASC_LANE_CNT x.lane) 15 0 ascPage 20).raise ascPage 16
  let s4 := s3.ascAct x.action x.arg (s3.memWord (entryAddr e 3)) x.lane e
  if x.off ∨ !x.recur then s4.entDisarm e
  else
    let t := s4.entTarget e + (s4.lanePeriod x.lane : Int)
    ((s4.putNat (entryAddr e 0) 8 (wrapTo 64 t)).setEnt e { x with slot := none, late := false, frozen := false, first := false, obs := false, full := false, dist := none }).showLane x.lane

/-! ### Evaluation (R45, R74 to R78) -/

/-- The lead of an entry's pin, in ticks (R79). -/
def State.entLead (s : State) (x : AscEnt) : Nat :=
  let on := s.fld (ASC_FCO_LEAD_ACT (x.arg % 16)) 23 0
  let off := s.fld (ASC_FCO_LEAD_INACT (x.arg % 16)) 23 0
  match x.action with
  | 1 => on
  | 2 => off
  | 3 => if s.fcoLevel (x.arg % 16) then off else on
  | 4 => on
  | _ => 0

/-- The horizon of an entry's evaluation (R74). -/
def State.entHorizon (s : State) (x : AscEnt) : Nat :=
  let h := (s.rd ASC_HORIZON).toNat
  (if s.lineSrc = 3 then max h s.ring.cycT else h) + s.entLead x

/-- The direction of a crossing is allowed (R70). -/
def AscEnt.allows (x : AscEnt) (up : Bool) : Bool := if up then x.dir != 2 else x.dir != 1

/-- A slot at `at0`, or 200 ns after the evaluation, LATE, where that is nearer than 200 ns (R74, R76); a full table makes the entry wait (R78). -/
def State.entSlot (s : State) (e : Nat) (x : AscEnt) (at0 : Int) : State :=
  let near := decide (at0 < (s.dt : Int) + 800)
  if x.slot.isNone ∧ 256 ≤ (s.ascEnts.filter fun y => y.2.slot.isSome).length then
    (s.setEnt e { x with full := true }).when (!x.full) fun st => (st.wrBit ASC_STATUS 28 true).raise ascPage 17
  else s.setEnt e { x with slot := some (if near then s.dt + 800 else at0.toNat), late := near, full := false }

/-- The target moved by whole periods until it lies ahead of a source at distance `d` (R75). -/
def aheadBy (d p : Int) (up : Bool) : Int := if up then ((-d) / p + 1) * p else -((d / p + 1) * p)

/-- Entry `e` is to fire at once: in this tick, in its place among the entries that act in it (R643). -/
def State.ascNow (s : State) (e : Nat) (x : AscEnt) (late : Bool) : State := s.setEnt e { x with slot := some s.dt, late := late, frozen := true }

/-- One evaluation of entry `e` (R74, R75): its first one judges BEHIND as an arm does. -/
def State.ascEvalOnce (s : State) (e : Nat) : State :=
  match s.ent e with
  | none => s
  | some x =>
    let fixed := x.frozen || (match x.slot with | none => false | some t => decide (t ≤ s.dt + 400))
    if fixed || !s.bit ASC_CTL 0 then s
    else
      let l := s.laneState x.lane
      let d := q64 (signedOf 64 (wrapTo 64 (s.entTarget e - q32 l.k.p))) - l.k.p % 4294967296
      let up := decide (0 < l.k.v)
      let o := predict l (l.k.p + d) (s.entHorizon x) s.predVmin
      let s0 := s.wrFld (ASC_LANE_STAT x.lane) 15 13 o.code
      let (hitUp, hitDown) := match x.dist with
        | none => (false, false)
        | some q => (decide (0 < q) && decide (d ≤ 0), decide (q < 0) && decide (0 ≤ d))
      let crossed := (hitUp && x.allows true) || (hitDown && x.allows false)
      let y : AscEnt := { x with first := false, dist := some d, full := x.full && o.code == 0 }
      let wait : AscEnt := { y with slot := none, obs := false }
      if (x.obs || o.code == 4) && crossed then s0.ascNow e { wait with obs := true } false
      else
        match o with
        | .ahead t => if x.allows up then s0.entSlot e { y with obs := false } ((t : Int) - s.entLead x) else s0.setEnt e wait
        | .far => s0.setEnt e wait
        | .notReached => s0.setEnt e wait
        | .unpredicted => s0.setEnt e { wait with obs := true }
        | .behind =>
          let p : Int := q64 (s.lanePeriod x.lane)
          if x.slot.isSome then s0.ascNow e wait true
          else if !x.first then s0.setEnt e wait
          else if !x.nextPass then s0.ascNow e wait true
          else if p = 0 then s0.setEnt e wait
          else
            let tgt := s0.entTarget e + q32 (aheadBy d p up)
            (s0.putNat (entryAddr e 0) 8 (wrapTo 64 tgt)).setEnt e { wait with first := true, dist := none }

/-- Evaluations of entry `e` until it has been judged: a re-aimed entry is evaluated again at once, up to a bound; what is left waits for the next refinement (R75, R643). -/
def State.ascEvalF : Nat → State → Nat → State
  | 0, s, _ => s
  | k + 1, s, e =>
    let s1 := s.ascEvalOnce e
    match s1.ent e with
    | some y => if y.first && s1.bit ASC_CTL 0 then State.ascEvalF k s1 e else s1
    | none => s1

/-- Evaluate entry `e` and show its lane; what it decides to fire at once is left to `State.ascSettle`. -/
def State.ascEval (s : State) (e : Nat) : State :=
  let s1 := State.ascEvalF 16 s e
  match s.ent e with
  | none => s1
  | some x => s1.showLane x.lane

/-- ACTION is a cam action. -/
def AscEnt.cam (x : AscEnt) : Bool := x.action == 5 || x.action == 6

/-- Of two due slots, `b` found first, whether `e` fires before it: the earlier one; in one tick a cam action after every other action, so that a COMMIT action applies first (R109), then the lowest entry (R643). -/
def firesBefore (e b : Nat × AscEnt) : Bool :=
  let te := e.2.slot.getD 0
  let tb := b.2.slot.getD 0
  decide (te < tb) || (te == tb && (if e.2.cam = b.2.cam then decide (e.1 < b.1) else b.2.cam))

/-- The slot that fires first among those that are due; none with CTL.EN 0 (R88, R109, R643). -/
def State.ascDue (s : State) : Option (Nat × AscEnt) :=
  if !s.bit ASC_CTL 0 then none
  else
    (s.ascEnts.filter fun e => match e.2.slot with | none => false | some t => decide (t ≤ s.dt)).foldl
      (fun best e =>
        match best with
        | none => some e
        | some b => if firesBefore e b then some e else some b)
      none

/-- The due slot fires (R74, R643), a cam action after the COMMITs of this tick (R96, R109); its entry is evaluated again at once if it recurs, and entries that wait for a slot may take it (R78). -/
def State.ascFire (s : State) : State :=
  match s.ascDue with
  | none => s
  | some (e, x) =>
    let s1 := (s.when x.cam fun st => st.commitsDue).ascFireEnt e { x with slot := none } x.late
    let s2 := s1.ascEval e
    (s2.each ((s2.ascEnts.filter fun y => y.2.full).map (·.1)) fun j st => st.ascEval j).showLane x.lane

/-- Every slot that is due fires: what evaluations of this tick fire at once acts in ascending entry number (R643). -/
def State.ascSettle (s : State) : State := s.each s.ascEnts fun _ st => st.ascFire

/-- CTL.EN becomes 0: the entries stay armed without firing and give up their slots (R88). -/
def State.ascHold (s : State) : State :=
  let s1 : State := { s with ascEnts := s.ascEnts.map fun e => (e.1, { e.2 with slot := none, late := false, frozen := false, obs := false, full := false, dist := none }) }
  (s1.each ((s.ascEnts.filter fun e => e.2.off).map (·.1)) fun e st => st.entDisarm e).each (List.range 16) fun k st => st.showLane k

/-- A write of CTL (R88). -/
def State.ascCtlWrite (s : State) (v : W32) : State := (s.wr ASC_CTL (v &&& 1)).when (!bitOf v 0) State.ascHold

/-- Refine the entries whose lane satisfies `p`, in ascending entry number; `observe` refines only what is observed or new (a line lane of a follower, R46, R74). -/
def State.ascRefine (s : State) (p : Nat → Bool) (observe : Bool) : State :=
  (s.each ((s.ascEnts.filter fun x => p x.2.lane && (!observe || x.2.obs || x.2.first)).map (·.1)) fun e st => st.ascEval e).ascSettle

/-- The refinement of the line lanes at an LTB step (R46): a follower's line has a new state there only during its own stop after a line loss (R49). -/
def State.ascLine (s : State) : State := s.ascRefine (fun k => s.laneSrc k == 0) (s.lineSrc == 3 && !s.ltb.ownStop)

/-- The refinement of the line lanes of a follower at a new line state (R46). -/
def State.ascLineState (s : State) : State := s.ascRefine (fun k => s.laneSrc k == 0) false

/-- The refinement of the lanes of axis `n` at one of its samples (R74). -/
def State.ascAxis (s : State) (n : Nat) : State := s.ascRefine (fun k => s.laneSrc k != 0 && s.laneAxis k == n) false

/-! ### Arms and disarms -/

/-- An arm of entry `e` takes effect (R70, R72, R73). An armed entry is armed anew; one whose slot is frozen fires first, and its arm waits for the next step (R77, log 42). DESIGN CHOICE (log 42): ERR_CAP.WORD of a refused arm, and of an
ignored write to an entry, is that of TABLE_BASE (0x04C), since an entry has no offset in the ASC page. -/
def State.ascArmOne (s : State) (e : Nat) : State :=
  let a := entryAddr e 2
  let v := withFld (s.memWord a) 12 9 0
  if (s.ent e).any (·.frozen) then { s with ascArms := s.ascArms ++ [e] }
  else if s.armInvalid e v then (((s.entDisarm e).putWord a (withBit (withBit v 8 false) 12 true)).raise ascPage 19).err ascPage .value 0x04C
  else
    let k := (s.laneOf e).getD 0
    ((s.putWord a (withBit v 8 true)).setEnt e ⟨k, v, none, false, false, true, false, false, false, none⟩).ascEval e

/-- The arms taken at an LTB step boundary: the first 64, in write order (R73). -/
def State.ascTake (s : State) : State :=
  if s.dt % 4096 ≠ 0 ∨ s.ascTook = some s.dt then s
  else
    let now := s.ascArms.take 64
    (({ s with ascArms := s.ascArms.drop 64, ascTook := some s.dt } : State).each now fun e st => st.ascArmOne e).ascSettle

/-- A disarm of entry `e` (R70, R77): a frozen slot fires first. -/
def State.ascDisarm (s : State) (e : Nat) : State :=
  let s0 : State := { s with ascArms := s.ascArms.filter fun j => j != e }
  match s0.ent e with
  | none => s0
  | some x =>
    let fixed := x.frozen || (match x.slot with | none => false | some t => decide (t ≤ s.dt + 400))
    if fixed then ((s0.setEnt e { x with off := true, frozen := true }).showLane x.lane).raise ascPage 18
    else s0.entDisarm e

/-- A 32-bit write to word `w` of entry `e` (R70, R72): words 0, 1 and 3 of an armed entry are not written; word 2 arms or disarms; its status bits ignore software. -/
def State.entryWrite (s : State) (e w : Nat) (v : W32) : State :=
  let a := entryAddr e w
  if w = 2 then
    let s1 := s.putWord a (withFld (withFld v 15 13 0) 12 8 (fldOf (s.memWord a) 12 8))
    if bitOf v 8 then (if s.ascArms.contains e then s1 else { s1 with ascArms := s1.ascArms ++ [e] })
    else s1.ascDisarm e
  else if (s.ent e).isSome then s.err ascPage .state 0x04C
  else s.putWord a v

/-! ### Slots -/

/-- The slots whose instants lie 100 ns ahead or less freeze (R77). -/
def State.slotFreeze (s : State) : State :=
  { s with ascEnts := s.ascEnts.map fun e =>
      (e.1, match e.2.slot with
        | none => e.2
        | some t => if t ≤ s.dt + 400 then { e.2 with frozen := true } else e.2) }

/-- The meaning of ASC_ARM (R73). -/
def execAscArm (s : State) : Host.Outcome State Fault Refusal := .next s.ascTake

/-- The meaning of ASC_DISARM: a write of ARMED 0 to entry `e` (R77). -/
def execAscDisarm (e : Fin 4096) (v : W32) (s : State) : Host.Outcome State Fault Refusal := .next (s.softWrite (0x027F0000 + 16 * e.val + 8) (withBit v 8 false) fun st => st.entryWrite e.val 2 (withBit v 8 false))

/-- The meaning of SLOT_FREEZE (R77). -/
def execSlotFreeze (s : State) : Host.Outcome State Fault Refusal := .next s.slotFreeze

/-- The meaning of ASC_FIRE (R74). -/
def execAscFire (s : State) : Host.Outcome State Fault Refusal := .next s.ascFire

/-- The meaning of LINE_STATE_RECEIVED: the follower takes the line state and refines its predictions (R46, R51). -/
def execLineStateReceived (s : State) : Host.Outcome State Fault Refusal := .next s.lineReceived.ascLineState

end Sys2Proof.Machine
end

