-- ==== Sys2Proof/Machine/StepGen.lean ====
section
/-! DEFINITION. The step generator of a step axis: prediction of the next step, emission, lag (R149 to R151). -/

namespace Sys2Proof.Machine

/-- Steps for each turn. -/
def State.stepNum (s : State) (n : Nat) : Int := (s.act (AXP_STEP_NUM n)).toNat

/-- The commanded position in the generator's own coordinates: homing shifts leave the emitted steps where they are (R146, R149). -/
def State.stepKin (s : State) (n t : Nat) : Kin :=
  let k := s.cmdKin n t
  { k with p := k.p - (s.axis n).posOfs }

/-- The emitted count unwrapped to the one nearest the commanded position (R149: a wrapping counter). -/
def State.stepCount (s : State) (n t : Nat) : Int :=
  let want := (s.stepKin n t).p * s.stepNum n / 2 ^ 64
  want + signedOf 32 (wrapTo 32 (signedOf 32 (s.rd (AXP_STEP_CNT n)).toNat - want))

/-- Steps owed at time `t`: boundaries the commanded position has crossed and no step has been emitted for (R151); negative downwards. -/
def State.stepsOwed (s : State) (n t : Nat) : Int :=
  let q := (s.stepKin n t).p * s.stepNum n
  let c := s.stepCount n t
  if c * 2 ^ 64 ≤ q then q / 2 ^ 64 - c else -((-q) / 2 ^ 64) - c

/-- One Newton step on the cubic, times in units of 2^-16 tick (R149). -/
def stepNewton (v a j d : Int) : Nat → Int → Int
  | 0, x => x
  | k + 1, x =>
    let q := Kin.after ⟨0, v, a⟩ j x
    stepNewton v a j d k (if q.v = 0 then x else x - (q.p - d) * unitsPerSec / q.v)

/-- The ticks to the next boundary crossing from the state at time `t`, and its direction; none when no crossing is predicted within 1 ms (R149). -/
def State.stepAhead (s : State) (n t : Nat) : Option (Nat × Bool) :=
  let k := s.stepKin n t
  let num := s.stepNum n
  if k.v = 0 ∨ num = 0 then none
  else
    let up := decide (0 < k.v)
    let c := s.stepCount n t + (if up then 1 else -1)
    let d := c * 2 ^ 64 / num - k.p
    let j := (s.axis n).plan.jerkAt t
    let x := stepNewton k.v k.a j d 2 (((d.natAbs : Int) * unitsPerSec) / k.v.natAbs)
    let ticks := (2 * x + unitsPerTick) / (2 * unitsPerTick)
    if 0 < ticks ∧ ticks ≤ 4000000 then some (ticks.toNat, up) else none

/-- STEP_W and DIR_SETUP in ticks (R150). -/
def State.stepW (s : State) (n : Nat) : Nat := max 400 (s.actFld (AXP_STEP_TIMING n) 15 0)
def State.dirSetup (s : State) (n : Nat) : Nat := s.actFld (AXP_STEP_TIMING n) 31 16

/-- The DIR edge that the pair holds once its next step is upward or not: a turn puts an edge 400 ticks after the last pulse at the earliest, and a turn back before that edge takes it away (R150). -/
def State.dirEdge (s : State) (n : Nat) (up : Bool) : Option Nat :=
  let x := s.axis n
  let free := match x.stepLast with
    | none => s.dt
    | some t => max (t + s.stepW n + 400) s.dt
  if up = x.stepUp then x.dirAt else if x.dirAt.any fun t => decide (s.dt < t) then none else some free

/-- The earliest instant of a step in direction `up`: P_min after the last step, and DIR_SETUP after the DIR edge (R150). -/
def State.stepEarliest (s : State) (n : Nat) (up : Bool) : Nat :=
  let e := match (s.axis n).stepLast with
    | none => s.dt
    | some t => t + s.stepPmin n
  match s.dirEdge n up with
  | none => e
  | some d => max e (d + s.dirSetup n)

/-- The level of the STEP pin of slot `n` at the present instant: active for STEP_W ticks from the step, low while active with STEP_INV (R150, R157). -/
def State.stepPin (s : State) (n : Nat) : Bool :=
  let on := match (s.axis n).stepLast with
    | none => false
    | some t => decide (t ≤ s.dt) && decide (s.dt < t + s.stepW n)
  on != s.actBit (AXP_STEP_CTL n) 4

/-- The level of the DIR pin of slot `n` at the present instant: high for positive motion, for negative motion with DIR_INV; an edge to come has not happened (R150, R157). -/
def State.dirPin (s : State) (n : Nat) : Bool :=
  let x := s.axis n
  (x.stepUp != (x.dirAt.any fun t => decide (s.dt < t))) != s.actBit (AXP_STEP_CTL n) 5

/-- Predict the next step at the present instant: a step that is owed is due at once, and a step due sooner than the pair allows is emitted at P_min (R149 to R151). -/
def State.stepPredict (s : State) (n : Nat) : State :=
  let owed := s.stepsOwed n s.dt
  let want : Option (Nat × Bool) := if owed ≠ 0 then some (s.dt, decide (0 < owed)) else (s.stepAhead n s.dt).map fun p => (s.dt + p.1, p.2)
  let s1 := s.wrFld (AXP_STEP_STAT n) 15 0 (min owed.natAbs 65535)
  match want with
  | none => s1.setAxis n { s1.axis n with stepNext := none }
  | some (t, up) =>
    let e := s1.stepEarliest n up
    let s2 := s1.setAxis n { s1.axis n with stepNext := some (max t e), stepUp := up, dirAt := s1.dirEdge n up }
    let fast := match (s.axis n).stepLast with
      | none => false
      | some l => decide (t < l + s.stepPmin n)
    if fast then (s2.wrBit (AXP_STEP_STAT n) 16 true).raise (axpPage n) 7
    else s2.wrBit (AXP_STEP_STAT n) 16 false

/-- The lag limit (R151). -/
def State.stepLagCheck (s : State) (n : Nat) : State :=
  if s.fld (AXP_STEP_LAG_MAX n) 15 0 < (s.stepsOwed n s.dt).natAbs then
    (s.raise (axpPage n) 8).fault n (classOf (s.fld (AXP_FAULT_CFG n) 6 4)) none
  else s

/-- The step timer of slot `n` has expired: one pulse, the count, the plan at this instant, the next interval (R125, R149). Switching off stops the generator (R25). -/
def State.stepEmit (s : State) (n : Nat) : State :=
  let x := s.axis n
  match x.stepNext with
  | none => s
  | some t =>
    if !s.isStep n ∨ s.dt < t then s
    else if !x.pwm then s.setAxis n { x with stepNext := none }
    else
      let c := s.rd (AXP_STEP_CNT n)
      let s1 := (s.setAxis n { x with stepLast := some s.dt, stepNext := none }).wr (AXP_STEP_CNT n) (if x.stepUp then c + 1 else c - 1)
      ((s1.profileSample n).stepPredict n).stepLagCheck n

/-- At each LTB step the generator predicts again where nothing is predicted (R149). -/
def State.stepRepredict (s : State) (n : Nat) : State :=
  if s.isStep n ∧ (s.axis n).pwm ∧ (s.axis n).stepNext.isNone then s.stepPredict n else s

/-- The meaning of STEP_EMIT. -/
def execStepEmit (n : Fin 64) (s : State) : Host.Outcome State Fault Refusal := .next (s.stepEmit n)

end Sys2Proof.Machine
end

