-- ==== Sys2Proof/Machine/AxisCmd.lean ====
section
/-! DEFINITION. The axis requests, standstill and the sample instant of an axis (R24, R49, R84, R121, R185, R189, R191, R198, R227, R410). -/

namespace Sys2Proof.Machine

/-! ### Requests (R24, R189, R191) -/

/-- A request that R24 does not permit in the present state: CMD_REFUSED and ERR_CAP (R189). -/
def State.requestRefuse (s : State) (n : Nat) : State := (s.raise (axlPage n) 8).err (axlPage n) .state 0x44

/-- The position of the slot's bound port is valid, where it has one (R337). -/
def State.portOk (s : State) (n : Nat) : Bool :=
  match s.portOfSlot n with
  | none => true
  | some p => s.portValid p

/-- The loop states at ENABLE: integrators, filters and the velocity estimate are zero (R191). -/
def State.loopZero (s : State) (n : Nat) : State :=
  let x := s.servo n
  s.setServo n { Servo.reset with
    sampleT := x.sampleT
    ready := x.ready
    started := x.started
    doneAt := x.doneAt
    judged := x.judged
    pPrev := (s.axis n).act1.p
    nf := x.nf
    nfRun := x.nfRun
    coef := x.coef
    coefTo := x.coefTo
    blendLeft := x.blendLeft
    converted := x.converted
    iqExt := x.iqExt
    iqNew := x.iqNew
    rcCmd := x.rcCmd
    duty := x.duty }

/-- ENABLE (R191): the commanded position becomes the actual position, the loop states are zeroed, switching starts, EXT_AGE restarts; a bound channel receives START with the codes of its
offset measurement (R309). Refused unless the axis is READY, its output is live and its port valid (R190, R337). -/
def State.axisEnable (s : State) (n : Nat) (codes : List Nat) : State :=
  if (s.axis n).st ≠ .ready ∨ !s.slotLive n ∨ !s.portOk n then s.requestRefuse n
  else
    let s1 := ((s.restAt n (s.axis n).act1.p).loopZero n).wr (AXL_EXT_AGE n) 0
    let s2 := (s1.setAxis n { s1.axis n with pwm := true, stallRun := 0, doneSent := false }).setAxState n .closed
    let s3 := s2.boundLdc n fun c st => st.ldcStart c codes
    if s3.isStep n then s3.stepPredict n else s3

/-- DISABLE (R24): switching stops, a waiting engage is cancelled, a bound channel receives STOP (R309). -/
def State.axisDisable (s : State) (n : Nat) : State :=
  match (s.axis n).st with
  | .ready => s
  | .opened => s.setAxState n .ready
  | .closed => (((((s.uncouple n).restAt n ((s.cmdKin n s.dt).p)).pwmOff n).boundLdc n fun c st => st.ldcCoast c).setAxState n .ready)
  | _ => s.requestRefuse n

/-- OPEN (R24). -/
def State.axisOpen (s : State) (n : Nat) : State := if (s.axis n).st = .ready then s.setAxState n .opened else s.requestRefuse n

/-- CLOSE (R24). -/
def State.axisClose (s : State) (n : Nat) : State := if (s.axis n).st = .opened then s.setAxState n .ready else s.requestRefuse n

/-- The causes and the HOLD latch of an acknowledged axis are gone. -/
def State.ackClear (s : State) (n : Nat) : State := (s.setAxis n { s.axis n with react := none, causes := [] }).wrBit (AXL_LOOP_STAT n) 15 false

/-- ACK (R24, R642): FAULT to READY, or the HOLD latch cleared, while no cause is active; it acts on a bound channel as well (R309). -/
def State.axisAck (s : State) (n : Nat) : State :=
  match (s.axis n).st with
  | .fault =>
    if s.blocked n then s.requestRefuse n
    else
      let p := (s.cmdKin n s.dt).p
      let s1 := (((s.ackClear n).restAt n p).pwmOff n).setAxState n .ready
      s1.boundLdc n fun c st => if st.comState c = 6 then st.ldcAck c else st
  | .ready => hold
  | .opened => hold
  | .closed => hold
  | _ => s.requestRefuse n
where
  hold : State := if s.holdLatched n ∧ !s.blocked n then s.ackClear n else s.requestRefuse n

/-- A request acts (R189). -/
def State.axisRequest (s : State) (n cmd : Nat) (codes : List Nat) : State :=
  match cmd with
  | 0 => s
  | 1 => s.axisEnable n codes
  | 2 => s.axisDisable n
  | 3 => s.axisOpen n
  | 4 => s.axisClose n
  | 5 => s.axisAck n
  | _ => s.requestRefuse n

/-- A write of AXIS_CMD: the request waits for the next sample instant; 6 and 7 are refused (R189). -/
def State.axisCmdWrite (s : State) (n cmd : Nat) : State :=
  if cmd = 0 then s
  else if 5 < cmd then (s.raise (axlPage n) 8).err (axlPage n) .value 0x44
  else s.setAxis n { s.axis n with requests := (s.axis n).requests ++ [cmd] }

/-! ### Standstill (R121) -/

/-- The actual velocity that standstill looks at: the commanded one of a step axis without a port, COM_FREQ of a local channel without one (R121, R316, R326). -/
def State.standVel (s : State) (n : Nat) : Int :=
  match s.portOfSlot n with
  | some _ => (s.axis n).rawVel
  | none =>
    if s.isStep n then (s.cmdKin n s.dt).v
    else
      match s.ldcOfSlot n with
      | some c =>
        let pp : Int := s.actFld (AXL_POLE_PAIRS n) 7 0
        if s.comState c = 0 ∨ pp = 0 then 0 else v16 (signedOf 32 (s.rd (LDC_COM_FREQ c)).toNat) / pp
      | none => (s.axis n).rawVel

/-- Both conditions of standstill hold now (R121). -/
def State.standing (s : State) (n : Nat) : Bool :=
  let c := s.cmdKin n s.dt
  decide (c.v = 0) && decide (c.a = 0) && decide ((s.standVel n).natAbs ≤ (s.rd (AXP_STILL_VEL n)).toNat * 2 ^ 48)

/-- A transition that waits for standstill (R24, R49, R101, R130). -/
def State.standDone (s : State) (n : Nat) : State :=
  let x := s.axis n
  if x.st ≠ .stopping then s
  else
    let p := (s.cmdKin n s.dt).p
    if x.lineRamp then
      (((s.uncouple n).restAt n p).setAxis n { ((s.uncouple n).restAt n p).axis n with lineRamp := false }).setAxState n .fault
    else if (s.gear n).phase = .rampOut then s
    else
      match x.kind with
      | .ramp => (s.restAt n p).setAxState n .fault
      | .quick => ((s.restAt n p).pwmOff n).setAxState n .fault
      | .stop =>
        let dis := (s.gear n).disengaging
        let s1 := s.restAt n p
        let s2 := s1.setAxis n { s1.axis n with react := none }
        let s3 := (s2.setGear n { s2.gear n with disengaging := false }).setAxState n .closed
        s3.when dis fun st => st.raise (axgPage n) 1
      | _ => s

/-- Standstill looked at now: the instant from which the conditions hold, STANDSTILL, the waiting transition (R121). -/
def State.standstill (s : State) (n : Nat) : State :=
  let x := s.axis n
  if !s.standing n then (s.setAxis n { x with stillSince := none }).wrBit (AXP_PROF_STAT n) 8 false
  else
    let t0 := x.stillSince.getD s.dt
    let s1 := s.setAxis n { x with stillSince := some t0 }
    if s.dt < t0 + s.fld (AXP_STILL_TIME n) 23 0 * 4000 then s1
    else
      let s2 := s1.when (!s1.bit (AXP_PROF_STAT n) 8) fun st => (st.wrBit (AXP_PROF_STAT n) 8 true).raise (axpPage n) 11
      s2.standDone n

/-! ### The sample instant (R227) -/

/-- The position of a local channel without a port: its commutations (R316). -/
def State.stepCntPos (s : State) (n c : Nat) : Int :=
  let pp : Int := s.actFld (AXL_POLE_PAIRS n) 7 0
  if pp = 0 then 0 else signedOf 32 (s.rd (LDC_STEP_CNT c)).toNat * 2 ^ 64 / (6 * pp)

/-- The actual position at this sample instant, where the device takes it itself; a stage's field A comes with its uplink frame (R148, R162, R316, R337). -/
def State.sampleActual (s : State) (n : Nat) : State :=
  match s.portOfSlot n with
  | some p => s.takeActual n s.dt (s.port p).new.p
  | none =>
    if s.isStep n then s.takeActual n s.dt (s.stepPos n)
    else
      match s.ldcOfSlot n with
      | some c => s.takeActual n s.dt (s.stepCntPos n c)
      | none => s

/-- The sets of the AXL and AXP pages that are due take effect (R133, R185, R599). -/
def State.sampleCommits (s : State) (n : Nat) : State := (s.commitApply (axlPage n)).commitApply (axpPage n)

/-- IQ_EXT and its age, which saturates at 255 (R198, R199): EXT_STALE comes at the first sample at which the age has reached TIMEOUT in a state that it concerns. -/
def State.sampleExt (s : State) (n : Nat) : State :=
  let x := s.servo n
  match x.iqNew with
  | some v => (s.setServo n { x with iqExt := s16 v, iqNew := none, stale := false }).wr (AXL_EXT_AGE n) 0
  | none =>
    let a := min 255 (s.fld (AXL_EXT_AGE n) 7 0 + 1)
    let bad := decide (s.struct n = 3) && (s.axis n).st.active && decide (max 1 (s.fld (AXL_EXT_CFG n) 7 0) ≤ a)
    let s1 := (s.setServo n { x with stale := bad }).wr (AXL_EXT_AGE n) (BitVec.ofNat 32 a)
    if bad && !x.stale then (s1.raise (axlPage n) 3).fault n (classOf (s.fld (AXL_DL_CFG n) 18 16)) none else s1

/-- Reactions that wait for a sample of the slot: QUICK of an SS1, unless a reaction of RAMP or stronger has started meanwhile (R410); those of a REACT record (R390). -/
def State.sampleReacts (s : State) (n : Nat) : State :=
  let quick := s.ss1Quick.contains n && (match (s.axis n).react with
    | none => true
    | some r => decide (r.num < 2))
  let s1 : State := { s with ss1Quick := s.ss1Quick.filter fun m => m != n }
  let s2 := s1.when quick fun st => st.react n .quick none .container
  let mine := s2.xlk.reacts.filter fun r => r.1 == n
  let s3 : State := { s2 with xlk := { s2.xlk with reacts := s2.xlk.reacts.filter fun r => r.1 != n } }
  s3.each mine fun r st => st.react n r.2 none .container

/-- The switch of homing as the engine sees it (R644). -/
def State.homeSwitch (s : State) (n : Nat) : Bool :=
  let pin := s.homePin n
  let lvl := if s.actBit (AXP_HOME_CTL n) 4 then s.bit FIO_IN_LVL pin else s.bit ASC_FLI_LVL pin
  lvl != s.actBit (AXP_HOME_CTL n) 9

/-- Homing at this sample (R144 to R147). -/
def State.sampleHome (s : State) (n : Nat) : State :=
  if (s.axis n).kind = .home ∧ (s.axis n).st = .moving then
    s.homeSample n ⟨s.homeSwitch n, (s.axis n).act1.p, (s.servo n).torqueNow, (s.servo n).stallNow⟩
  else s

/-- A line-loss RAMP whose coupling has ended goes on at FAULT_DEC (R49). -/
def State.lineRampFree (s : State) (n : Nat) : State :=
  let x := s.axis n
  if x.lineRamp ∧ (s.gear n).phase = .idle ∧ x.st = .stopping ∧ x.kind ≠ .ramp ∧ x.kind ≠ .quick then
    let s1 := s.stopPlan n .ramp
    s1.setAxis n { s1.axis n with lineRamp := false }
  else s

/-- The commanded state of this sample: CMD_POS, CMD_VEL, CMD_ACC (R125, R155). -/
def State.showCmd (s : State) (n : Nat) : State :=
  let c := s.cmdKin n s.dt
  let s1 := s.setAxis n { s.axis n with cmd := c }
  ((s1.wr64 (AXP_CMD_POS_LO n) (pos32 c.p)).wr (AXP_CMD_VEL n) (vel16 c.v)).wr (AXP_CMD_ACC n) (acc8 c.a)

/-- The run of this sample: a stage's run waits for its uplink frame, any other is ready now (R227); an OFF slot and one that runs no program has none (R17). -/
def State.openRun (s : State) (n : Nat) : State :=
  let x := s.servo n
  let none0 := decide ((s.axis n).st = .off) || s.runsNothing n
  s.setServo n { x with sampleT := some s.dt, ready := !none0 && !s.isStage n, started := false, doneAt := none, judged := none0 }

/-- An as-computed result that is ready goes out (R197); the run of the previous sample has not ended: it is aborted (R193). -/
def State.sampleAbort (s0 : State) (n : Nat) : State :=
  let s := s0.outputDue n
  let x := s.servo n
  let late := x.inProgress s.dt || (x.ready && !x.started)
  if late then s.abortRun n else s

/-- The sample instant of slot `n`: the run before is aborted if it has not ended, ports and positions are sampled, commits, IQ_EXT, requests and waiting reactions act, the plans are evaluated,
records, windows and predictions that wait for this sample are completed, and the run becomes ready. -/
def State.axisSample (s : State) (n : Nat) (ds : List (Int × Int)) (codes : List Nat) : State :=
  let before := (s.axis n).cmd
  let s1 := (s.sampleAbort n).each (s.portsOf n) fun p st => st.portSample p (movedOf ds p).1 (movedOf ds p).2
  let s2 := ((s1.sampleActual n).sampleCommits n).sampleExt n
  let reqs := (s2.axis n).requests
  let s3 := (s2.setAxis n { s2.axis n with requests := [] }).each reqs fun c st => st.axisRequest n c codes
  let s4 := ((s3.sampleReacts n).latchSlot n).gearChain n
  let s5 := ((s4.lineRampFree n).profileSample n).sampleHome n
  let s6 := ((s5.softLimit n before).standstill n).showCmd n
  let s7 := if s6.isStep n && (s6.axis n).pwm then s6.stepPredict n else s6
  ((s7.winLook (some n)).ascAxis n).openRun n

/-- Where `t` lies in the sample period of slot `n`, in units of one period over 4 × 10^9. -/
def State.samplePhase (s : State) (n t : Nat) : Nat := t * s.sampleHz n % 4000000000

/-- The slots of slot `n`'s LPU that run at its sample rate, in slot order (R18). -/
def State.staggered (s : State) (n : Nat) : List Nat :=
  match s.lpuOf n with
  | none => []
  | some (i, _) => (List.range 64).filter fun m => (s.lpuOf m).map (·.1) == some i && s.sampleHz m == s.sampleHz n

/-- An instant is a sample instant of slot `n` only one eighth of the period per place in slot order after those of the other slots of its LPU and rate (R18), each judged by its last sample; the grid is met to two ticks, as a period need not be a whole number of ticks. -/
def State.onStagger (s : State) (n : Nat) : Bool :=
  let l := s.staggered n
  let place (m : Nat) : Int := (l.idxOf m : Nat)
  let hz : Int := (s.sampleHz n : Nat)
  l.all fun m =>
    match (s.servo m).sampleT with
    | none => true
    | some t =>
      let d := ((s.samplePhase n s.dt : Int) - s.samplePhase n t - 500000000 * (place n - place m) + 2 * hz) % 4000000000
      m == n || decide (t + 2 * s.sampleTicks n < s.dt) || decide (d ≤ 4 * hz)

/-! ### The meanings -/

/-- The meaning of AXIS_ENABLE: the request acts (R191). -/
def execAxisEnable (n : Fin 64) (codes : List (BitVec 12)) (s : State) : Host.Outcome State Fault Refusal := .next (s.axisEnable n (codes.map BitVec.toNat))
/-- The meaning of AXIS_DISABLE. -/
def execAxisDisable (n : Fin 64) (s : State) : Host.Outcome State Fault Refusal := .next (s.axisDisable n)
/-- The meaning of AXIS_OPEN. -/
def execAxisOpen (n : Fin 64) (s : State) : Host.Outcome State Fault Refusal := .next (s.axisOpen n)
/-- The meaning of AXIS_CLOSE. -/
def execAxisClose (n : Fin 64) (s : State) : Host.Outcome State Fault Refusal := .next (s.axisClose n)
/-- The meaning of AXIS_ACK. -/
def execAxisAck (n : Fin 64) (s : State) : Host.Outcome State Fault Refusal := .next (s.axisAck n)
/-- The meaning of AXIS_STANDSTILL. -/
def execAxisStandstill (n : Fin 64) (s : State) : Host.Outcome State Fault Refusal := .next (s.standstill n)
/-- The meaning of AXIS_SAMPLE_INSTANT: at a time that the stagger of its LPU excludes there is no sample (R18). -/
def execAxisSampleInstant (n : Fin 64) (ds : List (Int × Int)) (codes : List (BitVec 12)) (s : State) : Host.Outcome State Fault Refusal :=
  .next (if s.onStagger n then (s.axisSample n ds (codes.map BitVec.toNat)).loopTick n else s)

end Sys2Proof.Machine
end

