-- ==== Sys2Proof/Machine/Can.lean ====
section
/-! DEFINITION. The CAN controllers: bit timing limits, message objects and their commands, transmission, reception, error states, modes, fault injection (R548 to R561). -/

namespace Sys2Proof.Machine

def canPage (c : Nat) : Nat := 0x1E000 + c * 0x1000

/-- Controller `c` and object `o` of it. -/
def State.can (s : State) (c : Nat) : Can := tabGet Can.reset c s.cans
def State.setCan (s : State) (c : Nat) (x : Can) : State := { s with cans := tabSet c x s.cans }
def State.canObj (s : State) (c o : Nat) : CanObj := tabGet CanObj.reset (128 * c + o) s.canObjs
def State.setCanObj (s : State) (c o : Nat) (x : CanObj) : State := { s with canObjs := tabSet (128 * c + o) x s.canObjs }

/-- A per-object bit of RX_NEW, LOST and TX_PEND (R560). -/
def State.canNew (s : State) (c o : Nat) : Bool := s.bit (CAN_RX_NEW c (o / 32)) (o % 32)
def State.setCanNew (s : State) (c o : Nat) (b : Bool) : State := s.wrBit (CAN_RX_NEW c (o / 32)) (o % 32) b
def State.canLost (s : State) (c o : Nat) : Bool := s.bit (CAN_LOST c (o / 32)) (o % 32)
def State.setCanLost (s : State) (c o : Nat) (b : Bool) : State := s.wrBit (CAN_LOST c (o / 32)) (o % 32) b
def State.canPend (s : State) (c o : Nat) : Bool := s.bit (CAN_TX_PEND c (o / 32)) (o % 32)
def State.setCanPend (s : State) (c o : Nat) (b : Bool) : State := s.wrBit (CAN_TX_PEND c (o / 32)) (o % 32) b

/-- DIR of an object: 0 off, 1 receive, 2 transmit (R560). -/
def State.canDir (s : State) (c o : Nat) : Nat := s.fld (CAN_OBJ_CTL c o) 1 0

/-- One more in a field of CNT_CAN (R560, R561). -/
def State.canCount (s : State) (c hi lo : Nat) : State := s.count (CAN_CNT_CAN c) hi lo (canPage c) 10

/-- The mode in force: 0 INIT, 1 NORMAL, 2 RESTRICTED, 3 MONITOR. -/
def State.canMode (s : State) (c : Nat) : Nat := s.fld (CAN_CAN_STAT c) 6 5

/-! ### Bit timing (R549) -/

/-- One phase within its limits: the limits of BRP, TSEG1, TSEG2 and of the bit time in quanta, and the shortest bit in kernel clocks. -/
def phaseOk (brp t1 t2 sjw brpMax t1Max t2Max lo hi shortest : Nat) : Bool :=
  let q := 1 + t1 + t2
  decide (brp ≤ brpMax) && decide (2 ≤ t1) && decide (t1 ≤ t1Max) && decide (t2 ≤ t2Max) && decide (sjw ≤ t2) && decide (lo ≤ q) && decide (q ≤ hi) && decide (shortest ≤ brp * q)

/-- Both phases within their limits, and the data rate not below the nominal rate (R549). -/
def State.canTiming (s : State) (c : Nat) : Bool :=
  let n := s.rd (CAN_NBT c)
  let d := s.rd (CAN_DBT c)
  let f (v : W32) (hi lo : Nat) : Nat := fldOf v hi lo + 1
  phaseOk (f n 7 0) (f n 15 8) (f n 22 16) (f n 30 24) 256 256 128 8 385 80 && phaseOk (f d 4 0) (f d 12 8) (f d 19 16) (f d 27 24) 32 32 16 5 49 10 &&
    decide (f d 4 0 * (1 + f d 12 8 + f d 19 16) ≤ f n 7 0 * (1 + f n 15 8 + f n 22 16))

/-! ### Transmission (R555) -/

/-- The place of a frame in arbitration: the base identifier, a base frame first, the rest of the identifier, a data frame before a remote one (R555). -/
def canRank (f : CanFrame) : Nat :=
  let id := f.id.toNat
  if f.ide then ((id / 2 ^ 18 * 2 + 1) * 2 ^ 18 + id % 2 ^ 18) * 2 + (if f.rtr then 1 else 0) else (id % 2 ^ 11 * 2) * 2 ^ 19 + (if f.rtr then 1 else 0)

/-- The frame that transmit object `o` sends: its format by OBJ_CTL, its identifier by OBJ_ID, its data as held (R560, R548). -/
def State.canTxFrame (s : State) (c o : Nat) : CanFrame :=
  let k := s.rd (CAN_OBJ_CTL c o)
  let i := s.rd (CAN_OBJ_ID c o)
  let f := (s.canObj c o).frame
  { f with
    id := BitVec.ofNat 29 i.toNat
    ide := bitOf i 29
    fdf := bitOf k 3
    brs := bitOf k 3 && bitOf k 4 && s.bit (CAN_CAN_CTL c) 3
    esi := s.fld (CAN_CAN_STAT c) 1 0 == 1
    rtr := bitOf k 5 }

/-- The data bytes that a data length code stands for (R560): in a classical frame at most 8. -/
def dlcBytes (fd : Bool) (d : Nat) : Nat :=
  if d ≤ 8 then d else if !fd then 8 else [12, 16, 20, 24, 32, 48, 64].getD (d - 9) 64

/-- The pending transmit object that wins arbitration (R555). -/
def State.canBest (s : State) (c : Nat) : Option (Nat × CanFrame) :=
  ((List.range 128).filter fun o => s.canPend c o && decide (s.canDir c o = 2)).foldl (fun best o =>
    let f := s.canTxFrame c o
    match best with
    | none => some (o, f)
    | some (b, g) => if canRank f < canRank g then some (o, f) else some (b, g)) none

/-- The controller may send: NORMAL, not bus-off, no protocol exception (R548, R556, R557). -/
def State.canSends (s : State) (c : Nat) : Bool := s.canMode c == 1 && s.fld (CAN_CAN_STAT c) 1 0 != 2 && !s.bit (CAN_CAN_STAT c) 4

/-- With no frame of its own on the bus, the controller starts the next one (log 35). -/
def State.canStart (s : State) (c : Nat) : State :=
  let x := s.can c
  if x.cur.isSome || !s.canSends c then s else s.setCan c { x with cur := s.canBest c }

/-- The frame on the bus has ended: what waited for its end happens (R551, R554). -/
def State.canEnd (s : State) (c : Nat) : State :=
  let x := s.can c
  match x.cur with
  | none => s
  | some (o, _) =>
    let s1 := match x.wait with
      | none => s
      | some f => s.setCanObj c o { s.canObj c o with frame := f }
    let s2 := match x.off with
      | none => s1
      | some v => s1.wr (CAN_OBJ_CTL c o) v
    s2.setCan c { x with cur := none, wait := none, off := none }

/-- A request ends without its frame: TX_FAIL (R555, R557). -/
def State.canFail (s : State) (c o : Nat) : State := (s.setCanPend c o false).raise (canPage c) 7

/-! ### Error states (R557) -/

/-- TEC and REC. -/
def State.tec (s : State) (c : Nat) : Nat := s.fld (CAN_ERR_CNT c) 8 0
def State.rec_ (s : State) (c : Nat) : Nat := s.fld (CAN_ERR_CNT c) 23 16

/-- Entry to BUS_OFF: every pending request fails, the count, recovery with AUTO_RECOV (R557, R558). -/
def State.canBusOff (s : State) (c : Nat) : State :=
  let s1 := s.canEnd c
  let s2 := s1.each ((List.range 128).filter fun o => s1.canPend c o) fun o st => st.canFail c o
  (s2.canCount c 7 0).when (s2.bit (CAN_CAN_CTL c) 5) fun st => st.wrBit (CAN_CAN_STAT c) 3 true

/-- STATE and WARN follow the counters (R557). -/
def State.canState (s : State) (c : Nat) : State :=
  let st := if 255 < s.tec c then 2 else if 127 < s.tec c ∨ 127 < s.rec_ c then 1 else 0
  let w := decide (96 ≤ s.tec c) || decide (96 ≤ s.rec_ c)
  let old := s.fld (CAN_CAN_STAT c) 1 0
  let s1 := (s.wrFld (CAN_CAN_STAT c) 1 0 st).raiseIf (decide (st ≠ old)) (canPage c) 0
  let s2 := (s1.wrBit (CAN_CAN_STAT c) 2 w).raiseIf (w != s.bit (CAN_CAN_STAT c) 2) (canPage c) 1
  s2.when (decide (st = 2) && decide (old ≠ 2)) fun s => s.canBusOff c

/-- New values of TEC and REC; RESTRICTED keeps both (R556, R557). -/
def State.canCounters (s : State) (c tec rec_ : Nat) : State :=
  if s.canMode c = 2 then s else ((s.wrFld (CAN_ERR_CNT c) 8 0 (min 511 tec)).wrFld (CAN_ERR_CNT c) 23 16 (min 255 rec_)).canState c

/-! ### Fault injection (R559) -/

/-- A frame passes the injector, own or received: whether it is affected. -/
def State.canInject (s : State) (c : Nat) (own : Bool) : Bool × State :=
  let a := canPage c + 0x02C
  let x := s.can c
  if !s.bit a 31 ∨ s.fld a 2 0 = 0 ∨ s.bit a 3 = own then (false, s)
  else if 0 < x.injSkip then (false, s.setCan c { x with injSkip := x.injSkip - 1 })
  else
    let s1 := (s.setCan c { x with injLeft := x.injLeft - 1 }).wrapUp (CAN_INJ_CNT c) 15 0
    (true, if x.injLeft ≤ 1 then (s1.wrBit a 31 false).raise (canPage c) 9 else s1)

/-- The bits of field 0 to 3 in a frame: identifier, control field, data, CRC; the longest form of each (R559). -/
def canFieldBits : Nat → Nat
  | 0 => 29
  | 1 => 9
  | 2 => 512
  | _ => 21

/-- A write of INJ_CTL (R559). -/
def State.canInjArm (s : State) (c : Nat) (v : W32) : State :=
  let page := canPage c
  let m := fldOf v 2 0
  if s.bit (page + 4) 2 then s.err page .locked 0x02C
  else if 4 ≤ m ∨ (m = 1 ∧ bitOf v 3 = true) ∨ (m = 2 ∧ bitOf v 3 = false) ∨ canFieldBits (s.fld (CAN_INJ_ARG c) 1 0) ≤ s.fld (CAN_INJ_ARG c) 15 8 then s.err page .value 0x02C
  else
    let n := max 1 (fldOf v 23 16)
    let s1 := s.wr (page + 0x02C) (withFld (v &&& 0x80FFFF0F) 23 16 n)
    if bitOf v 31 then s1.setCan c { s1.can c with injSkip := fldOf v 15 8, injLeft := n } else s1

/-! ### Bus errors and reception (R552, R555, R557) -/

/-- An error of the frame on the bus: `code` as LEC, in the data phase or not, as transmitter or receiver; `dom`: a receiver saw a dominant bit after its error flag; `exc`: ISO 11898-1 excepts the transmitter's counter. -/
def State.canError (s : State) (c code : Nat) (data tx dom exc : Bool) : State :=
  let s1 := s.wr (CAN_LEC c) (BitVec.ofNat 32 (code + (if data then 8 else 0)))
  let o := (s.can c).cur
  let s2 := if tx then s1.canCounters c (if exc then s1.tec c else s1.tec c + 8) (s1.rec_ c) else s1.canCounters c (s1.tec c) (s1.rec_ c + (if dom then 8 else 1))
  let s3 := match o with
    | none => s2
    | some (o, _) => if tx && s2.bit (CAN_CAN_CTL c) 4 && s2.canPend c o then s2.canFail c o else s2
  (s3.canEnd c).canStart c

/-- The controller takes part in the bus. -/
def State.canOn (s : State) (c : Nat) : Bool := s.canMode c != 0 && s.fld (CAN_CAN_STAT c) 1 0 != 2 && !s.bit (CAN_CAN_STAT c) 4

/-- The meaning's body of CAN_BUS_ERROR: lost arbitration (code 0) leaves the counters; with DAR the request fails (R555, R557). -/
def State.canBusError (s : State) (c code : Nat) (data tx dom exc : Bool) : State :=
  if !s.canOn c || (tx && (s.can c).cur.isNone) then s
  else
    let s1 := (s.canInject c tx).2
    if code = 0 then
      let s2 := match (s1.can c).cur with
        | none => s1
        | some (o, _) => if s1.bit (CAN_CAN_CTL c) 4 && s1.canPend c o then s1.canFail c o else s1
      (s2.canEnd c).canStart c
    else s1.canError c code data tx dom exc

/-- REC after a frame received without error: ISO 11898-1 lowers it by one, and from above 127 to a value from 119 to 127. -/
def recAfter (f : Nat) (r : Nat) : Nat := if r = 0 then 0 else if r ≤ 127 then r - 1 else 119 + (Config.freeWord f).toNat % 9

/-- Take the frame into object `o` (R552). -/
def State.canTake (s : State) (c o : Nat) (f : CanFrame) (sof : Nat) : State :=
  let s1 := s.setCanObj c o ⟨{ f with data := f.data.take (if f.rtr then 0 else dlcBytes f.fdf f.dlc.toNat) }, sof / 50 * 50⟩
  let s2 := if s1.canNew c o then ((s1.setCanLost c o true).canCount c 15 8).raise (canPage c) 5 else s1
  (s2.setCanNew c o true).raiseIf (s2.bit (CAN_OBJ_CTL c o) 2) (canPage c) 4

/-- The receive object of a frame (R552); a remote frame needs one with RTR set (R548). -/
def State.canMatch (s : State) (c : Nat) (f : CanFrame) : Option Nat :=
  (List.range 128).find? fun o => decide (s.canDir c o = 1) && decide (s.fld (CAN_OBJ_ID c o) 28 0 = f.id.toNat) && s.bit (CAN_OBJ_ID c o) 29 == f.ide && (!f.rtr || s.bit (CAN_OBJ_CTL c o) 5)

/-- A frame is received at whose SOF device time was `sof`; `exc`: its res bit was recessive (R548, R552). -/
def State.canReceive (s : State) (c : Nat) (f : CanFrame) (sof : Nat) (exc : Bool) : State :=
  if !s.canOn c then s
  else if f.fdf && !s.bit (CAN_CAN_CTL c) 2 then s.canError c 2 false false false false
  else if f.fdf && exc then ((s.wrBit (CAN_CAN_STAT c) 4 true).canCount c 31 24).raise (canPage c) 3
  else
    let (hit, s1) := s.canInject c false
    let (fr, s2) := s1.nextFree
    if hit && s.fld (canPage c + 0x02C) 2 0 == 3 then s2.canError c ((Config.freeWord fr).toNat % 8) (s.fld (CAN_INJ_ARG c) 1 0 == 2) false false false
    else
      let s3 := match s2.canMatch c f with
        | some o => s2.canTake c o f sof
        | none => (s2.canCount c 23 16).raise (canPage c) 8
      ((s3.canCounters c (s3.tec c) (recAfter fr (s3.rec_ c))).canEnd c).canStart c

/-- The frame on the bus has been sent without error; `tdcv` is the delay its measurement found (R550, R555). -/
def State.canComplete (s : State) (c tdcv : Nat) : State :=
  match (s.can c).cur with
  | none => s
  | some (o, f) =>
    if !s.canSends c then s
    else if f.fdf && s.bit (CAN_TDC c) 6 && decide (127 < tdcv) then s.canError c 4 true true false false
    else
      let s1 := (s.canInject c true).2
      let s2 := if f.fdf && s1.bit (CAN_TDC c) 6 then s1.wrFld (CAN_TDC c) 14 8 tdcv else s1
      let g := { f with data := f.data.take (if f.rtr then 0 else dlcBytes f.fdf f.dlc.toNat) }
      let s3 := ((s2.setCan c { s2.can c with out := some g }).setCanPend c o false).raiseIf (s2.bit (CAN_OBJ_CTL c o) 2) (canPage c) 6
      ((s3.canCounters c (s3.tec c - 1) (s3.rec_ c)).canEnd c).canStart c

/-- A protocol exception ends after 11 consecutive recessive bits (R548). -/
def State.canExcEnd (s : State) (c : Nat) : State := if !s.bit (CAN_CAN_STAT c) 4 then s else (s.wrBit (CAN_CAN_STAT c) 4 false).canStart c

/-! ### Object commands (R551, R553, R554) -/

/-- OBJ_CMD is refused (R553). -/
def State.canRefuse (s : State) (c : Nat) : State := (s.wrBit (CAN_OBJ_STAT c) 1 true).err (canPage c) .state 0x64

/-- An accepted OBJ_CMD: REFUSED shows the last command (log 35). -/
def State.canAccept (s : State) (c : Nat) : State := s.wrBit (CAN_OBJ_STAT c) 1 false

/-- READ (R553). -/
def State.canRead (s : State) (c o : Nat) : State :=
  if s.canDir c o ≠ 1 then s.canRefuse c
  else
    let x := s.canObj c o
    let f := x.frame
    let b (p : Bool) (k : Nat) : Nat := if p then 2 ^ k else 0
    let flags := f.dlc.toNat + b f.fdf 4 + b f.brs 5 + b f.esi 6 + b f.rtr 7 + b (s.canNew c o) 8 + b (s.canLost c o) 9
    let d := f.data ++ List.replicate 64 0
    let s1 := (((s.canAccept c).wr (CAN_BUF_ID c) (BitVec.ofNat 32 (f.id.toNat + b f.ide 29))).wr (CAN_BUF_FLAGS c) (BitVec.ofNat 32 flags)).wr64 (CAN_BUF_T_LO c) x.time
    let s2 := s1.each (List.range 16) fun k st => st.wr (CAN_BUF_DATA c k) (BitVec.ofNat 32 (leNat ((d.drop (4 * k)).take 4)))
    (s2.setCanNew c o false).setCanLost c o false

/-- The frame that BUF holds for a transmit object: flags and data (R553). -/
def State.canBuf (s : State) (c o : Nat) : CanFrame :=
  let v := s.rd (CAN_BUF_FLAGS c)
  { (s.canObj c o).frame with
    dlc := BitVec.ofNat 4 v.toNat
    fdf := bitOf v 4
    brs := bitOf v 5
    esi := bitOf v 6
    rtr := bitOf v 7
    data := (List.range 16).flatMap fun k => leBytes 4 (s.rd (CAN_BUF_DATA c k)).toNat }

/-- What WRITE does to a transmit object; the data of a frame on the bus change at its end (R553, R554). -/
def State.canStore (s : State) (c o : Nat) : State :=
  let s1 := if s.canPend c o then ((s.setCanLost c o true).canCount c 15 8).raise (canPage c) 5 else s
  match (s1.can c).cur with
  | some (p, _) => if p = o then s1.setCan c { s1.can c with wait := some (s1.canBuf c o) } else s1.setCanObj c o { s1.canObj c o with frame := s1.canBuf c o }
  | none => s1.setCanObj c o { s1.canObj c o with frame := s1.canBuf c o }

/-- WRITE, SEND, WRITE_SEND, ABORT (R553). -/
def State.canWrite (s : State) (c o : Nat) : State := if s.canDir c o ≠ 2 then s.canRefuse c else (s.canAccept c).canStore c o
def State.canSend (s : State) (c o : Nat) : State := if s.canDir c o ≠ 2 then s.canRefuse c else ((s.canAccept c).setCanPend c o true).canStart c
def State.canWriteSend (s : State) (c o : Nat) : State := if s.canDir c o ≠ 2 then s.canRefuse c else (((s.canAccept c).canStore c o).setCanPend c o true).canStart c
def State.canAbort (s : State) (c o : Nat) : State := (s.canAccept c).setCanPend c o false

/-- Another enabled object has this ID and IDE (R551). -/
def State.canClash (s : State) (c o : Nat) (id : W32) : Bool :=
  (List.range 128).any fun p => decide (p ≠ o) && decide (s.canDir c p ≠ 0) && decide (s.rd (CAN_OBJ_ID c p) = id)

/-- A write of OBJ_ID (`ctl` false) or OBJ_CTL of object `o` (R551, R560). -/
def State.canConfig (s : State) (c o : Nat) (ctl : Bool) (v : W32) : State :=
  let off := 0x400 + 8 * o + (if ctl then 4 else 0)
  let dir := s.canDir c o
  if ctl then
    let k := v &&& 0x3F
    let d := fldOf k 1 0
    if d = 3 ∨ (bitOf k 3 ∧ bitOf k 5) then s.err (canPage c) .value off
    else if dir ≠ 0 ∧ d ≠ dir ∧ d ≠ 0 then s.err (canPage c) .state off
    else if d ≠ 0 ∧ s.canClash c o (s.rd (CAN_OBJ_ID c o)) then s.err (canPage c) .value off
    else if d = 0 ∧ (s.can c).cur.any (fun x => x.1 == o) then s.setCan c { s.can c with off := some k }
    else s.wr (CAN_OBJ_CTL c o) k
  else
    let i := v &&& 0x3FFFFFFF
    if dir ≠ 0 ∧ i ≠ s.rd (CAN_OBJ_ID c o) then s.err (canPage c) .state off else s.wr (CAN_OBJ_ID c o) i

/-! ### Modes and recovery (R556, R558) -/

/-- A write of CAN_CTL: leaving INIT needs sound timing; the mode takes effect later (R549, R556). -/
def State.canModeWrite (s : State) (c : Nat) (v : W32) : State :=
  let w := v &&& 0x3F
  if s.fld (CAN_CAN_CTL c) 1 0 = 0 ∧ fldOf w 1 0 ≠ 0 ∧ s.canTiming c = false then (s.wr (CAN_CAN_CTL c) (withFld w 1 0 0)).err (canPage c) .value 0x40
  else s.wr (CAN_CAN_CTL c) w

/-- The requested mode takes effect, but not while bus-off (R556, R558). -/
def State.canModeEffect (s : State) (c : Nat) : State :=
  if s.fld (CAN_CAN_STAT c) 1 0 = 2 then s else ((s.canEnd c).wrFld (CAN_CAN_STAT c) 6 5 (s.fld (CAN_CAN_CTL c) 1 0)).canStart c

/-- CAN_CMD.RECOVER (R558). -/
def State.canRecover (s : State) (c : Nat) : State := if s.fld (CAN_CAN_STAT c) 1 0 ≠ 2 then s.err (canPage c) .state 0x48 else s.wrBit (CAN_CAN_STAT c) 3 true

/-- Recovery ends: ERROR_ACTIVE, and a mode written meanwhile takes effect (R558). -/
def State.canRecovered (s : State) (c : Nat) : State :=
  if !s.bit (CAN_CAN_STAT c) 3 then s
  else (((((s.wr (CAN_ERR_CNT c) 0).wrBit (CAN_CAN_STAT c) 3 false).canState c).raise (canPage c) 2).canModeEffect c)

/-! ### The meanings -/

def execCanFrameReceived (c : Fin 2) (f : CanFrame) (sof : BitVec 64) (res : Bool) (s : State) : Host.Outcome State Fault Refusal := .next (s.canReceive c.val f sof.toNat res)
def execCanTxComplete (c : Fin 2) (tdcv : BitVec 8) (s : State) : Host.Outcome State Fault Refusal := .next (s.canComplete c.val tdcv.toNat)
def execCanBusError (c : Fin 2) (code : Fin 7) (data tx dom exc : Bool) (s : State) : Host.Outcome State Fault Refusal := .next (s.canBusError c.val code.val data tx dom exc)
def execCanObjRead (c : Fin 2) (o : Fin 128) (s : State) : Host.Outcome State Fault Refusal := .next (s.canRead c.val o.val)
def execCanObjWrite (c : Fin 2) (o : Fin 128) (s : State) : Host.Outcome State Fault Refusal := .next (s.canWrite c.val o.val)
def execCanObjSend (c : Fin 2) (o : Fin 128) (s : State) : Host.Outcome State Fault Refusal := .next (s.canSend c.val o.val)
def execCanObjWriteSend (c : Fin 2) (o : Fin 128) (s : State) : Host.Outcome State Fault Refusal := .next (s.canWriteSend c.val o.val)
def execCanObjAbort (c : Fin 2) (o : Fin 128) (s : State) : Host.Outcome State Fault Refusal := .next (s.canAbort c.val o.val)
def execCanObjConfig (c : Fin 2) (o : Fin 128) (ctl : Bool) (v : W32) (s : State) : Host.Outcome State Fault Refusal := .next (s.canConfig c.val o.val ctl v)
def execCanRecover (c : Fin 2) (s : State) : Host.Outcome State Fault Refusal := .next (s.canRecover c.val)
def execCanRecovered (c : Fin 2) (s : State) : Host.Outcome State Fault Refusal := .next (s.canRecovered c.val)
def execCanModeWrite (c : Fin 2) (v : W32) (s : State) : Host.Outcome State Fault Refusal := .next (s.canModeWrite c.val v)
def execCanModeEffect (c : Fin 2) (s : State) : Host.Outcome State Fault Refusal := .next (s.canModeEffect c.val)
def execCanInjArm (c : Fin 2) (v : W32) (s : State) : Host.Outcome State Fault Refusal := .next (s.canInjArm c.val v)
def execProtocolExceptionEnd (c : Fin 2) (s : State) : Host.Outcome State Fault Refusal := .next (s.canExcEnd c.val)

end Sys2Proof.Machine
end

