-- ==== Sys2Proof/Machine/PairCmd.lean ====
section
/-! DEFINITION. The commands of a redundant pair: HANDOVER, TAKE and RESYNC (R392, R394, R397). -/

namespace Sys2Proof.Machine

/-- The crosslink is UP. -/
def State.xlkUp (s : State) : Bool := s.portUp 2

/-- XLK_CMD.HANDOVER: accepted only on an active device whose last received ACK showed FIT; TOKEN names the switch time (R392). -/
def State.handover (s : State) : State :=
  if s.role = roleActive ∧ s.xlk.gotFit = true ∧ s.xlkUp = true then
    let e := (s.epoch + 1) % 256
    let t := s.dt + s.fld XLK_HO_LEAD 23 0
    ({ s with xlk := { s.xlk with token := some (e, t) } } : State).xlkSend (.token e t)
  else s.err xlkPage .state 0x48

/-- XLK_CMD.TAKE: an ORPHAN device becomes ACTIVE with EPOCH + 1; refused while the crosslink is UP (R394). -/
def State.takeCmd (s : State) : State :=
  if s.role = roleOrphan ∧ s.xlkUp = false then ((s.takeToken).takeDuty).showLinks else s.err xlkPage .state 0x48

/-- A copy of every region begins: SYNCED and FIT clear (R388, R391, R397). -/
def State.copyBegins (s : State) : State :=
  let s1 : State := { s with xlk := { s.xlk with copying := true, agreed := [], diverged := [] } }
  (((s1.wrBit XLK_XLK_STAT 5 false).wrFld XLK_XLK_STAT 22 16 0).wr XLK_SYNC_PROG 0).fitFalls

/-- XLK_CMD.RESYNC (R397); without a peer it is refused. -/
def State.resyncCmd (s : State) : State :=
  if (s.role = roleActive ∨ s.role = roleStandby) ∧ s.xlkUp = true then s.copyBegins else s.err xlkPage .state 0x48

/-- A write of XLK_CMD. -/
def State.xlkCmd (s : State) (v : W32) : State :=
  ((s.when (bitOf v 0) fun st => st.handover).when (bitOf v 1) fun st => st.takeCmd).when (bitOf v 2) fun st => st.resyncCmd

def execXlkHandover (s : State) : Host.Outcome State Fault Refusal := .next s.handover
def execXlkTake (s : State) : Host.Outcome State Fault Refusal := .next s.takeCmd
def execXlkResync (s : State) : Host.Outcome State Fault Refusal := .next s.resyncCmd

end Sys2Proof.Machine
end

