-- ==== Sys2Proof/Machine/LtbStep.lean ====
section
/-! DEFINITION. The LTB step (R43, R46, R350) and the coherent snapshot of the line (R31, R601). -/

namespace Sys2Proof.Machine

/-- The LTB step: every 1.024 µs the ports are sampled, the line is integrated, commits that wait for a time or an angle are looked at, and every prediction that follows the line is refined. `ds` gives
how far each port's two counters have moved since its last sample. At a device time that is no multiple of 4,096 ticks there is no step (R15). -/
def State.ltbStep (s : State) (ds : List (Int × Int)) : State :=
  if s.dt % 4096 ≠ 0 then s
  else
    let s1 := ((s.portsSample ds).lineStep).commitsDue
    let s2 := (s1.ascLine.winLook none).emusStep
    ((s2.each (List.range 64) fun n st => st.stepRepredict n).showLoads).showUtil

/-- After a step of device time from `t0`, what is aimed at a skipped instant is applied: acquisition intervals, commits, pulse ends, ring actions (R56, R447). -/
def State.afterStep (s : State) (t0 : Nat) : State := if s.dt ≤ t0 then s else (((s.acqStepped t0).commitsDue).fcoEnds).acqRingAct

/-- The meaning of CM_ELECTION. -/
def execCmElection (s : State) : Host.Outcome State Fault Refusal := .next (s.cmElection.afterStep s.dt)
/-- The meaning of START_FRAME_RECEIVED. -/
def execStartFrameReceived (f : FormFrame) (s : State) : Host.Outcome State Fault Refusal := .next ((s.startReceived f).afterStep s.dt)
/-- The meaning of RING_JOIN. -/
def execRingJoin (s : State) : Host.Outcome State Fault Refusal := .next (s.ringJoin.afterStep s.dt)
/-- The meaning of JOIN_DONE. -/
def execJoinDone (s : State) : Host.Outcome State Fault Refusal := .next (s.joinDone.afterStep s.dt)

/-- The meaning of LTB_STEP. -/
def execLtbStep (ds : List (Int × Int)) (s : State) : Host.Outcome State Fault Refusal := .next (s.ltbStep ds)

end Sys2Proof.Machine
end

