-- ==== Sys2Proof/Machine/DmaCh.lean ====
section
/-! DEFINITION. The DMA channels' descriptors, start and states, without the data they move (R525 to R528, R543). -/

namespace Sys2Proof.Machine

def dmaPage : Nat := 0x19000

/-- CH_STAT.STATE of channel `c` (R543). -/
def State.dmaState (s : State) (c : Nat) : Nat := s.fld (DMA_CH_STAT c) 1 0

/-- A local address in shared SRAM or in the external DRAM (R525, R530). -/
def State.ringMem (s : State) (a : Nat) : Bool := decide (s.regionOf a = .sram) || decide (s.regionOf a = .dram)

/-- A local address that is mapped (R525): the BAR0 map, its reserved ranges included, and the DRAM. -/
def State.dmaMapped (s : State) (a : Nat) : Bool := decide (a < mramHi) || decide (s.regionOf a = .dram)

/-- A descriptor (R526). -/
structure DmaDesc where
  src : Nat
  dst : Nat
  len : Nat
  flags : Nat
  rsv : Bool
  next : Nat
deriving DecidableEq, Repr

/-- The descriptor that 32 bytes spell (R526). -/
def dmaDescOf (b : List Byte) : DmaDesc :=
  let n := fun o k => leNat ((b.drop o).take k)
  ⟨n 0 8, n 8 8, n 16 3, n 20 4 % 64, decide (n 19 1 ≠ 0) || decide (64 ≤ n 20 4), n 24 8⟩

def DmaDesc.srcHost (d : DmaDesc) : Bool := d.flags % 2 == 1
def DmaDesc.dstHost (d : DmaDesc) : Bool := d.flags / 2 % 2 == 1
def DmaDesc.srcFix (d : DmaDesc) : Bool := d.flags / 4 % 2 == 1
def DmaDesc.dstFix (d : DmaDesc) : Bool := d.flags / 8 % 2 == 1
def DmaDesc.last (d : DmaDesc) : Bool := d.flags / 16 % 2 == 1
def DmaDesc.evt (d : DmaDesc) : Bool := d.flags / 32 % 2 == 1

/-- Whether a descriptor is invalid (R526). -/
def State.dmaInvalid (s : State) (d : DmaDesc) : Bool :=
  decide (d.len = 0) || (d.srcHost && d.dstHost) ||
    (d.srcFix && (decide (d.src % 32 ≠ 0) || decide (d.len % 32 ≠ 0))) || (d.dstFix && (decide (d.dst % 32 ≠ 0) || decide (d.len % 32 ≠ 0))) ||
    (!d.last && (decide (d.next % 32 ≠ 0) || !s.dmaMapped d.next)) || d.rsv

/-- Channel `c` stops in ERROR with code `e` (R528): counted, ERR raised. -/
def State.dmaFail (s : State) (c e : Nat) : State :=
  (((s.wrFld (DMA_CH_STAT c) 1 0 2).wrFld (DMA_CH_STAT c) 7 4 e).count (DMA_CNT c) 31 24 dmaPage 24).raise dmaPage (8 + c)

/-- Channel `c` takes up the descriptor at local address `a`, which lies in shared SRAM or DRAM (R526, R528). -/
def State.dmaFetch (s : State) (c a : Nat) : State :=
  let s1 := (s.wrFld (DMA_CH_STAT c) 1 0 1).wr (DMA_CUR_DESC c) (BitVec.ofNat 28 (a / 32) |>.zeroExtend 32)
  if !s.ringMem a then s1.dmaFail c 2
  else
    let b := s.bytesAt a 32
    if s.dmaInvalid (dmaDescOf b) then s1.dmaFail c 1 else { s1 with dmaDesc := tabSet c b s1.dmaDesc }

/-- Channel `c` begins a chain at DESC_ADDR: PEND, ERR and ABORTED clear (R527, R528). -/
def State.dmaBegin (s : State) (c : Nat) : State := (s.wr (DMA_CH_STAT c) 0).dmaFetch c (s.fld (DMA_DESC_ADDR c) 27 0 * 32)

/-- A START of channel `c`, from its register or from the router (R527): a channel with EN 0 does not start, which is recorded. -/
def State.dmaStart (s : State) (c : Nat) : State :=
  if !s.bit (DMA_CH_CTL c) 0 then s.err dmaPage .state (0x104 + 32 * c)
  else if s.dmaState c ≠ 1 then s.dmaBegin c
  else if !s.bit (DMA_CH_STAT c) 2 then s.wrBit (DMA_CH_STAT c) 2 true
  else (s.count (DMA_CNT c) 23 16 dmaPage 24).raise dmaPage (16 + c)

/-- The channel stops where it stands: PEND clears, ABORTED is set (R527). -/
def State.dmaStop (s : State) (c : Nat) : State :=
  let s1 := s.wrBit (DMA_CH_STAT c) 2 false
  if s.dmaState c ≠ 1 then s1 else (s1.wrFld (DMA_CH_STAT c) 1 0 0).wrBit (DMA_CH_STAT c) 3 true

/-- The meaning of DMA_START (R527). -/
def execDmaStart (c : Fin 8) (s : State) : Host.Outcome State Fault Refusal := .next (s.dmaStart c)

end Sys2Proof.Machine
end

