-- ==== Sys2Proof/Machine/Router.lean ====
section
/-! DEFINITION. The event router's commands: the action queue, EVR_CTL, the ROUTE entries (R480 to R485). -/

namespace Sys2Proof.Machine

def evrPage : Nat := 0x5000

/-- The requester number that a router's COMMIT bears, beside those of R601. -/
def routerReq : Nat := 15

/-- Execute one hardware action (R483). -/
def State.routerAct (s : State) (a : RouterAct) : State :=
  match a.target with
  | 1 => s.sheafTrigger a.arg 0 a.src a.time
  | 2 => s.fcoDrive a.arg true
  | 3 => s.fcoDrive a.arg false
  | 4 => s.dmaStart a.arg
  | 5 => s.commitWrite routerReq ((s.rd (EVR_ACT_ADDR a.arg)).toNat / 0x1000 * 0x1000) 1
  | _ => s

/-- The queue releases its oldest action (R483); a flush trigger that has waited for it alone is taken (R466). -/
def State.routerRelease (s : State) : State :=
  match s.actions with
  | [] => s
  | a :: rest => (({ s with actions := rest } : State).routerAct a).flushLate

/-- A write of EVR_CTL: once EN is set again, a KIND 1 source that is still pending sends one message, in the order of priority (R480, R481). -/
def State.evrWrite (s : State) (v : W32) : State :=
  let s1 := s.wr EVR_EVR_CTL (v &&& 1)
  if bitOf v 0 ∧ ¬ s.bit EVR_EVR_CTL 0 then
    s1.each (s1.bySrcPrio ((List.range 512).filter fun e => routeKind (s1.route e) == 1 && s1.srcPending e)) fun e st => st.sendMsix (routeTarget (st.route e))
  else s1

/-- A ROUTE value that names no kind, vector, line or action (R481, R483, R494). -/
def routeBad (v : W32) : Bool :=
  let t := routeTarget v
  let a := routeArg v
  match routeKind v with
  | 0 => false
  | 1 => decide (63 < t)
  | 2 => decide (127 < t)
  | 3 => decide (15 < t)
  | 4 =>
    match t with
    | 1 => decide (15 < a)
    | 2 => decide (15 < a)
    | 3 => decide (15 < a)
    | 4 => decide (7 < a)
    | 5 => decide (7 < a)
    | _ => true
  | _ => true

/-- PAGE_CTL.LOCKED of the page at `page` (R592). -/
def State.locked (s : State) (page : Nat) : Bool := s.bit (page + 4) 2

/-- A write of ROUTE.e by requester `r` (R483, R485). -/
def State.routeWrite (s : State) (r : Requester) (e : Nat) (v : W32) : State :=
  if s.locked evrPage then s.err evrPage .locked (0x800 + 4 * e)
  else if (routeKind v = 3 ∨ routeKind (s.route e) = 3) ∧ r ≠ .safety then s.err evrPage .access (0x800 + 4 * e)
  else if routeBad v then s.err evrPage .value (0x800 + 4 * e)
  else s.wr (EVR_ROUTE e) (v &&& 0xFF077F07)

/-- The meaning of ROUTER_ACTION. -/
def execRouterAction (s : State) : Host.Outcome State Fault Refusal := .next s.routerRelease

/-- The meaning of EVR_EN_WRITE. -/
def execEvrEnWrite (v : W32) (s : State) : Host.Outcome State Fault Refusal := .next (s.evrWrite v)

/-- The meaning of ROUTE_WRITE. -/
def execRouteWrite (r : Requester) (e : Fin 512) (v : W32) (s : State) : Host.Outcome State Fault Refusal := .next (s.routeWrite r e.val v)

end Sys2Proof.Machine
end

