-- ==== Sys2Proof/Machine/HostPorts.lean ====
section
/-! DEFINITION. The host ports but for the data that DMA moves: the PCIe endpoint, the Ethernet MACs and PTP, the boot flash, MRAM writes, JTAG and debug (R519 to R547, R565). -/

namespace Sys2Proof.Machine

def pciPage : Nat := 0x18000
def ethPage (n : Nat) : Nat := 0x1A000 + n * 0x1000
def memPage : Nat := 0x1D000
def lcsPage : Nat := 0x2000

/-! ### The PCIe endpoint (R519, R523, R565) -/

/-- The register lies in the PCI page, and in the DMA page. -/
def inPci (a : Nat) : Bool := decide (a / 0x1000 = 0x18)
def inDma (a : Nat) : Bool := decide (a / 0x1000 = 0x19)

/-- The staged halves and the latches of the requesters `p` are those of their reset (R601). -/
def State.dropHalves (s : State) (p : Nat → Bool) : State := { s with staged := tabDrop (fun k => p (k % 16)) s.staged, latched := tabDrop (fun k => p (k % 16)) s.latched }

/-- The DMA page returns to its reset values: every channel is aborted (R523). -/
def State.dmaReset (s : State) : State := ({ s with regs := s.regs.filter fun kv => !inDma kv.1, dmaDesc := [] } : State).dropHalves fun r => decide (6 ≤ r)

/-- The PCI and DMA pages return to their reset values, the MSI-X table and the pending bits empty; what the descriptor and the link gave stays (R523, R542). -/
def State.pciReset (s : State) : State :=
  { s with
    regs := s.regs.filter fun kv => !(inDma kv.1 || (inPci kv.1 && decide (kv.1 ≠ PCI_PCI_ID) && decide (kv.1 ≠ PCI_LINK_STAT)))
    dmaDesc := [] }.dropHalves fun r => decide (r = 0) || decide (6 ≤ r)

/-- A Function Level Reset (R523). -/
def State.flr (s : State) : State := s.pciReset.raise pciPage 5

/-- PERST_N low: the endpoint and its two pages, with the link (R565). -/
def State.perst (s : State) : State := s.pciReset.wr PCI_LINK_STAT 0

/-- The link goes down: on DMA as an FLR, nothing else (R523). -/
def State.pcieDown (s : State) : State :=
  if !s.bit PCI_LINK_STAT 8 then s else (s.dmaReset.wrBit PCI_LINK_STAT 8 false).raise pciPage 0

/-- The link trains up at a supported speed (1 to 3) and width (R519, R542). -/
def State.pcieUp (s : State) (speed width : Nat) : State :=
  if speed = 0 ∨ 3 < speed ∨ !(width == 1 || width == 2 || width == 4) then s
  else (s.wr PCI_LINK_STAT (BitVec.ofNat 32 (speed + width * 16 + 256))).raise pciPage 3

/-! ### The Ethernet MACs (R529 to R531) -/

/-- The big-endian number of bytes `i` to `i + n − 1` of a frame. -/
def beAt (f : List Byte) (i n : Nat) : Nat := ((f.drop i).take n).foldl (fun a b => a * 256 + b.toNat) 0

/-- Where the EtherType of a frame stands: VLAN tags pass unchanged (R529). -/
def etherAt (f : List Byte) : Nat := if beAt f 12 2 = 0x8100 then 16 else 12

/-- The place of the PTP message of a frame over Ethernet, IPv4 or IPv6 as `en` permits (bits 0 to 2), if it is an event message (R531). -/
def ptpEventAt (en : Nat) (f : List Byte) : Option Nat :=
  let e := etherAt f
  let ty := beAt f e 2
  let ihl := beAt f (e + 2) 1 % 16 * 4
  let at_ :=
    if ty = 0x88F7 ∧ en % 2 = 1 then some (e + 2)
    else if ty = 0x0800 ∧ en / 2 % 2 = 1 ∧ beAt f (e + 11) 1 = 17 ∧ beAt f (e + 2 + ihl + 2) 2 = 319 then some (e + 2 + ihl + 8)
    else if ty = 0x86DD ∧ en / 4 % 2 = 1 ∧ beAt f (e + 8) 1 = 17 ∧ beAt f (e + 44) 2 = 319 then some (e + 50)
    else none
  at_.filter fun k => decide (k < f.length) && decide (beAt f k 1 % 16 < 4)

/-- The MAC's filter on a destination address: whether it passes, the exact address hit, multicast, broadcast (R529). -/
def State.ethFilter (s : State) (n : Nat) (f : List Byte) : Bool × Option Nat × Bool × Bool :=
  let da := leNat (f.take 6)
  let bc := decide (da = 2 ^ 48 - 1)
  let mc := decide (da % 2 = 1)
  let hit := (List.range 4).find? fun a =>
    s.bit (ETH_ADDR_HI n a) 31 && decide (da = (s.rd (ETH_ADDR_LO n a)).toNat + s.fld (ETH_ADDR_HI n a) 15 0 * 2 ^ 32)
  let bin := Config.mcHash da % 64
  let hash := mc && !bc && (if bin < 32 then s.bit (ETH_MC_HASH_LO n) bin else s.bit (ETH_MC_HASH_HI n) (bin - 32))
  (s.bit (ETH_ETH_CTL n) 4 || bc || hash || hit.isSome, hit, mc && !bc, bc)

/-- One more in a field of CNT_ERR (R544, R6). -/
def State.ethCount (s : State) (n hi lo : Nat) : State := s.count (ETH_CNT_ERR n) hi lo (ethPage n) 2

/-- Ticks of one bit time at the MAC's speed. -/
def State.ethBit (s : State) (n : Nat) : Nat :=
  match s.fld (ETH_ETH_STAT n) 2 1 with
  | 0 => 400
  | 1 => 40
  | _ => 4

/-- The frame is a PAUSE frame (R529). -/
def isPause (f : List Byte) : Bool := decide (beAt f 0 6 = 0x0180C2000001) && decide (beAt f 12 2 = 0x8808) && decide (beAt f 14 2 = 1)

/-- The local address of descriptor `i` of a ring whose base register holds `b` (R530). -/
def ringAt (b i : Nat) : Nat := b * 32 + i * 32

/-- The descriptor at `a` belongs to the MAC: handed over by the tail and marked OWN (R530). -/
def State.ringOwn (s : State) (a head tail : Nat) : Bool := decide (head ≠ tail) && s.ringMem a && (s.byteAt (a + 11)).getLsbD 7

/-- Store bytes of a frame where the buffer lies in memory that an Ethernet ring reaches (log 34). -/
def State.putRing (s : State) (a : Nat) (bs : List Byte) : State := if s.ringMem a && s.ringMem (a + (bs.length - 1)) then s.putBytes a bs else s

/-- Store a received frame in descriptor `a` (R530, R531). -/
def State.ethStore (s : State) (n a : Nat) (f : List Byte) (crcOk ts : Bool) : State :=
  let (_, hit, mc, bc) := s.ethFilter n f
  let (fr, s0) := s.nextFree
  let idx := match hit with
    | some k => k
    | none => (Config.freeWord fr).toNat % 4
  let w2 := f.length % 2 ^ 14 + (if ts then 2 ^ 28 else 0) + (if crcOk then 0 else 2 ^ 29)
  let info := idx + (if mc then 4 else 0) + (if bc then 8 else 0) + (if crcOk then 0 else 16)
  let t := wrapTo 64 ((s.dt : Int) - signedOf 16 (s.fld (ETH_TS_LAT n) 31 16))
  let s1 := s0.putRing (s0.memNat a 8 % 2 ^ 33) f
  let s2 := ((s1.putNat (a + 8) 4 w2).putNat (a + 12) 4 info).putNat (a + 24) 8 0
  (if ts then s2.putNat (a + 16) 8 t else s2)

/-- A frame (without its FCS) arrives: filter, PAUSE, length, the descriptor, the timestamp (R529 to R531). The instant is that of the first bit after the start frame delimiter. -/
def State.ethRx (s : State) (n : Nat) (f : List Byte) (crcOk : Bool) : State :=
  let pause := isPause f && s.bit (ETH_ETH_CTL n) 3
  if !s.bit (ETH_ETH_CTL n) 0 ∨ f.length < 60 ∨ !(s.ethFilter n f).1 && !pause then s
  else
    let all := s.bit (ETH_PTP_CTL n) 0
    let s1 := if crcOk then s else s.ethCount n 7 0
    if !crcOk ∧ !all then s1
    else if crcOk && pause then { s1 with ethPause := tabSet n (s1.dt + beAt f 16 2 * 512 * s1.ethBit n) s1.ethPause }
    else if s1.fld (ETH_ETH_CTL n) 31 16 < f.length + 4 ∨ s1.fld (ETH_RX_BUF n) 13 0 < f.length then s1.ethCount n 23 16
    else
      let head := s1.fld (ETH_HEAD n) 27 16
      let a := ringAt (s1.fld (ETH_RX_BASE n) 27 0) head
      if s1.ringOwn a head (s1.fld (ETH_TAIL n) 27 16) then
        let ts := all || (ptpEventAt (s1.fld (ETH_PTP_CTL n) 3 1) f).isSome
        let s2 := (s1.granted 1 0 3).ethStore n a f crcOk ts
        (s2.wrFld (ETH_HEAD n) 27 16 ((head + 1) % max 1 (s2.fld (ETH_RING_LEN n) 27 16))).raise (ethPage n) 3
      else (s1.raise (ethPage n) 1).ethCount n 15 8

/-- The frame with its Sync message's originTimestamp set to calendar time `cal`, in units of 0.25 ns (R531, R58). -/
def stampSync (f : List Byte) (cal : Int) : List Byte :=
  let k := etherAt f
  if beAt f k 2 = 0x88F7 ∧ beAt f (k + 2) 1 % 16 = 0 ∧ k + 46 ≤ f.length then
    f.take (k + 36) ++ (leBytes 6 (wrapTo 48 (cal / 4000000000))).reverse ++ (leBytes 4 ((cal % 4000000000).toNat / 4)).reverse ++ f.drop (k + 46)
  else f

/-- The MAC has sent the frame of its next transmit descriptor and returns it (R530, R531); none while a PAUSE holds it (R529). -/
def State.ethTx (s : State) (n : Nat) : State :=
  let head := s.fld (ETH_HEAD n) 11 0
  let a := ringAt (s.fld (ETH_TX_BASE n) 27 0) head
  if !s.bit (ETH_ETH_CTL n) 0 ∨ s.dt < tabGet 0 n s.ethPause ∨ !s.ringOwn a head (s.fld (ETH_TAIL n) 11 0) then s
  else
    let w2 := s.memNat (a + 8) 4
    let f := s.bytesAt (s.memNat a 8 % 2 ^ 33) (w2 % 2 ^ 14)
    let t := (s.dt : Int) + signedOf 16 (s.fld (ETH_TS_LAT n) 15 0)
    let f' := if s.bit (ETH_PTP_CTL n) 4 then stampSync f (s.ltb.rtcBase + t) else f
    let ts := decide (w2 / 2 ^ 28 % 2 = 1)
    let s1 : State := { s with ethOut := tabSet n f' s.ethOut }
    let s2 := (s1.granted 1 0 3).putNat (a + 8) 4 (w2 % 2 ^ 31)
    let s3 := (if ts then (s2.putNat (a + 16) 8 (wrapTo 64 t)).raise (ethPage n) 5 else s2)
    (s3.wrFld (ETH_HEAD n) 11 0 ((head + 1) % max 1 (s3.fld (ETH_RING_LEN n) 11 0))).raise (ethPage n) 4

/-- A write of TAIL (R530). -/
def State.ethTail (s : State) (n : Nat) (v : W32) : State := s.wr (ETH_TAIL n) (v &&& 0x0FFF0FFF)

/-- The lane's link or auto-negotiation state changes (R529, R544): 1000BASE-X has one speed, AN_DONE needs AN_EN. -/
def State.ethLink (s : State) (n : Nat) (link : Bool) (speed : Nat) (an : Bool) : State :=
  let sp := if s.bit (ETH_ETH_CTL n) 1 then speed else 2
  let v := BitVec.ofNat 32 ((if link then 1 else 0) + sp * 2 + (if an && s.bit (ETH_ETH_CTL n) 2 then 8 else 0))
  if v = s.rd (ETH_ETH_STAT n) then s else (s.wr (ETH_ETH_STAT n) v).raise (ethPage n) 0

/-! ### PTP (R532, R57) -/

/-- A committed measurement of MAC `n`: the first after MODE became 2 is added to the RTC base, each becomes DISC_ERR. A measurement whose ps do not fit DISC_ERR shows a free value there. -/
def State.ptpMeasured (s : State) (n : Nat) : State :=
  let m := signedOf 32 (s.rd (ETH_PTP_MEAS n)).toNat
  if !(decide (s.fld LTB_DISC_CTL 1 0 = 2) && s.bit (ETH_PTP_CTL n) 5) then s
  else
    let first := !s.ltb.ptpSeen
    let s1 : State := { s with ltb := { s.ltb with ptpSeen := true, rtcBase := if first then s.ltb.rtcBase + 4 * m else s.ltb.rtcBase } }
    let s2 := (s1.discMeasure (m * 1000)).when first fun s => (s.wrBit LTB_STATUS 11 true).raise ltbPage 7
    let (f, s3) := s2.nextFree
    let s4 := s3.wr LTB_DISC_ERR (if m * 1000 = satTo 32 (m * 1000) then s3.rd LTB_DISC_ERR else Config.freeWord f)
    s4.wrBit LTB_STATUS 15 (first || decide (m.natAbs < 1000))

/-- A write of PTP_T_HI commits the measurement (R532). -/
def State.ptpCommit (s : State) (n : Nat) (v : W32) : State := (s.wr (ETH_PTP_T_HI n) v).ptpMeasured n

/-! ### MDIO (R529, R544) -/

/-- A write of MDIO with GO: the access starts (R544). -/
def State.mdioGo (s : State) (v : W32) : State :=
  if s.bit (ETH_MDIO 0) 12 then s.err (ethPage 0) .busy 0xA0 else s.wr (ETH_MDIO 0) (withBit (v &&& 0xFFFF07FF) 12 true)

/-- The access ends: a read returns the PHY's data. -/
def State.mdioDone (s : State) (data : Nat) : State :=
  if !s.bit (ETH_MDIO 0) 12 then s
  else (s.when (s.bit (ETH_MDIO 0) 10) fun s => s.wrFld (ETH_MDIO 0) 31 16 data).wrBit (ETH_MDIO 0) 12 false

/-! ### The boot flash (R535, R536) -/

/-- The byte at flash address `a`; the state lists the complement, so that an erased byte, 0xFF, is unlisted (log 34). -/
def State.flashByte (s : State) (a : Nat) : Byte := ~~~ memGet a s.flash

/-- Store bytes in the flash from address `a` on. -/
def State.putFlash (s : State) (a : Nat) : List Byte → State
  | [] => s
  | b :: t => ({ s with flash := memSet a (~~~ b) s.flash }).putFlash (a + 1) t

/-- A flash command of kind 1 READ, 2 PROGRAM, 3 ERASE (R536). -/
def State.flCmd (s : State) (kind len : Nat) : State :=
  let a := s.fld MEM_FL_ADDR 28 0
  if s.bit MEM_MEM_STAT 1 then s.err memPage .busy 0x58
  else if kind ≠ 3 ∧ (len = 0 ∨ 256 < len) then s.err memPage .value 0x58
  else if kind = 2 ∧ s.flashGeo.page < a % s.flashGeo.page + len then s.err memPage .value 0x58
  else { s with flashCmd := some ⟨kind, a, len⟩ }.wrBit MEM_MEM_STAT 1 true

/-- The first `n` bytes of FL_BUF. -/
def State.flBuf (s : State) (n : Nat) : List Byte := ((List.range 64).flatMap fun k => leBytes 4 (s.rd (MEM_FL_BUF k)).toNat).take n

/-- Store bytes in FL_BUF from its start. -/
def State.setFlBuf (s : State) (bs : List Byte) : State :=
  let all := bs ++ (s.flBuf 256).drop bs.length
  s.each (List.range ((bs.length + 3) / 4)) fun k st => st.wr (MEM_FL_BUF k) (BitVec.ofNat 32 (leNat ((all.drop (4 * k)).take 4)))

/-- `n` free bytes. -/
def State.freeBytes (s : State) (n : Nat) : List Byte × State :=
  let (f, s1) := s.takeFree n
  ((List.range n).map fun i => BitVec.ofNat 8 (Config.freeWord (f + i)).toNat, s1)

/-- The smallest erase unit around flash address `a`. -/
def State.eraseAt (s : State) (a : Nat) : Nat := a / max 1 s.flashGeo.unit * s.flashGeo.unit

/-- The end of the flash command `c`; after a status error the bytes it was to change are free (R536, log 34). -/
def State.flEnd (s : State) (c : FlashCmd) (err : Bool) : State :=
  let s0 := { s with flashCmd := none }.wrBit MEM_MEM_STAT 1 false
  if err then
    let (bs, s1) := s0.freeBytes (if c.kind = 3 then s.flashGeo.unit else c.len)
    (if c.kind = 1 then s1.setFlBuf bs else if c.kind = 2 then s1.putFlash c.addr bs else s1.putFlash (s1.eraseAt c.addr) bs).raise memPage 5
  else
    (if c.kind = 1 then s0.setFlBuf ((List.range c.len).map fun i => s0.flashByte (c.addr + i))
     else if c.kind = 2 then s0.putFlash c.addr (s0.flBuf c.len)
     else { s0 with flash := memWipe (s0.eraseAt c.addr) (s0.eraseAt c.addr + s0.flashGeo.unit) s0.flash }).raise memPage 4

def State.flDone (s : State) (err : Bool) : State :=
  match s.flashCmd with
  | none => s
  | some c => s.flEnd c err

/-! ### MRAM writes (R537) -/

/-- MW_CMD.WRITE: only a block of the user partition (R537). -/
def State.mwWrite (s : State) : State :=
  let a := s.fld MEM_MW_ADDR 22 6 * 64
  if s.bit MEM_MEM_STAT 0 then s.err memPage .busy 0x50
  else if a < 0x600000 then s.err memPage .value 0x4C
  else
    let bs := (List.range 16).flatMap fun k => leBytes 4 (s.rd (MEM_MW_BUF k)).toNat
    { s with mramCmd := some (mramLo + a, bs) }.wrBit MEM_MEM_STAT 0 true

/-- The block is written (R537). -/
def State.mwDone (s : State) : State :=
  match s.mramCmd with
  | none => s
  | some (a, bs) => ((({ s with mramCmd := none }.wrBit MEM_MEM_STAT 0 false).putBytes a bs).mramWrote a (a + 64)).raise memPage 3

/-! ### JTAG (R539) -/

/-- The life-cycle state (R582). -/
def State.lifeCycle (s : State) : Nat := s.fld LCS_LC_STATE 1 0

/-- BLANK or RETURN: every instruction is available (R539). -/
def State.openLife (s : State) : Bool := s.lifeCycle == 0 || s.lifeCycle == 3

/-- Permission bit `b` of an open debug session (R540, R582). -/
def State.permits540 (s : State) (b : Nat) : Bool := s.bit LCS_DBG_STAT 7 && s.bit LCS_DBG_STAT b

/-- IDCODE (R539): revision letter C, part 0x6480, Vordal's identity, 1. -/
def idcode : W32 := BitVec.ofNat 32 (2 * 2 ^ 28 + 0x6480 * 2 ^ 12 + Config.jep106 % 2 ^ 11 * 2 + 1)

/-- EXTEST, CLAMP and HIGHZ: by the life cycle, and only with every axis OFF and every stage link off (R539). -/
def State.boundaryOk (s : State) : Bool :=
  (s.openLife || (s.lifeCycle == 1 && s.permits540 6)) && ((List.range 64).all fun n => (tabGet Axis.reset n s.axes).st == .off) && decide (s.linksOn = 0)

/-- A boundary instruction comes into force, or is refused (R539). -/
def State.boundary (s : State) (i : JtagIr) : State := if s.boundaryOk then { s with jtagIr := i } else s

/-- DBG_ACCESS: refused when locked; open to BLANK and RETURN, else the start of a challenge with a fresh nonce (R539, R540). -/
def State.dbgAccess (s : State) : State :=
  if s.bit LCS_DBG_STAT 10 then s
  else if s.openLife then { s with jtagIr := .dbgAccess }.wrFld LCS_DBG_STAT 7 0 0xFF
  else
    let (f, s1) := s.takeFree 12
    { s1 with jtagIr := .dbgAccess, nonce := (List.range 12).map fun i => Config.freeWord (f + i) }

/-- A response that fails; the third locks DBG_ACCESS (R540). -/
def State.authFail (s : State) : State :=
  let n := s.fld LCS_DBG_STAT 9 8 + 1
  (((s.wrFld LCS_DBG_STAT 9 8 (min 3 n)).when (decide (3 ≤ n)) fun s => s.wrBit LCS_DBG_STAT 10 true)).raise lcsPage 1

/-- A response with a permission mask; `sigOk` says that its signature verifies under the debug key (R540). -/
def State.debugAuth (s : State) (mask : Nat) (sigOk : Bool) : State :=
  if s.bit LCS_DBG_STAT 10 ∨ s.jtagIr ≠ .dbgAccess ∨ s.nonce = [] then s
  else
    let s1 : State := { s with nonce := [] }
    if sigOk && s.bit LCS_KEY_STAT 1 then s1.wrFld LCS_DBG_STAT 7 0 (128 + (if s.inProduce then mask &&& 0x05 else mask % 128))
    else s1.authFail

/-- The timer freeze takes hold on every local channel (R297). -/
def State.freezeOn (s : State) : State :=
  if s.freezeAt.isSome then s else { s with freezeAt := some s.dt }.each (List.range 6) fun c st => st.wrBit (GDV_FLT_STAT c) 12 true

/-- The times a channel's timer waits for, moved on by `d` ticks. -/
def Ldc.moveOn (x : Ldc) (d : Nat) : Ldc :=
  { x with
    due := x.due.map fun e => (e.1, e.2 + d)
    preEnd := x.preEnd.map (· + d)
    startAt := x.startAt.map (· + d)
    since := x.since + d
    comAt := x.comAt.map (· + d)
    comLast := x.comLast + d
    ipdAt := x.ipdAt + d
    recatchAt := x.recatchAt.map (· + d) }

/-- The timer freeze ends: every LDC timer goes on where it stopped (R297). -/
def State.freezeOff (s : State) : State :=
  match s.freezeAt with
  | none => s
  | some t =>
    let d := s.dt - t
    { s with freezeAt := none }.each (List.range 6) fun c st =>
      ((st.wrBit (GDV_FLT_STAT c) 12 false).setLdc c ((st.ldc c).moveOn d)).wr64 (LDC_PSTART_LO c) (st.pstart c + (if (st.ldc c).running then d else 0))

/-- A debug halt of processor `t` (0 to 3 application core, 4 to 12 loop processor, 13 safety processor), with the freeze option (R540, R541, R233, R406). In PRODUCE a halt with the freeze option is refused (R297). -/
def State.debugHalt (s : State) (t : Nat) (freeze : Bool) : State :=
  let go (ok : Bool) (f : State → State) : State := if ok && !(freeze && s.inProduce) then (f s).when (freeze && s.permits540 5) fun st => st.freezeOn else s
  if t < 4 then
    go (s.permits540 2 && decide (s.fld APC_CORE_STAT (2 * t + 1) (2 * t) ≠ 0)) fun st =>
      { st with dbgHalt := st.dbgHalt ||| 2 ^ t }.wrFld APC_CORE_STAT (2 * t + 1) (2 * t) 3
  else if t < 13 then (if s.inProduce then s.lpuHalt (t - 4) else go (s.permits540 3) fun st => st.lpuHalt (t - 4))
  else go (s.permits540 4) fun st => { st with dbgHalt := st.dbgHalt ||| 32 }

/-- The session ends: its permissions, its halts and the freeze end (R540, log 34). -/
def State.sessionEnd (s : State) : State :=
  if !s.bit LCS_DBG_STAT 7 then s
  else
    let s1 := (s.wrFld LCS_DBG_STAT 7 0 0).freezeOff
    let s2 := s1.each (List.range 4) fun c st => if st.dbgHalt / 2 ^ c % 2 = 1 then st.wrFld APC_CORE_STAT (2 * c + 1) (2 * c) 1 else st
    { s2 with dbgHalt := 0, lpus := s2.lpus.map fun e => (e.1, { e.2 with halted := false }) }

/-! ### The meanings -/

def execPerst (s : State) : Host.Outcome State Fault Refusal := .next s.perst
def execFlr (s : State) : Host.Outcome State Fault Refusal := .next s.flr
def execPcieLinkDown (s : State) : Host.Outcome State Fault Refusal := .next s.pcieDown
def execPcieLinkUp (speed : Fin 4) (width : Fin 16) (s : State) : Host.Outcome State Fault Refusal := .next (s.pcieUp speed.val width.val)
def execEthRxFrame (n : Fin 2) (data : List Byte) (crcOk : Bool) (s : State) : Host.Outcome State Fault Refusal := .next (s.ethRx n.val data crcOk)
def execEthTxDone (n : Fin 2) (s : State) : Host.Outcome State Fault Refusal := .next (s.ethTx n.val)
def execEthTailWrite (n : Fin 2) (v : W32) (s : State) : Host.Outcome State Fault Refusal := .next (s.ethTail n.val v)
def execEthLinkChg (n : Fin 2) (link : Bool) (speed : Fin 3) (an : Bool) (s : State) : Host.Outcome State Fault Refusal := .next (s.ethLink n.val link speed.val an)
def execPtpCommit (n : Fin 2) (v : W32) (s : State) : Host.Outcome State Fault Refusal := .next (s.ptpCommit n.val v)
def execMdioGo (v : W32) (s : State) : Host.Outcome State Fault Refusal := .next (s.mdioGo v)
def execMdioDone (data : BitVec 16) (s : State) : Host.Outcome State Fault Refusal := .next (s.mdioDone data.toNat)
def execFlRead (len : Fin 512) (s : State) : Host.Outcome State Fault Refusal := .next (s.flCmd 1 len.val)
def execFlProgram (len : Fin 512) (s : State) : Host.Outcome State Fault Refusal := .next (s.flCmd 2 len.val)
def execFlErase (len : Fin 512) (s : State) : Host.Outcome State Fault Refusal := .next (s.flCmd 3 len.val)
def execFlDone (bad : Bool) (s : State) : Host.Outcome State Fault Refusal := .next (s.flDone bad)
def execMwWrite (s : State) : Host.Outcome State Fault Refusal := .next s.mwWrite
def execMwDone (s : State) : Host.Outcome State Fault Refusal := .next s.mwDone
def execBypass (s : State) : Host.Outcome State Fault Refusal := .next { s with jtagIr := .bypass }
def execIdcode (s : State) : Host.Outcome State Fault Refusal := .next { s with jtagIr := .idcode, jtagDr := idcode }
def execSamplePreload (s : State) : Host.Outcome State Fault Refusal := .next { s with jtagIr := .sample }
def execExtest (s : State) : Host.Outcome State Fault Refusal := .next (s.boundary .extest)
def execHighz (s : State) : Host.Outcome State Fault Refusal := .next (s.boundary .highz)
def execJtagClamp (s : State) : Host.Outcome State Fault Refusal := .next (s.boundary .clamp)
def execDbgAccess (s : State) : Host.Outcome State Fault Refusal := .next s.dbgAccess
def execDebugAuth (mask : BitVec 7) (sigOk : Bool) (s : State) : Host.Outcome State Fault Refusal := .next (s.debugAuth mask.toNat sigOk)
def execDebugHalt (target : Fin 14) (freeze : Bool) (s : State) : Host.Outcome State Fault Refusal := .next (s.debugHalt target.val freeze)
def execDebugSessionEnd (s : State) : Host.Outcome State Fault Refusal := .next s.sessionEnd

end Sys2Proof.Machine
end

