-- ==== Sys2Proof/Machine/Thermal.lean ====
section
/-! DEFINITION. Thermal management and ageing: conversions, thresholds, the throttle, bands, the hardware shut-down; margins, re-planning, the ledger (R498 to R518). -/

namespace Sys2Proof.Machine

def thmPage : Nat := 0x6000
def agePage : Nat := 0x7000

/-- Sensor `k`. -/
def State.sensor (s : State) (k : Nat) : Sensor := tabGet Sensor.reset k s.sensors
def State.setSensor (s : State) (k : Nat) (x : Sensor) : State := { s with sensors := tabSet k x s.sensors }

/-- The field die's own clock, which no reset of the core die stops. -/
def State.fieldTime (s : State) : Nat := s.fieldT0 + s.dt

/-! ### Conversions (R498, R499) -/

/-- The natural logarithm of `n / d` in units of 2^-62: powers of two, then the series of the inverse hyperbolic tangent. -/
def lnRatio (n d : Nat) : Int :=
  let k : Int := (Nat.log2 n : Int) - Nat.log2 d
  -- m = (n / d) / 2^k lies between 1/2 and 2
  let m : Int := if k < 0 then (n * 2 ^ k.natAbs * one62.toNat / d : Nat) else (n * one62.toNat / (d * 2 ^ k.natAbs) : Nat)
  let z := div62 (m - one62) (m + one62)
  let c := [1, 3, 5, 7, 9, 11, 13, 15, 17, 19, 21, 23, 25, 27, 29, 31].map fun d => one62 / d
  k * 3196577161300663915 + 2 * mul62 z (series62 (mul62 z z) c)

/-- The temperature of a diode in 1/256 °C, from ΔV in µV, the series resistance in 0.1 Ω and the ideality factor in 2.14: q / (k ln 10) is 5,039.7781 K/V (R499). -/
def diodeTemp (dv : Int) (rser n : Nat) : Int := (dv - 9 * rser) * 16384 * 256 * 50397781 / (n * 10000000000) - 69926

/-- The temperature of a thermistor in 1/256 °C, from its voltage in µV, B in K and R25 in units of 10 Ω (R499). -/
def ntcTemp (v b r25 : Nat) : Int :=
  let ln := lnRatio (1000 * v) ((3000000 - v) * r25)
  let inv := one62 * 100 / 29815 + ln / b
  div62 (256 * one62) inv / one62 - 69926

/-- A conversion of sensor `k`: its reading in 1/256 °C, or none for a faulty channel (R499). For an on-die sensor `v1` is the reading, signed, and `bad` its built-in check; a diode is measured at both currents, in µV, a thermistor at `v1`. -/
def State.convert (s : State) (k v1 v2 : Nat) (bad : Bool) : Option Int :=
  let cal := s.rd (THM_SNS_CAL k)
  match s.fld (THM_SNS_CFG k) 1 0 with
  | 3 => if bad then none else some (signedOf 32 v1)
  | 1 =>
    let dv : Int := (v2 : Int) - v1
    if 1200000 < v1 ∨ 1200000 < v2 ∨ v1 < 100000 ∨ v2 < 100000 ∨ dv < 30000 ∨ 100000 < dv then none
    else if fldOf cal 15 0 = 0 then some (Config.freeInt s.free) else some (diodeTemp dv (fldOf cal 31 16) (fldOf cal 15 0))
  | 2 =>
    if v1 < 30000 ∨ 2970000 < v1 then none
    else if fldOf cal 15 0 = 0 ∨ fldOf cal 31 16 = 0 then some (Config.freeInt s.free) else some (ntcTemp v1 (fldOf cal 15 0) (fldOf cal 31 16))
  | _ => none

/-- A threshold in 8.8 °C: held as °C plus 64 (R500). -/
def thrOf (t : Nat) : Int := ((t : Int) - 64) * 256

/-- WARN or THROT of sensor `k` after a reading (R500). -/
def State.overAfter (s : State) (k a hi lo : Nat) (t : Int) : Bool :=
  let thr := thrOf (s.fld (THM_SNS_THR k) hi lo)
  let hyst : Int := max 1 (s.fld (THM_SNS_CFG k) 11 8) * 256
  if thr ≤ t then true else if t < thr - hyst then false else s.bit a k

/-- The scope of a sensor's THROT bit (R502). -/
def State.scope (s : State) (k : Nat) : Nat := if k < 6 then 0 else s.fld (THM_SNS_CFG k) 4 3

/-- The device throttle's condition (R501). -/
def State.throttleOn (s : State) : Bool := s.bit THM_THM_CTL 0 && (List.range 14).any fun k => s.bit THM_THROT k && s.scope k == 0

/-- The throttle begins or ends: THROTTLE, and its class on every slot when it begins (R501). -/
def State.throttleCheck (s : State) : State :=
  let on := s.throttleOn
  if on = s.bit THM_THM_STAT 0 then s
  else
    let s1 := ((s.wrBit THM_THM_STAT 0 on).raise thmPage 1).refreshReq
    if on then s1.faultAll (classOf (s.fld THM_FAULT_CFG 2 0)) none else s1

/-- The threshold bits of sensor `k` become `w` and `h` (R500 to R502). -/
def State.setOver (s : State) (k : Nat) (w h : Bool) : State :=
  let s1 := (s.wrBit THM_WARN k w).raiseIf (w != s.bit THM_WARN k) thmPage 0
  let s2 := (s1.wrBit THM_THROT k h).raiseIf (h != s.bit THM_THROT k && s.scope k == 2) thmPage 1
  s2.throttleCheck

/-! ### Bands (R505) -/

/-- The band of a reading without hysteresis. -/
def bandOf (t : Int) : Nat := if t < 0 then 0 else if t < 60 * 256 then 1 else if t ≤ 95 * 256 then 2 else 3

/-- The boundary between band `b` and the next, in 8.8 °C. -/
def bandEdge : Nat → Int
  | 0 => 0
  | 1 => 60 * 256
  | _ => 95 * 256

/-- The band after a reading: up at the boundary above, down 3 °C below the boundary beneath. -/
def bandAfter (b : Option Nat) (t : Int) : Nat :=
  match b with
  | none => bandOf t
  | some b =>
    let up (b : Nat) : Nat := if b < 3 ∧ bandEdge b ≤ t then b + 1 else b
    let down (b : Nat) : Nat := if 0 < b ∧ t ≤ bandEdge (b - 1) - 3 * 256 then b - 1 else b
    down (down (down (up (up (up b)))))

/-- The hottest valid reading of some sensors. -/
def State.hottest (s : State) (l : List Nat) : Option Int :=
  ((l.filter fun k => (s.sensor k).seen && !(s.sensor k).faulty).map fun k => (s.sensor k).temp).foldl (fun a t => match a with
    | none => some t
    | some m => some (max m t)) none

/-- The scrub interval in units of 7.5 min: by the core die's band, divided by 2^SCRUB_DIV (R506, R511). -/
def scrubInterval (band dv : Nat) : Nat := (if band = 3 then 16 else if band = 2 then 64 else 192) / 2 ^ dv

/-- The bands follow the readings; THM_STAT and the scrub interval show it (R505, R506). -/
def State.bandCheck (s : State) : State :=
  let next (b : Option Nat) (l : List Nat) : Option Nat := match s.hottest l with
    | none => b
    | some t => some (bandAfter b t)
  let c := next s.bands.1 [0, 1, 2, 3]
  let f := next s.bands.2 [4, 5]
  let s1 : State := { s with bands := (c, f) }
  s1.showBands.wrFld AGE_SCRUB 7 0 (scrubInterval (c.getD 1) (s.fld AGE_SCRUB 10 8))

/-! ### Shut-down and restart (R503, R504) -/

/-- The hardware shut-down by sensor `k`: the field die holds the core die in reset, everything is off, SD_REC and SD_CNT record it (a temperature that does not fit the field shows a free value there); a third within 60 minutes is final (R503, R504). -/
def State.thermalShutdown (s : State) (k : Nat) (t : Int) : State :=
  let now := s.fieldTime
  let times := now :: (s.shutdowns.filter fun u => decide (now < u + 14400000000000))
  let shown := if -64 ≤ t / 256 ∧ t / 256 < 192 then (t / 256 + 64).toNat else (Config.freeWord s.free).toNat % 256
  let s1 := (s.nextFree.2.wr THM_SD_REC (BitVec.ofNat 32 (k + shown * 256 + min 3 times.length * 65536))).wr THM_SD_CNT (s.rd THM_SD_CNT + 1)
  let s2 : State := { s1 with shutdowns := times, sensors := s1.sensors.map fun e => (e.1, { e.2 with atSd := 0 }) }
  s2.coldReset 4 (if 3 ≤ times.length then .locked else .thermal)

/-- A reading as SNS_TEMP shows it: one that the format does not hold shows a free value (R498, log 33). -/
def State.tempShown (s : State) (t : Int) : Nat := if t = satTo 16 t then wrapTo 16 t else (Config.freeWord s.free).toNat % 65536

/-- A valid reading of sensor `k`: the thresholds, the count at SD, the time below RESTART (R500, R503, R504). -/
def State.reading (s : State) (k : Nat) (t : Int) : State :=
  let x := s.sensor k
  let top := signedOf 16 (s.fld (THM_SNS_TEMP k) 31 16)
  let s1 := (s.nextFree.2.wrFld (THM_SNS_TEMP k) 15 0 (s.tempShown t)).wrFld (THM_SNS_TEMP k) 31 16 (s.tempShown (if x.seen then max top t else t))
  let valid := if x.faulty then x.valid + 1 else 0
  let s2 := s1.setSensor k { x with seen := true, valid := valid, faulty := x.faulty && decide (valid < 16), temp := t }
  if (s2.sensor k).faulty then s2
  else
    let s3 := if x.faulty then s2.wrBit THM_SNS_FAULT k false else s2
    let hot := decide (thrOf (s.fld (THM_SNS_THR k) 23 16) ≤ t)
    let below := if decide (t < thrOf (s.fld (THM_SNS_THR k) 31 24)) then (if x.below.isSome then x.below else some s.fieldTime) else none
    let n := if hot then x.atSd + 1 else 0
    let s4 := (((s3.setSensor k { s3.sensor k with atSd := n, below := below, valid := 0 }).setOver k (s3.overAfter k THM_WARN 7 0 t) (s3.overAfter k THM_THROT 15 8 t))).bandCheck
    if 2 ≤ n ∧ s.bit (THM_SNS_CFG k) 2 = true ∧ s.core ≠ .thermal ∧ s.core ≠ .locked then s4.thermalShutdown k t else s4

/-- Sensor `k` is found faulty: it takes no part in any threshold until 16 valid conversions (R499). -/
def State.sensorFault (s : State) (k : Nat) : State :=
  let x := s.sensor k
  let s1 := s.setSensor k { x with seen := true, faulty := true, valid := 0, atSd := 0, below := none }
  let s2 := if x.faulty then s1 else ((s1.wrBit THM_SNS_FAULT k true).raise thmPage 2).setOver k false false
  s2.bandCheck

/-- SENSOR_CONVERSION: a channel whose MODE is off converts nothing (R498 to R505). -/
def State.sensorConversion (s : State) (k v1 v2 : Nat) (bad : Bool) : State :=
  if s.fld (THM_SNS_CFG k) 1 0 = 0 then s
  else
    match s.convert k v1 v2 bad with
    | none => s.sensorFault k
    | some t => (s.nextFree.2).reading k t

/-- Sensor `k` permits the restart: below RESTART for 1 s, a faulty remote channel is left out, a faulty on-die sensor counts as hot (R504). -/
def State.sensorCool (s : State) (k : Nat) : Bool :=
  let x := s.sensor k
  !s.bit (THM_SNS_CFG k) 2 || (decide (6 ≤ k) && x.faulty) || (!x.faulty && (match x.below with
    | none => false
    | some t => decide (t + 4000000000 ≤ s.fieldTime)))

/-- The core die is released: device time starts at 0, the PLLs lock, the boot begins with the wipe, the recorder walks the granary (R14, R473, R563, R574). -/
def State.releaseCore (s : State) : State :=
  ((((({ s with core := .running, fieldT0 := s.fieldT0 + s.dt, dt := 0, wdtT := 0 } : State).wr GLB_BOOT_STAT 1).wrFld 0x8 3 0 1).wr CLK_PLL_STAT 0xFF).wrBit CLK_REF_STAT 0 true).granaryWalk

/-- THERMAL_RESTART (R504). -/
def State.thermalRestart (s : State) : State :=
  if s.core = .thermal ∧ ((List.range 14).all fun k => s.sensorCool k) = true then s.releaseCore.wrBit THM_THM_STAT 5 true else s

/-- THM_CMD CLR_MAX (R515). -/
def State.clrMax (s : State) : State := s.each (List.range 14) fun k st => st.wrFld (THM_SNS_TEMP k) 31 16 (st.fld (THM_SNS_TEMP k) 15 0)

/-! ### Ageing: margins (R508) -/

/-- A margin clamped to 0 to 100. -/
def clampPct (x : Int) : Nat := (clampInt 0 100 x).toNat

/-- V_REQ, V_REF, VMAX, SLACK, SLACK_LOW. -/
def State.vReq (s : State) : Nat := s.fld AGE_AVS 15 0
def State.vMax (s : State) : Nat := s.fld AGE_AVS_CFG 15 0

/-- The timing margin; with VMAX at V_REF the manual states no value (R508, log 33). -/
def State.marginTiming (s : State) : Nat :=
  let d : Int := (s.vMax : Int) - s.fld AGE_AVS 31 16
  if s.fld AGE_SLACK 15 0 < s.fld AGE_SLACK_THR 15 0 ∧ s.vMax ≤ s.vReq then 0
  else if d = 0 then clampPct (Config.freeInt s.free)
  else clampPct (100 * ((s.vMax : Int) - s.vReq) / d)

/-- The oscillator margin: 50 ppm is 214,748 in units of 2^-32. -/
def State.marginOsc (s : State) : Nat := clampPct (100 * (214748 - (s.age.refErr.natAbs : Int)) / 214748)

/-- The transition margin. -/
def State.marginTrans (s : State) : Nat :=
  let worst := (List.range 6).foldl (fun a c => max a (s.fld AGE_DT_RAISE (4 * c + 3) (4 * c))) 0
  clampPct (100 * (15 - (worst : Int)) / 15)

/-- The eye margin; without a measured eye it is 100. -/
def State.marginEye (s : State) : Nat :=
  let ref : Int := s.age.eyeRef
  if s.age.eyeRef = 0 then 100
  else if ref = 20 then clampPct (Config.freeInt (s.free + 1))
  else clampPct (100 * (((s.age.eyes.foldl (fun a e => min a e.2) 255 : Nat) : Int) - 20) / (ref - 20))

/-- The wear of the worst block of `[lo, hi)` in %, saturating at 255 (R512). -/
def State.wearOf (s : State) (lo hi : Nat) : Nat :=
  min 255 (s.age.tally.foldl (fun a e => if lo ≤ e.1 * 64 ∧ e.1 * 64 < hi then max a (100 * e.2 / 38147) else a) 0)

/-- The partitions of the MRAM: configuration, granary, ledger, user, as offsets (R584). -/
def State.wears (s : State) : List Nat := [s.wearOf 0 0x100000, s.wearOf 0x100000 0x500000, s.wearOf 0x500000 0x600000, s.wearOf 0x600000 0x800000]

/-- The LPU margin. -/
def State.marginLpu (s : State) : Nat :=
  match s.fld AGE_CAPACITY 11 8 with
  | 0 => 100
  | 1 => 50
  | _ => 0

/-- The margins in the order of R508. -/
def State.margins (s : State) : List Nat := [s.marginTiming, s.marginOsc, s.marginTrans, s.marginEye, 100 - min 100 (s.wears.foldl max 0), s.marginLpu]

/-- The smallest margin and its class. -/
def worstMargin (l : List Nat) : Nat × Nat := (l.zipIdx).foldl (fun a e => if e.1 < a.1 then e else a) (l.headD 100, 0)

/-- The margin is below PCT (R508). -/
def State.marginLow (s : State) : Bool := decide (s.fld AGE_MARGIN 7 0 < s.fld AGE_MARGIN_WARN 7 0)

/-- FORECAST is below HOURS (R508). -/
def State.forecastLow (s : State) : Bool := decide ((s.rd AGE_FORECAST).toNat < 10 * s.fld AGE_MARGIN_WARN 31 16)

/-- MARGIN is raised when the margin, or FORECAST, falls below its warning; `was` is the state before (R508). -/
def State.marginEvent (s was : State) : State := s.raiseIf ((!was.marginLow && s.marginLow) || (!was.forecastLow && s.forecastLow)) agePage 0

/-- MARGIN and WEAR follow the measurements; MARGIN is raised when the margin falls below the warning, and when an entry of the tally has saturated (R508, R512). -/
def State.marginsUpdate (s : State) : State :=
  let m := worstMargin s.margins
  let w := s.wears
  let s1 := ((s.takeFree 2).2.wr AGE_MARGIN (BitVec.ofNat 32 (m.1 + m.2 * 256))).wr AGE_WEAR (BitVec.ofNat 32 (w.getD 0 0 + w.getD 1 0 * 2 ^ 8 + w.getD 2 0 * 2 ^ 16 + w.getD 3 0 * 2 ^ 24))
  let sat := (s.age.tally.filter fun e => decide (65535 ≤ e.2)).length
  (({ s1 with age := { s1.age with saturated := sat } } : State).marginEvent s).raiseIf (decide (s.age.saturated < sat)) agePage 0

/-- The sums of the least-squares line over (hours, margin): n, Σx, Σy, Σxx, Σxy. -/
def lineSums (l : List (Nat × Nat)) : Int × Int × Int × Int × Int :=
  l.foldl (fun a e => (a.1 + 1, a.2.1 + e.2, a.2.2.1 + e.1, a.2.2.2.1 + (e.2 : Int) * e.2, a.2.2.2.2 + (e.2 : Int) * e.1)) (0, 0, 0, 0, 0)

/-- FORECAST from the daily margins of the last 90 days, each with its operating hours: the hours until the line reaches 0 (R508). -/
def forecastOf (l : List (Nat × Nat)) (now : Nat) : Nat :=
  let (n, sx, sy, sxx, sxy) := lineSums (l.take 90)
  let num := n * sxy - sx * sy
  let den := n * sxx - sx * sx
  if n < 7 ∨ 0 ≤ num ∨ den ≤ 0 then 0xFFFFFFFF
  else
    -- the line y = b + a x with a = num / den reaches 0 at x = sx/n − sy den / (n num)
    let x := (sx * num - sy * den) / (n * num)
    (clampInt 0 0xFFFFFFFE (x - now)).toNat

/-! ### Re-planning (R509 to R511) -/

/-- A step: its REPLAN record and the event; the places of its three numbers in the record are the model's (log 33). -/
def State.replan (s : State) (action inst old new : Nat) : State := (s.ledgerRecord 8 inst (leBytes 4 action ++ leBytes 4 old ++ leBytes 4 new)).raise agePage 1

/-- The order of R509 on a slack measurement. -/
def State.replanSlack (s : State) : State :=
  let slack := s.fld AGE_SLACK 15 0
  let clk := s.fld AGE_CLK_APC 10 0
  if !s.bit AGE_AGE_CTL 1 || decide (s.fld AGE_SLACK_THR 15 0 ≤ slack) then s
  else if s.vReq < s.vMax then
    let v := min s.vMax (s.vReq + 5)
    (s.wrFld AGE_AVS 15 0 v).replan 1 0 s.vReq v
  else if 1000 < clk then ((s.wrFld AGE_CLK_APC 10 0 (max 1000 (clk - 100))).replan 2 0 clk (max 1000 (clk - 100))).raise agePage 0
  else s.raiseIf (decide (slack < s.fld AGE_SLACK_THR 31 16)) agePage 0

/-- The means of the transitions of channel `c` in ps, by leg and direction (R282, R507). -/
def State.transMeans (s : State) (c : Nat) : List Nat := (s.ldc c).sums.map fun x => if x.2 = 0 then 0 else x.1 * 4000 / x.2

/-- DT_RAISE.n from the largest mean and its reference (R510). -/
def raiseOf (now ref : Int) : Nat := (clampInt 0 15 ((now - ref + 3999) / 4000)).toNat

/-- A transition measurement of channel `c`: the TRANS record, the reference if there is none yet, DT_RAISE, which never falls (R507, R510). -/
def State.transMeasure (s : State) (c : Nat) : State :=
  let l := s.transMeans c
  let now : Int := (l.foldl max 0 : Nat)
  let ref := if tabHas c s.age.transRef then tabGet 0 c s.age.transRef else now
  let old := s.fld AGE_DT_RAISE (4 * c + 3) (4 * c)
  let new := max old (raiseOf now ref)
  let s1 : State := { s with age := { s.age with transRef := tabSet c ref s.age.transRef, transNow := tabSet c now s.age.transNow } }
  let s2 := (s1.setLdc c { s1.ldc c with sums := List.replicate 6 (0, 0) }).ledgerRecord 3 c (l.flatMap fun m => leBytes 2 (min 65535 m))
  if new = old then s2 else (s2.wrFld AGE_DT_RAISE (4 * c + 3) (4 * c) new).replan 3 c old new

/-- AGE_CMD.REF_LDC: new references after the power stage has been replaced (R510). -/
def State.refLdc (s : State) (c : Nat) : State :=
  if 6 ≤ c then s.err agePage .value 0x78
  else
    let l := s.transMeans c
    let m : Int := (l.foldl max 0 : Nat)
    let now := if m = 0 then tabGet 0 c s.age.transNow else m
    (({ s with age := { s.age with transRef := tabSet c now s.age.transRef, transNow := tabSet c now s.age.transNow } } : State).wrFld AGE_DT_RAISE (4 * c + 3) (4 * c) 0).marginsUpdate

/-- The first 24 h of service, whose values are the references (R507). -/
def State.firstDay (s : State) : Bool := decide ((s.rd REC_OP_SEC).toNat < 86400)

/-- AGE_MEASUREMENT (R507 to R510). -/
def State.ageMeasure (s : State) (m : AgeMeas) : State :=
  if !s.bit AGE_AGE_CTL 0 then s
  else
    match m with
    | .timing slack path =>
      let s1 : State := if s.firstDay then { s with age := { s.age with slackRef := slack.toNat } } else s
      ((s1.wr AGE_SLACK (BitVec.ofNat 32 (slack.toNat + path.val * 65536))).replanSlack).marginsUpdate
    | .oscillator =>
      (if s.bit LTB_STATUS 12 then { s with age := { s.age with refErr := signedOf 32 (s.rd LTB_DISC_RATE).toNat } } else s).marginsUpdate
    | .transition c => (s.transMeasure c).marginsUpdate
    | .eye kind lane w =>
      let eyes := tabSet (kind.val * 64 + lane.toNat) w.toNat s.age.eyes
      let (k, worst) := eyes.foldl (fun a e => if e.2 < a.2 then e else a) (kind.val * 64 + lane.toNat, w.toNat)
      let first := s.firstDay || s.age.eyeRef == 0
      (({ s with age := { s.age with eyes := eyes, eyeRef := if first then worst else s.age.eyeRef } } : State).wr AGE_EYE_MIN
        (BitVec.ofNat 32 (worst + k % 64 * 2 ^ 8 + k / 64 * 2 ^ 14))).marginsUpdate

/-- The summary is rewritten (R513). -/
def State.summaryWrite (s : State) : State :=
  { s with age := { s.age with summary := s.margins ++ [s.vReq, s.fld AGE_CLK_APC 10 0, s.fld AGE_SCRUB 10 8, s.fld AGE_DT_RAISE 23 0] } }.mramWrote 0x03D01000 0x03D02000

/-- The daily records: the margins, the slack, the shunt offsets, the eyes, the wear (R508, R514). -/
def State.dailyRecord (s : State) : State :=
  let ms := s.margins
  let w := worstMargin ms
  let hours := (s.rd REC_OP_SEC).toNat / 3600
  let s1 : State := { s with age := { s.age with daily := ((w.1, hours) :: s.age.daily).take 90 } }
  let s2 := ((s1.wr AGE_FORECAST (BitVec.ofNat 32 (forecastOf s1.age.daily hours))).ledgerRecord 1 0 ((ms ++ [w.1]).flatMap fun m => leBytes 1 m)).ledgerRecord 2 0
    (leBytes 4 (s.fld AGE_SLACK 15 0) ++ leBytes 4 (s.fld AGE_SLACK 21 16) ++ leBytes 4 s.vReq ++ leBytes 4 (s.fld AGE_CLK_APC 10 0))
  let s3 := s2.each ((List.range 6).filter fun c => tabHas c s.age.shuntLo) fun c st =>
    st.ledgerRecord 4 c (leBytes 2 (wrapTo 16 (tabGet 0 c s.age.shuntLo)) ++ leBytes 2 (wrapTo 16 (tabGet 0 c s.age.shuntHi)))
  let eye (k : Nat) : List Byte :=
    let l := s.age.eyes.filter fun e => e.1 / 64 == k
    match l with
    | [] => leBytes 2 0
    | e :: t => let m := t.foldl (fun a e => if e.2 < a.2 then e else a) e; leBytes 1 m.2 ++ leBytes 1 (m.1 % 64)
  let s4 := ((s3.ledgerRecord 5 0 (eye 0 ++ eye 1 ++ eye 2)).ledgerRecord 6 0 ((s.wears.flatMap fun w => leBytes 1 w) ++ leBytes 4 s.age.corrected))
  let s5 : State := { s4 with age := { s4.age with corrected := 0, shuntLo := [], shuntHi := [] } }
  (s5.takeFree 2).2.marginEvent s

/-- A scrub pass rewrites each of the `n` blocks it has corrected, and these writes count in the tally; which blocks they are is left open (R511, R512, log 33). -/
def State.scrubRewrites (s : State) : Nat → State
  | 0 => s
  | n + 1 =>
    let b := (Config.freeWord s.free).toNat % 131072
    ({ s with free := s.free + 2, age := { s.age with tally := tabSet b (tallyAfter (s.free + 1) (tabGet 0 b s.age.tally)) s.age.tally } } : State).scrubRewrites n

/-- A scrub pass has corrected `n` blocks: SCRUB_DIV rises when it is more than 16 or the worst wear first exceeds 50 % (R511). -/
def State.mramScrub (s : State) (n : Nat) : State :=
  let dv := s.fld AGE_SCRUB 10 8
  let was := max (max (s.fld AGE_WEAR 7 0) (s.fld AGE_WEAR 15 8)) (max (s.fld AGE_WEAR 23 16) (s.fld AGE_WEAR 31 24))
  let s1 := (({ s with age := { s.age with corrected := s.age.corrected + n } } : State).scrubRewrites n).marginsUpdate
  let now := s1.wears.foldl max 0
  let dv' := if 16 < n ∨ (was ≤ 50 ∧ 50 < now) then min 4 (dv + 1) else dv
  let s2 := if dv' = dv then s1 else (s1.wrFld AGE_SCRUB 10 8 dv').replan 4 0 dv dv'
  s2.wrFld AGE_SCRUB 7 0 (scrubInterval (s.bands.1.getD 1) dv')

/-! ### Commands -/

def execSensorConversion (k : Fin 14) (v1 v2 : W32) (bad : Bool) (s : State) : Host.Outcome State Fault Refusal := .next (s.sensorConversion k.val v1.toNat v2.toNat bad)

def execThermalRestart (s : State) : Host.Outcome State Fault Refusal := .next s.thermalRestart

def execThmClrMax (s : State) : Host.Outcome State Fault Refusal := .next s.clrMax

def execAgeMeasurement (m : AgeMeas) (s : State) : Host.Outcome State Fault Refusal := .next (s.ageMeasure m)

/-- The meaning of PFAIL: the event, a flush where ON_PFAIL permits it, the summary (R466, R513). -/
def execPfail (s : State) : Host.Outcome State Fault Refusal :=
  .next (((s.raise recPage 4).when (s.bit REC_FLUSH_CFG 12) fun s => s.flushTrigger 4 0).summaryWrite)

def execLedgerSummary (s : State) : Host.Outcome State Fault Refusal := .next s.summaryWrite

def execDailyRecord (s : State) : Host.Outcome State Fault Refusal := .next s.dailyRecord

def execMramScrub (n : BitVec 17) (s : State) : Host.Outcome State Fault Refusal := .next (s.mramScrub n.toNat)

def execAgeSnapshot (s : State) : Host.Outcome State Fault Refusal := .next s.summaryWrite

def execAgeRefLdc (c : Fin 8) (s : State) : Host.Outcome State Fault Refusal := .next (s.refLdc c.val)

end Sys2Proof.Machine
end

