-- ==== Sys2Proof/Machine/Startup.lean ====
section
/-! DEFINITION. Power-up, resets, the boot, the life cycle, the clocks, the loss of the bridge and of the reference (R10 to R14, R562 to R583, R588). -/

namespace Sys2Proof.Machine

def glbPage : Nat := 0
def clkPage : Nat := 0x1000
def apcPage : Nat := 0x3000

/-- The key of the command registers of these pages. -/
def cmdKey : Nat := 0xC3A5

/-! ### Bridge loss, reference loss and the PLLs (R11, R13, R581, R592) -/

/-- PAGE_CTL.EN of some pages. -/
def State.pagesEnabled (s : State) (l : List Nat) (on : Bool) : State := s.each l fun p st => st.wrBit (p + 4) 0 on

/-- The pages whose block lies on the field die (R589). -/
def fieldPages : List Nat :=
  ((List.range 6).map fun c => 0x220000 + c * 0x1000) ++ ((List.range 6).map fun c => 0x230000 + c * 0x1000) ++ [0xD000, 0xE000]

/-- The dies lose each other, or the reference: the field die turns off every gate, all four groups through channel B and every field output; the core die applies SAFE to every axis (R11, R13). -/
def State.dieLoss (s : State) (bit : Nat) : State :=
  let s1 := (({ s with lost := true } : State).wrBit GLB_BRIDGE_STAT bit true).refreshGates
  let s2 := (s1.each (List.range 4) fun g st => st.groupOffBy g false true .hardware).showGroups
  ((s2.faultAll .safe (some .bridge)).safErr 7 0 1).pagesEnabled fieldPages false

/-- BRIDGE_LOSS: the posted writes on their way are lost with it (R11). -/
def State.bridgeLoss (s : State) : State := ({ s with posted := [] } : State).dieLoss 0

/-- REFERENCE_LOSS (R13). -/
def State.referenceLoss (s : State) : State := (s.wrBit CLK_REF_STAT 0 false).dieLoss 1

/-- The pages of the blocks that PLL `k` clocks, for a PLL whose loss stops only those (R581). -/
def pllPages : Nat → List Nat
  | 3 => fieldPages
  | 4 => (List.range 32).map slkPage
  | 5 => [frbPage 0, frbPage 1, xlkPage]
  | 6 => [0x1C000]
  | 7 => [pciPage]
  | _ => []

/-- The links of the blocks that PLL `k` clocks go down (R581). -/
def State.pllLinksDown (s : State) (k : Nat) : State :=
  match k with
  | 4 => s.each (List.range 32) fun j st => st.linkSyncLost j
  | 5 => s.each (List.range 3) fun p st => st.laneSyncLost p
  | 7 => s.pcieDown
  | _ => s

/-- PLL_UNLOCK: the count, the event, and what the PLL clocks (R580, R581). -/
def State.pllUnlock (s : State) (k : Nat) : State :=
  if !s.bit CLK_PLL_STAT k then s
  else
    let s1 := ((s.wrBit CLK_PLL_STAT k false).count CLK_UNLOCK_CNT 7 0 clkPage 2).raise clkPage 0
    if k < 3 then s1.referenceLoss else (s1.pllLinksDown k).pagesEnabled (pllPages k) false

/-- PLL_LOCK: the blocks are clocked again; those of the field die only while the dies are joined (R581, R592). -/
def State.pllLock (s : State) (k : Nat) : State :=
  let s1 := s.wrBit CLK_PLL_STAT k true
  if k = 3 ∧ s.lost = true then s1 else s1.pagesEnabled (pllPages k) true

/-- REF_OUT: the measured reference error, in units of 0.01 ppm; the event as it leaves ±50 ppm (R580, R583). -/
def State.refError (s : State) (e : Nat) : State :=
  let out (v : Nat) : Bool := decide (5000 < (signedOf 16 v).natAbs)
  (s.wrFld CLK_REF_STAT 31 16 e).raiseIf (out e && !out (s.fld CLK_REF_STAT 31 16)) clkPage 1

/-! ### Resets (R563 to R567) -/

/-- The core die runs, in its boot or after it. -/
def State.runs (s : State) : Bool := decide (s.core = .running)

/-- Every supply is gone: what neither fuses, MRAM nor flash hold is lost (R504, R515, R562). -/
def State.powerDown (s : State) : State :=
  let s1 := s.coldReset 0 .unpowered
  ((({ s1 with sensors := [], shutdowns := [], fieldT0 := 0, bands := (none, none) } : State).wr THM_SD_REC 0).wr THM_SD_CNT 0)

/-- POWER_UP: the conditions of R563 have held for 2 ms. -/
def State.powerUp (s : State) : State := if s.core = .unpowered ∨ s.core = .held then s.releaseCore else s

/-- CORE_SUPPLY_LOSS: as bridge loss, and the core die is held (R563). -/
def State.supplyLoss (s : State) : State := if s.runs then s.bridgeLoss.coldReset 3 .held else s

/-- RESET_N low for at least 1 µs (R564). -/
def State.resetN (s : State) : State := if s.runs then s.coldReset 1 .held else s

/-- The order of the loop processors over a warm reset: a rotation or failover in progress is completed as a migration, and no LPU is fallow (R236). -/
def State.settleSched (s : State) : State :=
  let s1 := match s.sched.move with
    | none => s
    | some (src, dst, l, fo) => (s.each l fun p st => st.movePosition src dst p).groupMoved src dst fo
  s1.each ((List.range 9).filter fun i => s1.roleOf i == 4) fun i st => st.setRole i 1

/-- A warm reset of cause `cause`; the DRAM goes to self-refresh (R534, R566). -/
def State.warmStart (s : State) (cause : Nat) : State :=
  let s00 := (s.settleSched).warmReset cause
  let s0 := s00.when (s.bit XLK_XLK_CTL 1) fun st => st.setPairRole 3
  let busy := s.bit (LPU_SCHED_STAT 0) 16
  let s1 := (s0.each (List.range 9) fun i st => st.setRole i (st.roleOf i)).showSched.wrBit (LPU_SCHED_STAT 0) 16 busy
  (s1.wrFld (glbPage + 8) 3 0 1).when (decide (s1.fld DRC_DRC_STAT 1 0 = 2)) fun st => st.wrBit DRC_DRC_STAT 2 true

/-- A write of RST_CMD (R564, R567): the key, then WARM or COLD. -/
def State.rstCmd (s : State) (key cmd : Nat) : State :=
  if !s.runs then s
  else if key ≠ cmdKey then s.err glbPage .key 0x48
  else if cmd = 1 then s.warmStart 6
  else if cmd = 2 then s.coldReset 2 .held
  else s

/-- WDT_EXPIRY: WDT, and with ACT a warm reset (R579). The timeout starts again. -/
def State.wdtExpiry (s : State) : State :=
  if s.runs ∧ s.bit GLB_WDT_CTL 0 = true ∧ s.wdtT + max 1 (s.fld GLB_WDT_CTL 31 8) * 4000000 ≤ s.dt then
    let s1 := ({ s with wdtT := s.dt } : State).raise glbPage 2
    if s.bit GLB_WDT_CTL 1 then s1.warmStart 7 else s1
  else s

/-- WDT_KICK (R579). -/
def State.wdtKick (s : State) (v : W32) : State := if fldOf v 31 16 ≠ cmdKey then s.err glbPage .key 0x58 else { s with wdtT := s.dt }

/-! ### Boot images (R571 to R573) -/

/-- Where an image is read: the flash from an offset, or shared SRAM. -/
inductive ImgAt where
  | flash (ofs : Nat)
  | sram
deriving DecidableEq, Repr

/-- Byte `o` of an image. -/
def State.imgByte (s : State) (w : ImgAt) (o : Nat) : Byte :=
  match w with
  | .flash ofs => s.flashByte (ofs + o)
  | .sram => s.byteAt (0x02000000 + o)

/-- The little-endian field of `n` bytes at byte `o` of an image. -/
def State.imgNat (s : State) (w : ImgAt) (o : Nat) : Nat → Nat
  | 0 => 0
  | n + 1 => (s.imgByte w o).toNat + 256 * s.imgNat w (o + 1) n

/-- TYPE, OFFSET, LEN and DEST of section `i` (R571); DEST holds bits 32 to 1 of the local address. -/
def State.secType (s : State) (w : ImgAt) (i : Nat) : Nat := s.imgNat w (32 + 64 * i) 1
def State.secOfs (s : State) (w : ImgAt) (i : Nat) : Nat := s.imgNat w (36 + 64 * i) 4
def State.secLen (s : State) (w : ImgAt) (i : Nat) : Nat := s.imgNat w (40 + 64 * i) 4
def State.secDest (s : State) (w : ImgAt) (i : Nat) : Nat := 2 * s.imgNat w (44 + 64 * i) 4
def State.nsec (s : State) (w : ImgAt) : Nat := s.imgNat w 6 2

/-- The sections of type `t`. -/
def State.secsOf (s : State) (w : ImgAt) (t : Nat) : List Nat := (List.range (s.nsec w)).filter fun i => s.secType w i == t

/-- The key KEY_IDX is permitted in the present life-cycle state (R575). -/
def keyPermitted (life key : Nat) : Bool :=
  match life with
  | 0 => key == 0xFF || key == 0
  | 1 => key == 0xFF || key == 0 || key == 1
  | 2 => key == 1
  | _ => key == 0

/-- The capacity that SIZE shows: inline ECC takes the top eighth (R533). -/
def dramUsable (cfg : BitVec 4) (mib : Nat) : Nat := if cfg.getLsbD 3 then mib - mib / 8 else mib

/-- The destination of section `i` is mapped: shared SRAM or DRAM for an application, shared SRAM for the library (R571, R572). -/
def State.destOk (s : State) (w : ImgAt) (f : BootFind) (i : Nat) : Bool :=
  let a := s.secDest w i
  let e := a + s.secLen w i
  let inSram := decide (0x02000000 ≤ a) && decide (e ≤ 0x02800000)
  let size := if s.secsOf w 2 = [] then s.fld DRC_SIZE 12 0 else dramUsable f.dramCfg f.dramMib.toNat
  match s.secType w i with
  | 4 => inSram || (decide (dramLo ≤ a) && decide (e ≤ dramLo + size * 2 ^ 20))
  | 6 => inSram
  | _ => true

/-- Section `i` is valid in itself. -/
def State.secOk (s : State) (w : ImgAt) (f : BootFind) (i : Nat) : Bool :=
  decide (s.secOfs w i % 64 = 0) && decide (1152 ≤ s.secOfs w i) && decide (1 ≤ s.secType w i) && decide (s.secType w i ≤ 6) && s.destOk w f i

/-- BOOT_STAT.ERR of the header items, 0 where they pass (R572, R579): `limit` is the largest image. -/
def State.headerErr (s : State) (w : ImgAt) (f : BootFind) (limit : Nat) : Nat :=
  let key := s.imgNat w 16 1
  let once (t : Nat) : Bool := (s.secsOf w t).length == 1
  if s.imgNat w 0 4 ≠ 0x474E4249 ∨ s.imgNat w 4 2 ≠ 1 then 1
  else if s.nsec w = 0 ∨ 16 < s.nsec w ∨ limit < s.imgNat w 8 4 then 6
  else if !keyPermitted s.lifeCycle key then 2
  else if key ≠ 0xFF ∧ (!f.sig || (key == 1 && !s.bit LCS_KEY_STAT 0)) = true then 3
  else if s.inProduce ∧ s.imgNat w 12 4 < (s.rd LCS_MIN_VER).toNat then 4
  else if !(once 1 && once 3 && once 4 && once 5 && once 6) || decide (1 < (s.secsOf w 2).length) || !((List.range (s.nsec w)).all fun i => s.secOk w f i) then 6
  else 0

/-- The bytes of section `i`. -/
def State.secBytes (s : State) (w : ImgAt) (i : Nat) : List (Nat × Byte) := (List.range (s.secLen w i)).map fun o => (o, s.imgByte w (s.secOfs w i + o))

/-- Section `i` streams into place (R572). -/
def State.loadSection (s : State) (w : ImgAt) (i : Nat) : State :=
  if s.secType w i = 4 ∨ s.secType w i = 6 then s.each (s.secBytes w i) fun e st => st.putByte (s.secDest w i + e.1) e.2 else s

/-- The sections in order, each with its digest as it streams into place: ERR and the state (R572). -/
def State.loadSections (s : State) (w : ImgAt) (f : BootFind) : Nat × State :=
  (List.range (s.nsec w)).foldl (fun a i => if a.1 ≠ 0 then a else (if f.digests.getLsbD i then 0 else 5, a.2.loadSection w i)) (0, s)

/-- One image: its header, then its sections. -/
def State.tryImage (s : State) (w : ImgAt) (f : BootFind) (limit : Nat) : Nat × State :=
  let e := s.headerErr w f limit
  if e ≠ 0 then (e, s) else s.loadSections w f

/-- Where the boot stands (R579). -/
def State.setStage (s : State) (k : Nat) : State := (s.wrFld GLB_BOOT_STAT 3 0 k).wrFld (glbPage + 8) 3 0 k

/-- The boot fails with code `e`; without a descriptor the endpoint enumerates with Vordal's own identifier and device 0x64FF (R521, R572, R573). -/
def State.bootFail (s : State) (e : Nat) : State :=
  (((s.wrFld GLB_BOOT_STAT 11 4 e).setStage 8).when (decide (s.rd PCI_PCI_ID = 0)) fun st => st.wr PCI_PCI_ID (BitVec.ofNat 32 (Config.vendorId % 2 ^ 16 * 2 ^ 16 + 0x64FF))).raise glbPage 1

/-! ### The steps of the boot (R574) -/

/-- DRAM training at a cold start (R533, R545). -/
def State.dramTrain (s : State) (f : BootFind) (ok : Bool) : State :=
  let s1 := s.wr DRC_DRC_CFG (f.dramCfg.zeroExtend 32)
  if ok then (s1.wrFld DRC_DRC_STAT 1 0 2).wr DRC_SIZE (BitVec.ofNat 32 (dramUsable f.dramCfg f.dramMib.toNat)) else (s1.wrFld DRC_DRC_STAT 1 0 3).raise 0x1C000 2

/-- The boot self-test of LPU `i` with failing unit `u`, 0 for a pass (R232, R236). -/
def State.bootTest (s : State) (i u : Nat) : State :=
  let s1 := s.wrFld (LPU_TEST_RES i) 7 0 (3 + (if u = 0 then 4 else 8) + u * 16)
  if u = 0 then s1.count (LPU_TEST_CNT i) 15 0 (lpuPage i) 6 else ((s1.count (LPU_TEST_CNT i) 31 16 (lpuPage i) 6).raise (lpuPage i) 1).retire i

/-- LPU `i` takes group `g` with its assignments (R232). -/
def State.placeGroup (s : State) (g i : Nat) : State :=
  let s1 := ((s.setRole i 0).wrFld (LPU_ROLE i) 6 4 g).wrBit (LPU_ROLE i) 7 true
  s1.each (List.range 8) fun p st => (st.wr (LPU_ASSIGN i p) (s.rd (LPU_ASSIGN g p))).setAct (LPU_ASSIGN i p) (s.act (LPU_ASSIGN g p))

/-- After a cold start the groups from 0 upwards are placed on the LPUs that passed: at home where the home passed, else on the spare, then on those whose own group is no longer placed (R232, log 44). -/
def State.placeGroups (s : State) : State :=
  let good := (List.range 9).filter fun i => !s.lpuRetired i
  let n := min 8 good.length
  let orphans := (List.range n).filter fun g => s.lpuRetired g
  let free := ((good.filter fun i => decide (n ≤ i)).reverse)
  ((orphans.zip free).foldl (fun st e => st.placeGroup e.1 e.2) s).showSched.wrBit (LPU_SCHED_STAT 0) 16 ((orphans.zip free).any fun e => e.2 == 8)

/-- The loop processors: in role INIT, the self-tests at a cold start, then the library; each LPU that passes takes its role (R224, R228, R232, R574). -/
def State.bootLpus (s : State) (cold : Bool) (b : BootRun) (lib : Nat) : State :=
  let live := (List.range 9).filter fun i => !s.lpuRetired i
  let s0 := s.each live fun i st => st.setRole i 6
  let s1 := if cold then (List.range 9).foldl (fun st i => st.bootTest i ((b.lpu.getD i 0).val)) s0 else s0
  let s2 := (s1.wr (LPU_LIB_ADDR 0) (BitVec.ofNat 32 lib)).libLoad b.libSig
  let s3 := s2.each (live.filter fun i => !s2.lpuRetired i) fun i st => st.setRole i (s.roleOf i)
  if cold then s3.placeGroups else s3.showSched

/-- Step 9: the stage links, the crosslink, the ring ports, the MACs (R571, R574). -/
def State.bootLinks (s : State) (links sel : Nat) : State :=
  let s1 := s.each ((List.range 32).filter fun k => links / 2 ^ k % 2 == 1) fun k st => st.linkCtlWrite k (st.rd (SLK_LINK_CTL k) ||| 1)
  let s2 := s1.when (sel / 2 % 2 == 1) fun st => st.wrBit XLK_XLK_CTL 0 true
  let s3 := s2.when (s2.bit XLK_XLK_CTL 0) fun st => st.portEnable 2 true
  let s4 := s3.when (sel % 2 == 1) fun st => st.each [0, 1] fun p st => (st.wrBit (FRB_PORT_CTL p) 0 true).portEnable p true
  s4.each ((List.range 2).filter fun m => sel / 2 ^ (2 + m) % 2 == 1) fun m st => st.wrBit (ETH_ETH_CTL m) 0 true

/-- After a thermal restart: its event and its record (R504, R514). -/
def State.restarted (s : State) : State :=
  if s.fld GLB_RST_CAUSE 3 0 = 4 ∧ s.bit THM_THM_STAT 5 = true then
    (s.ledgerRecord 9 0 (leBytes 4 (s.rd THM_SD_REC).toNat ++ leBytes 4 (s.rd THM_SD_CNT).toNat)).raise thmPage 3
  else s

/-- Steps 7 to 10 with an image whose sections have been loaded: processors, loops, links, READY (R574). -/
def State.bootRest (s : State) (w : ImgAt) (b : BootRun) : State :=
  let cold := decide (s.fld GLB_RST_CAUSE 3 0 < 6)
  let st := s.secOfs w ((s.secsOf w 3).headD 0)
  let lib := s.secDest w ((s.secsOf w 6).headD 0)
  let s1 : State := { s with version := s.imgNat w 12 4, entries := tabSet 0 (s.imgNat w (st + 8) 8) (tabSet 4 (s.imgNat w (st + 16) 4) s.entries) }
  let s2 := ((s1.wrBit DRC_DRC_STAT 2 false).safReload b.setOk).bootLpus cold b lib
  let reen := if cold then 0 else (s.rd GLB_REEN_SLK).toNat
  ((s2.bootLinks (s.imgNat w st 4 ||| reen) (s.imgNat w (st + 4) 1)).setStage 7).restarted.raise glbPage 0

/-- The boot ROM completes the erasure of a life-cycle change that lost its power, before it reads any image (R577). -/
def State.finishWipe (s : State) : State :=
  match s.lcPlan with
  | none => s
  | some (target, burnt, ks) =>
    let s1 : State := { (s.wipe 0x03E00000 mramHi).wipe mramLo 0x03900000 with lcPlan := none, safStore := none, keys := if burnt then ks else [] }
    let has (o : Nat) : Bool := burnt && (((ks.drop o).take 96).any fun b => b != 0)
    ((s1.wr LCS_MIN_VER 0).wr LCS_KEY_STAT (BitVec.ofNat 32 ((if has 0 then 1 else 0) + (if has 96 then 2 else 0)))).wr LCS_LC_STATE
      (BitVec.ofNat 32 (if burnt then target else s.lifeCycle))

/-- The images in the order in which the ROM tries them: the primary, then the secondary, with ALT (R572). -/
def State.bootImages (s : State) (b : BootRun) : Nat × ImgAt × BootFind × State :=
  let lim := 32 * 2 ^ 20
  let p := s.tryImage (.flash 0) b.primary lim
  if p.1 = 0 then (0, .flash 0, b.primary, p.2)
  else
    let q := (p.2.wrBit GLB_BOOT_STAT 12 true).tryImage (.flash 0x01000000) b.secondary lim
    (q.1, .flash 0x01000000, b.secondary, q.2)

/-- The channels that serve a slot, as the system is built: the pages have no register for it (R16, log 21). -/
def State.bindLdcs (s : State) (l : List (Fin 6 × Fin 64)) : State := { s with ldcSlot := l.foldl (fun t e => tabSet e.1.val e.2.val t) [] }

/-- From step 6 on: training at a cold start where the image has a DRAM section, then the rest (R574). -/
def State.bootFrom6 (s : State) (w : ImgAt) (f : BootFind) (b : BootRun) : State :=
  let train := decide (s.fld GLB_RST_CAUSE 3 0 < 6) && !(s.secsOf w 2).isEmpty
  let s1 := if train then s.dramTrain f b.trained else s
  if train && !b.trained then s1.bootFail 7 else (s1.bindLdcs b.ldcSlots).bootRest w b

/-- Step 2 of the boot that follows a warm reset: the PLLs lock again, with them the pages they clock, and the reference is seen (R566, R574, R580); a cold start has done it on leaving reset. -/
def State.relock (s : State) : State :=
  if 6 ≤ s.fld GLB_RST_CAUSE 3 0 ∧ s.rd CLK_PLL_STAT = 0 then (s.each (List.range 8) fun k st => st.pllLock k).wrBit CLK_REF_STAT 0 (!s.bit GLB_BRIDGE_STAT 1) else s

/-- BOOT_COMPLETE: the boot runs to READY or fails; after an accepted recovery image it goes on from step 6 with that image, whose sections it loads now (R572 to R574). -/
def State.bootComplete (s : State) (b : BootRun) : State :=
  let k := s.fld GLB_BOOT_STAT 3 0
  if !s.runs ∨ k = 0 ∨ 7 ≤ k then s
  else if s.bit GLB_BOOT_STAT 13 then
    let (e, s1) := s.loadSections .sram b.primary
    if e ≠ 0 then s1.bootFail e else (s1.wr PCI_PCI_ID b.primary.pciId).bootFrom6 .sram b.primary b
  else
    let s0 := s.relock.finishWipe
    if !b.flashOk then s0.bootFail 8
    else
      let s1 : State := { s0 with flashGeo := ⟨b.flPage.toNat, b.flUnit.toNat⟩ }
      let (e, w, f, s2) := (s1.wr MEM_FL_INFO b.flInfo).bootImages b
      if e ≠ 0 then s2.bootFail e
      else (if s.fld GLB_RST_CAUSE 3 0 < 6 then s2.wr PCI_PCI_ID f.pciId else s2).bootFrom6 w f b

/-- BOOT_CMD LOAD_SRAM: with no accepted image the ROM checks the image of at most 8 MiB in shared SRAM, with RECOVERY set (R573). -/
def State.bootLoadSram (s : State) (v : W32) (f : BootFind) : State :=
  if fldOf v 31 16 ≠ cmdKey then s.err glbPage .key 0x50
  else if !bitOf v 0 then s
  else if !(s.runs && decide (s.fld GLB_BOOT_STAT 3 0 = 8)) then s.err glbPage .state 0x50
  else
    let s1 := s.wrBit GLB_BOOT_STAT 13 true
    let e := s1.headerErr .sram f (8 * 2 ^ 20)
    if e ≠ 0 then s1.bootFail e else (s1.wrFld GLB_BOOT_STAT 11 4 0).setStage 4

/-! ### Life cycle (R570, R575 to R578) -/

/-- The bytes of the token (R576). -/
def State.token (s : State) : List Byte := (List.range 78).flatMap fun k => leBytes 4 (s.rd (LCS_TOKEN k)).toNat

/-- The 16 bytes of DEV_UID. -/
def State.devUid (s : State) : List Byte := (List.range 4).flatMap fun k => leBytes 4 (s.rd (LCS_DEV_UID k)).toNat

/-- A transition that R576 lists. -/
def lcListed (now target : Nat) : Bool := (now == 0 && target == 1) || (now == 1 && target == 2) || ((now == 1 || now == 2) && target == 3)

/-- All bytes are zero. -/
def allZero (l : List Byte) : Bool := l.all fun b => b == 0

/-- An axis slot that is not OFF, an energised STO group, or an enabled stage link (R577). -/
def State.lcBusy (s : State) : Bool :=
  ((List.range 64).any fun n => (s.axis n).st != .off) || ((List.range 4).any fun g => s.safRun && !(s.group g).off) || decide (s.linksOn ≠ 0)

/-- The first refusal code of a transition, 0 for none (R577); `sig`: the signature verifies under the present owner key. -/
def State.lcCode (s : State) (key : Nat) (sig : Bool) : Nat :=
  let t := s.token
  let now := s.lifeCycle
  let target := natOf t 4 1
  if key ≠ cmdKey then 2
  else if natOf t 0 4 ≠ 0x4C435431 ∨ !lcListed now target then 3
  else if s.lcBusy then 4
  else if cutAt t 8 16 ≠ s.devUid then 5
  else if (if now = 0 then !allZero (cutAt t 216 96) else !(sig && s.bit LCS_KEY_STAT 0)) then 6
  else if target ≠ 3 ∧ (allZero (cutAt t 24 96) || allZero (cutAt t 120 96)) = true then 7
  else 0

/-- The keys that a transition installs: none for RETURN (R576). -/
def State.lcKeys (s : State) : List Byte := if natOf s.token 4 1 = 3 then [] else cutAt s.token 24 192

/-- LC_CMD TRANSITION (R577). `cut`: 1, power is lost before the fuses have been burnt; 2, after it and before the keys are written. -/
def State.lcTransition (s : State) (v : W32) (sig : Bool) (cut : Nat) : State :=
  let code := s.lcCode (fldOf v 31 16) sig
  let ev (s : State) (r : Nat) : State := (s.wr LCS_LC_RESULT (BitVec.ofNat 32 r)).raise lcsPage 0
  if code ≠ 0 then
    let s1 := ev s code
    if code = 2 then s1.err lcsPage .key 0x44 else if code = 4 then s1.err lcsPage .state 0x44 else s1
  else
    let plan : State := { s with lcPlan := some (natOf s.token 4 1, decide (cut ≠ 1), s.lcKeys) }
    if cut ≠ 0 then
      let s1 := if cut = 1 then plan else plan.wrFld LCS_LC_STATE 1 0 (natOf s.token 4 1)
      let s2 := (s1.wrBit LCS_LC_STATE 2 true).powerDown
      { s2 with lcPlan := plan.lcPlan }
    else ev (plan.finishWipe.coldReset 5 .held) 1

/-- LC_CMD ADVANCE_VER (R578). -/
def State.advanceVer (s : State) (v : W32) : State :=
  if fldOf v 31 16 ≠ cmdKey then s.err lcsPage .key 0x44
  else if !s.inProduce then s.err lcsPage .state 0x44
  else s.wr LCS_MIN_VER (BitVec.ofNat 32 (max (s.rd LCS_MIN_VER).toNat s.version))

/-! ### Application cores (R588) -/

/-- One RUN bit of CORE_CTL: 1 releases the core at ENTRY, 0 resets it at once (R588). -/
def State.coreRun (s : State) (c : Nat) (on : Bool) : State :=
  let held : State :=
    { s with
      dbgHalt := s.dbgHalt &&& (63 - 2 ^ c)
      staged := tabDrop (fun k => k % 16 == 1 + c) s.staged
      latched := tabDrop (fun k => k % 16 == 1 + c) s.latched }
  if !on then (held.wrBit APC_CORE_CTL c false).wrFld APC_CORE_STAT (2 * c + 1) (2 * c) 0
  else if s.bit APC_CORE_CTL c then s
  else (({ s with entries := tabSet c ((s.rd APC_ENTRY_LO).toNat + s.fld APC_ENTRY_HI 0 0 * 2 ^ 32) s.entries } : State).wrBit APC_CORE_CTL c true).wrFld APC_CORE_STAT
    (2 * c + 1) (2 * c) 1

/-- A write of CORE_CTL (R588). -/
def State.coreCtlWrite (s : State) (v : W32) : State := s.each [1, 2, 3] fun c st => st.coreRun c (bitOf v c)

/-! ### The meanings -/

def execBridgeLoss (s : State) : Host.Outcome State Fault Refusal := .next s.bridgeLoss
def execReferenceLoss (s : State) : Host.Outcome State Fault Refusal := .next s.referenceLoss
def execPllUnlock (k : Fin 8) (s : State) : Host.Outcome State Fault Refusal := .next (s.pllUnlock k.val)
def execPllLock (k : Fin 8) (s : State) : Host.Outcome State Fault Refusal := .next (s.pllLock k.val)
def execPowerUp (s : State) : Host.Outcome State Fault Refusal := .next s.powerUp
def execCoreSupplyLoss (s : State) : Host.Outcome State Fault Refusal := .next s.supplyLoss
def execResetN (s : State) : Host.Outcome State Fault Refusal := .next s.resetN
def execRstCmdWarm (key : BitVec 16) (s : State) : Host.Outcome State Fault Refusal := .next (s.rstCmd key.toNat 1)
def execRstCmdCold (key : BitVec 16) (s : State) : Host.Outcome State Fault Refusal := .next (s.rstCmd key.toNat 2)
def execWdtExpiry (s : State) : Host.Outcome State Fault Refusal := .next s.wdtExpiry
def execWdtKick (v : W32) (s : State) : Host.Outcome State Fault Refusal := .next (s.wdtKick v)
def execBootComplete (b : BootRun) (s : State) : Host.Outcome State Fault Refusal := .next (s.bootComplete b)
def execBootLoadSram (v : W32) (f : BootFind) (s : State) : Host.Outcome State Fault Refusal := .next (s.bootLoadSram v f)
def execLcTransition (v : W32) (sig : Bool) (cut : Fin 3) (s : State) : Host.Outcome State Fault Refusal := .next (s.lcTransition v sig cut.val)
def execLcAdvanceVer (v : W32) (s : State) : Host.Outcome State Fault Refusal := .next (s.advanceVer v)
def execCoreCtlWrite (v : W32) (s : State) : Host.Outcome State Fault Refusal := .next (s.coreCtlWrite v)
def execPowerDown (s : State) : Host.Outcome State Fault Refusal := .next s.powerDown
def execRefOut (e : BitVec 16) (s : State) : Host.Outcome State Fault Refusal := .next (s.refError e.toNat)

end Sys2Proof.Machine
end

