-- ==== Sys2Proof/Machine/RegLimit.lean ====
section
/-! DEFINITION. The values that registers take in place of the value written, and the values and states in which a write is refused (R27, R596 and the register tables of the blocks). -/

namespace Sys2Proof.Machine

/-! ### Limits -/

/-- Field `hi..lo` held between `mn` and `mx`. -/
def limFld (hi lo mn mx : Nat) (v : W32) : W32 :=
  if fldOf v hi lo < mn then withFld v hi lo mn else if mx < fldOf v hi lo then withFld v hi lo mx else v

/-- Field `hi..lo` held to `mn` or above. -/
def limLow (hi lo mn : Nat) (v : W32) : W32 := if fldOf v hi lo < mn then withFld v hi lo mn else v

/-- Field `hi..lo` held to `mx` or below. -/
def limHigh (hi lo mx : Nat) (v : W32) : W32 := if mx < fldOf v hi lo then withFld v hi lo mx else v

/-- A word of which each byte is at least 1 (DT_MIN, R284). -/
def limBytes (v : W32) : W32 := limLow 31 24 1 (limLow 23 16 1 (limLow 15 8 1 (limLow 7 0 1 v)))

/-- CYC_CFG: held to 50,000 to 4,000,000 and rounded down to a multiple of 2,000 (R363). -/
def limCyc (v : W32) : W32 :=
  let x := max 50000 (min 4000000 (fldOf v 21 0))
  withFld v 21 0 (x / 2000 * 2000)

/-- SPD_TGT: a magnitude of at most FREQ_MAX (R316). -/
def limFreq (m : Nat) (v : W32) : W32 :=
  let x := signedOf 32 v.toNat
  if (m : Int) < x then w32 m else if x < -(m : Int) then w32 (-(m : Int)) else v

/-- What the core-die pages of the device as a whole store. -/
def limitGlobal (k : PageKind) (o : Nat) (v : W32) : W32 :=
  match k, o with
  | .glb, 0x54 => limLow 31 8 1 v
  | .thm, 0x54 => limFld 16 0 0x4000 0x10000 v
  | .thm, 0x100 => limLow 11 8 1 v
  | .thm, 0x104 => limHigh 23 16 192 v
  | .age, 0x5C => limHigh 15 0 900 v
  | .ltb, 0x40 => limHigh 27 24 8 v
  | .ltb, 0x7C => limFld 3 0 1 8 v
  | .ltb, 0xD0 => limFld 16 8 1 500 v
  | .asc, 0x48 => limFld 31 0 4096 4000000 v
  | .asc, 0x204 => limLow 23 0 4 v
  | .saf0, 0x40 => limHigh 3 1 4 v
  | .saf0, 0x94 => limFld 9 0 100 1000 (limLow 31 16 1 v)
  | .saf0, 0xA4 => limLow 10 0 1 (limLow 31 16 1 v)
  | .saf0, 0x430 => limLow 15 0 1 v
  | .fio, 0x40 => limLow 23 8 1 v
  | .fio, 0xC0 => limLow 23 16 1 v
  | .acq, 0x40 => limLow 31 16 1 v
  | .acq, 0x4C => limLow 31 0 4000 v
  | .recorder, 0x4C => limFld 6 0 4 64 v
  | .recorder, 0x80 => limHigh 5 0 32 v
  | .pci, 0x48 => limFld 9 0 1 1000 v
  | .eth, 0x40 => limFld 31 16 64 9216 v
  | .eth, 0x50 => limFld 27 16 4 4095 (limFld 11 0 4 4095 v)
  | .lpu, 0x200 => limLow 31 8 100 v
  | .lpu, 0x220 => limLow 10 8 2 (limLow 6 4 4 v)
  | .frb, 0x108 => limCyc v
  | .xlk, 0x40 => limLow 11 8 4 v
  | _, _ => v

/-- What the pages of axes, channels and ports store. -/
def limitAxis (k : PageKind) (o : Nat) (v : W32) : W32 :=
  match k, o with
  | .axl, 0x4C => limLow 18 16 2 (limLow 14 12 1 (limLow 10 8 2 (limLow 3 0 1 v)))
  | .axl, 0x60 => limLow 7 0 1 v
  | .axl, 0x138 => limLow 31 16 1 v
  | .axl, 0x150 => limHigh 31 24 64 (limFld 3 0 6 12 v)
  | .axl, 0x184 => limHigh 31 0 0x20000 v
  | .axp, 0xB0 => limLow 23 0 1 v
  | .axp, 0xF8 => limLow 15 0 400 v
  | .axp, 0x108 => limLow 19 16 1 (limFld 15 8 10 179 v)
  | .axp, 0x120 => limLow 14 12 2 (limLow 6 4 1 v)
  | .axg, 0xAC => limLow 31 0 0x40 v
  | .axg, 0xBC => limLow 2 0 2 v
  | .ldc, 0x68 => limLow 23 0 100 v
  | .ldc, 0x70 => limBytes v
  | .ldc, 0x84 => limLow 23 16 1 v
  | .ldc, 0x12C => limLow 11 8 1 v
  | .ldc, 0x130 => limLow 19 16 1 v
  | .ldc, 0x138 => limFld 7 0 1 50 v
  | .ldc, 0x144 => limLow 15 8 1 (limFld 7 0 5 200 v)
  | .ldc, 0x178 => limLow 3 0 1 v
  | .gdv, 0x54 => limLow 7 0 1 v
  | .fbp, 0x6C => limLow 11 8 1 v
  | .fbp, 0x80 => limLow 27 24 1 v
  | .fbp, 0x84 => limLow 15 10 1 (limLow 9 0 9 v)
  | .fbp, 0x8C => limLow 23 0 4000 v
  | .fbp, 0xA0 => limFld 3 0 2 14 v
  | .fbp, 0xB8 => limFld 21 16 10 60 (limFld 14 0 4000 20000 v)
  | .fbp, 0xC4 => limLow 2 0 2 v
  | .emu, 0x4C => limLow 15 0 100 v
  | _, _ => v

/-- What the register at offset `o` of page `p` stores when `v` is written to it: the nearest limit (R27, R596). -/
def State.limit (s : State) (p : PageRef) (o : Nat) (v : W32) : W32 :=
  match p.kind, o with
  | .axl, 0x120 => limFld 15 0 10 (max 10 (fldOf (s.rd (AXL_SAMPLE_HZ p.inst)) 16 0 / 4)) v
  | .ldc, 0x6C => limLow 23 16 1 (limLow 15 8 (max 1 (s.fld (LDC_DT_FLOOR p.inst) 7 0)) v)
  | .ldc, 0x114 => limFreq (s.rd (LDC_FREQ_MAX p.inst)).toNat v
  | k, _ => limitAxis k o (limitGlobal k o v)

/-! ### Refusals -/

/-- The thresholds of a sensor are in order (R500): each is held as °C plus 64. -/
def thrOk (thr cfg : W32) : Bool :=
  decide (fldOf thr 7 0 ≤ fldOf thr 15 8) && decide (fldOf thr 15 8 ≤ fldOf thr 23 16) && decide (fldOf thr 31 24 + fldOf cfg 11 8 < fldOf thr 23 16)

/-- This node is the line master (R35, R53): on a ring it holds the line, elsewhere it has PUBLISH set and a source of its own. -/
def State.lineMaster (s : State) : Bool := if s.isMember then s.bit (FRB_RING_STAT 0) 4 else s.publishes

/-- This node is alone on its ring (R53). -/
def State.aloneOnRing (s : State) : Bool := !s.isMember || decide (popCount 32 (s.rd (FRB_MEMBERS 0)).toNat ≤ 1)

/-- A discipline mode that the present role does not permit (R53). -/
def State.modeBad (s : State) (m : Nat) : Bool :=
  (m == 3) || (m == 1 && !(s.lineSrc == 3 || !s.lineMaster)) || (m == 2 && !(s.lineMaster || s.aloneOnRing))

/-- A slot is bound to a DUAL link (R386). -/
def State.dualSlot (s : State) (n : Nat) : Bool :=
  match s.linkOfSlot n with
  | none => false
  | some (k, _) => s.bit (SLK_LINK_CTL k) 1

/-- The unit accepts writes: IDLE or DONE (R457). -/
def State.acqOpen (s : State) (u : Nat) : Bool := s.fld (ACQ_ACQ_STAT u) 2 0 == 0 || s.fld (ACQ_ACQ_STAT u) 2 0 == 4

/-- Sheaf `k` is enabled: its registers ignore writes (R460). -/
def State.sheafOn (s : State) (k : Nat) : Bool := s.bit (REC_SHEAF_CFG k) 6

/-- A limit of the profile engine that may not be 0 (R122). -/
def zeroBad (o : Nat) : Bool := [0x54, 0x58, 0x5C, 0x60, 0x64, 0x68, 0x6C, 0x70].contains o

/-- Refusals by value of the pages of the device as a whole; `v` has been held to its limits already. -/
def State.refuseGlobal (s : State) (p : PageRef) (o i : Nat) (v : W32) : Option ErrCode :=
  let bad (b : Bool) : Option ErrCode := if b then some .value else none
  match p.kind, o with
  | .thm, 0x100 =>
    bad ((decide (5 < i) && (fldOf v 1 0 == 3 || fldOf v 4 3 == 3)) || decide (5 < fldOf v 7 5) || !thrOk (s.rd (THM_SNS_THR i)) v)
  | .thm, 0x104 => bad (!thrOk v (s.rd (THM_SNS_CFG i)))
  | .ltb, 0xD0 => if fldOf v 1 0 = s.fld LTB_DISC_CTL 1 0 then none else if fldOf v 1 0 = 3 then some .value else if s.modeBad (fldOf v 1 0) then some .state else none
  | .asc, 0x100 => bad (fldOf v 2 1 == 3)
  | .recorder, 0x100 => if s.sheafOn (i / 32) then some .state else none
  | .recorder, 0x80 => if s.sheafOn i then some .state else bad (bitOf v 6 && !s.sheafOk i 0 (fldOf v 5 0))
  | .sil, 0x40 => bad (decide (fldOf v 19 16 < 4) || decide (12 < fldOf v 19 16))
  | .acq, 0x40 => bad (fldOf v 1 0 == 3)
  | .acq, 0x50 => bad (fldOf v 16 0 == 0 || decide (65536 < fldOf v 16 0))
  | .acq, 0x54 => bad (decide (127 < fldOf v 7 0) || fldOf v 15 8 == 0 || decide (128 < fldOf v 15 8))
  | .acq, 0xC4 => bad (fldOf v 2 0 != 0)
  | .acq, 0xC8 => bad (fldOf v 16 0 == 0 || decide (65536 < fldOf v 16 0))
  | .acq, 0x100 => bad (fldOf v 1 0 != 0)
  | .acq, 0x60 => bad (decide (4 < fldOf v 2 0) || decide (1 < fldOf v 4 3))
  | .acq, 0xC0 => bad (fldOf v 2 1 == 3)
  | .acq, 0x200 => bad (decide (4 < fldOf v 2 0))
  | .eth, 0x88 => if bitOf v 5 && s.bit (ETH_PTP_CTL (1 - p.inst)) 5 then some .state else none
  | .can, 0xA0 => bad (decide (canFieldBits (fldOf v 1 0) ≤ fldOf v 15 8))
  | .can, 0x4C => if s.fld (CAN_CAN_CTL p.inst) 1 0 = 0 then none else some .state
  | .can, 0x50 => if s.fld (CAN_CAN_CTL p.inst) 1 0 = 0 then none else some .state
  | .can, 0x54 => if s.fld (CAN_CAN_CTL p.inst) 1 0 = 0 then none else some .state
  | _, _ => none

/-- Refusals by value and state of the pages of axes, channels and ports. -/
def State.refuseAxis (s : State) (p : PageRef) (o : Nat) (v : W32) : Option ErrCode :=
  let bad (b : Bool) : Option ErrCode := if b then some .value else none
  match p.kind, o with
  | .axl, 0x10C => bad (fldOf v 7 0 == 0)
  | .axl, 0x288 => bad (fldOf v 17 16 == 3)
  | .axp, 0xC0 => bad (decide (11 < fldOf v 3 0))
  | .axp, 0x108 => bad (fldOf v 31 24 == 0)
  | .axp, _ => bad (zeroBad o && v == 0)
  | .axg, 0x40 => bad (decide (3 < fldOf v 2 0) || fldOf v 15 14 == 3 || fldOf v 17 16 == 3)
  | .ldc, 0x40 => bad (fldOf v 3 2 == 3)
  | .ldc, 0x100 => if s.comState p.inst ≠ 0 then some .state else bad (decide (11 < fldOf v 11 8))
  | .gdv, 0x94 => if s.comState p.inst ≠ 0 ∨ s.inProduce = true then some .state else none
  | .slk, 0x78 => bad (injArgBad v)
  | .fbp, 0x40 => bad (fldOf v 2 0 == 7)
  | .fbp, 0x4C => bad (v == 0)
  | .fbp, 0x80 => bad (fldOf v 13 12 == 3)
  | .fbp, 0xB0 => bad (fldOf v 7 0 == 0)
  | .emu, 0x44 => bad (fldOf v 20 0 == 0 || decide (2 ^ 20 < fldOf v 20 0))
  | _, _ => none

/-- What refuses a write of `v` to the register at offset `o`, index `i` of page `p`. A capture unit that is neither IDLE nor DONE accepts only its counters (R457). -/
def State.refuse (s : State) (p : PageRef) (o i : Nat) (v : W32) : Option ErrCode :=
  if p.kind = .acq ∧ s.acqOpen p.inst = false ∧ o ≠ 0x9C ∧ o ≠ 0xA0 ∧ o ≠ 0xCC then some .state
  else
    match s.refuseGlobal p o i v with
    | some c => some c
    | none => s.refuseAxis p o v

/-- A pair whose unit may not be 0 or negative (R61). -/
def pairBad (p : PageRef) (o : Nat) (hi lo : W32) : Bool :=
  decide (p.kind = .ltb) && [0x88, 0x90, 0x98, 0xA0, 0xA8].contains o && (bitOf hi 31 || (hi == 0 && lo == 0))

/-- Registers that ignore a write: those an instance does not have, SRC_OFS with source 3 (R33), the gains while AUTO trims them. -/
def State.ignores (s : State) (p : PageRef) (o i : Nat) : Bool :=
  absentReg p o i ||
  match p.kind, o with
  | .ltb, 0xB8 => s.lineSrc == 3
  | .ltb, 0xBC => s.lineSrc == 3
  | .fbp, 0xA4 => s.bit (FBP_SC_CFG p.inst) 4
  | .fbp, 0xA8 => s.bit (FBP_SC_CFG p.inst) 4
  | .apc, _ => decide (o < 0x20)
  | _, _ => false

/-- The fields that keep their value whatever is written: ro fields of the on-die sensors (R516), TIMING of a slot on a local channel (R197), the GUARDED lock (R187). -/
def State.heldBits (s : State) (p : PageRef) (o i : Nat) : Nat :=
  match p.kind, o with
  | .thm, 0x100 => if i ≤ 5 then 0x1F else 0
  | .axl, 0x40 => if s.isLdc p.inst then 4 else 0
  | .axl, 0x5C => if s.guarded p.inst || (s.bit (AXL_TUNE p.inst) 0 && decide ((s.axis p.inst).st ≠ .opened)) then 1 else 0
  | _, _ => 0

end Sys2Proof.Machine
end

