-- ==== Sys2Proof/Machine/RegWrite.lean ====
section
/-! DEFINITION. Register writes: the common registers, the access codes, the pairs, the command registers, soft reset, the posted writes to the field die, the memory windows
(R3 to R10, R206, R520, R522, R584, R585, R589 to R601). -/

namespace Sys2Proof.Machine

/-! ### Requesters and pairs -/

/-- The requester of a number. Only the safety processor has rights of its own (R485). -/
def reqOf (r : Nat) : Requester := if r = 5 then .safety else .pcie

/-- The key under which requester `r` stages or latches the register at `a` (R601). -/
def reqKey (r a : Nat) : Nat := a * 16 + r % 16

/-- The registers of a page that lie on the field die (R589). -/
def fieldReg (p : PageRef) (o : Nat) : Bool :=
  p.field || (decide (p.kind = .thm) && decide (0x05C ≤ o)) || (decide (p.kind = .fbp) && [0xA0, 0xA4, 0xA8, 0xAC, 0xB0, 0xB4, 0xB8, 0xC0].contains o)

/-- The scheduler registers stand once, visible in all nine LPU pages (R235): the address of the one set. -/
def aliasOf (p : PageRef) (o : Nat) : Nat := if p.kind = .lpu ∧ 0x200 ≤ o ∧ o < 0x240 then 0x300000 + o else p.base + o

/-! ### Events of a page (R482, R595) -/

/-- The event bits a page has (R478, R497, R588). -/
def evtMask (p : PageRef) : Nat :=
  if p.kind = .sil then 0x1F
  else (((pageSources p).flatMap srcBits).filter fun pm => pm.1 == p.base).foldl (fun acc pm => acc ||| pm.2) 0

/-- A write of EVT_FORCE: each 1 raises its event as the router sees it, without any fault reaction (R595). -/
def State.evtForce (s : State) (p : PageRef) (v : W32) : State :=
  s.each ((List.range 32).filter fun b => evtMask p / 2 ^ b % 2 == 1 && bitOf v b) fun b st => st.raise p.base b

/-- An enabled pending SHOOT_ATTEMPT or CBC_PERSIST acts with its class as it becomes enabled (R296, R307). -/
def State.protEnabled (s old : State) (p : PageRef) : State :=
  let acts (b : Nat) : Bool := s.bit (evtEnAt p.base) b && !old.bit (evtEnAt p.base) b && s.bit (evtPendAt p.base) b
  match p.kind with
  | .gdv => if acts 4 then s.protClass p.inst p.base 4 2 0 else s
  | .ldc => if acts 2 then s.protClass p.inst p.base 2 6 4 else s
  | _ => s

/-- A write of EVT_EN (R477, R480, R590). -/
def State.evtEnWrite (s : State) (p : PageRef) (v : W32) : State :=
  (s.setEvt p.base (s.rd (evtPendAt p.base)) (v &&& BitVec.ofNat 32 (evtMask p))).protEnabled s p

/-- A write of EXT_FLT: each 1 clears its bit; a KIND 1 source that stays pending counts as becoming pending again (R479, R482). -/
def State.extFltClear (s : State) (hi : Bool) (v : W32) : State :=
  let a := if hi then EVR_EXT_FLT_HI else EVR_EXT_FLT_LO
  let s' := s.wr a (s.rd a &&& ~~~v)
  let l := ((List.range 32).filter fun b => bitOf v b).map fun b => 64 + 4 * ((if hi then 32 else 0) + b)
  s'.each (s'.bySrcPrio l) fun e st => st.signal e (s'.srcPending e) false

/-! ### Lock (R593) -/

/-- A write of LOCK_KEY (R593). -/
def State.lockWrite (s : State) (p : PageRef) (v : W32) : State :=
  let c := fldOf v 17 16
  if fldOf v 15 0 ≠ cmdKey ∨ c = 0 ∨ c = 3 then s.err p.base .key 0x028 else s.wrBit (p.base + 4) 2 (c == 1)

/-- A write of ERR_CAP: 0 clears the whole register, any other write is ignored (R596). -/
def State.errCapWrite (s : State) (p : PageRef) (v : W32) : State := if v = 0 then s.wr (p.base + 0x01C) 0 else s

/-! ### Soft reset (R594) -/

/-- The block of the page is idle in the sense of R594. -/
def State.pageIdle (s : State) (p : PageRef) : Bool :=
  match p.kind with
  | .axl => decide ((s.axis p.inst).st = .off)
  | .axp => decide ((s.axis p.inst).st = .off)
  | .axg => decide ((s.axis p.inst).st = .off)
  | .axc => decide ((s.axis p.inst).st = .off)
  | .slk => s.linkState p.inst == 0
  | .frb => s.portState p.inst == 0
  | .ldc => s.comState p.inst == 0
  | .gdv => s.comState p.inst == 0
  | .fbp => !s.portInUse p.inst
  | .emu => !s.emuOn p.inst
  | .acq => s.acqOpen p.inst
  | .can => s.fld (CAN_CAN_CTL p.inst) 1 0 == 0
  | .sil => decide ((s.silo p.inst).used = 0) && !s.siloAttached p.inst
  | _ => false

/-- Counters that are read-only registers (R271, R303, R354, R356, R395, R457). -/
def roCounter (k : PageKind) (o : Nat) : Bool :=
  match k with
  | .acq => o == 0x098
  | .axp => o == 0x0B8 || o == 0x104
  | .slk => o == 0x05C
  | .ldc => o == 0x18C
  | .fbp => o == 0x054 || o == 0x0C0
  | .emu => o == 0x054
  | .frb => o == 0x050 || o == 0x110
  | _ => false

/-- A register that a soft reset of its page returns to its warm-reset value: a body register of access rw or w1c, a counter, an EVT register, ERR_CAP, COMMIT_AT; one whose warm reset keeps its value keeps it (R4, R594). -/
def softRow (k : PageKind) (r : RegRow) (o : Nat) : Bool :=
  if o < 0x40 then o == 0x010 || o == 0x014 || o == 0x01C || o == 0x024
  else !r.kept && (decide (r.acc = .rw) || decide (r.acc = .w1c) || decide (r.acc = .rwl) && decide (k ≠ .saf0) || roCounter k o)

/-- Whether the register at `a` is one of those of page `p`. -/
def softReg (p : PageRef) (a : Nat) : Bool :=
  match regRow a with
  | none => false
  | some (q, r, _) => q == p && softRow p.kind r (a - p.base)

/-- What the block holds beside the registers and a soft reset returns with its counters (R594). -/
def State.softEngine (s : State) (p : PageRef) : State :=
  match p.kind with
  | .fbp => s.setPort p.inst { s.port p.inst with count := 0, at32 := 0, countB := 0 }
  | .emu => { s with emus := tabSet p.inst Emu.reset s.emus }
  | .axl => s.setServo p.inst { s.servo p.inst with converted := false }
  | .slk => s.showActive p.inst
  | _ => s

/-- PAGE_CTL.SRST (R594): acts only while the block is idle. -/
def State.softReset (s : State) (p : PageRef) : State :=
  if !s.pageIdle p then s.err p.base .state 0x004
  else
    let s1 : State := { s with
      regs := tabDrop (softReg p) s.regs
      inForce := tabDrop (softReg p) s.inForce
      commits := s.commits.filter fun k => k.page != p.base }
    s1.softEngine p

/-! ### Fault injection and the common registers (R590) -/

/-- A write of INJ_CTL on the pages that have it (R270, R385, R559). -/
def State.injWrite (s : State) (p : PageRef) (v : W32) : State :=
  match p.kind with
  | .slk => s.slkInjArm p.inst v
  | .frb => s.ringInjArm p.inst v
  | .xlk => s.ringInjArm 2 v
  | .can => s.canInjArm p.inst v
  | _ => s

/-- A write of COMMIT or COMMIT_AT that reaches its page: `due` is the target resolved at the write (R598, R599). -/
def State.commitArrives (s : State) (p : PageRef) (o : Nat) (v : W32) (due : Option CommitDue) : State :=
  if o = 0x020 then s.when (bitOf v 0) fun st => st.commitReach p 0x020 .nextApply
  else
    match fldOf v 31 30, due with
    | 0, _ => s.cancelReach p v
    | 3, _ => s.err p.base .value 0x024
    | _, some d => (s.keepAt p v).commitReach p 0x024 d
    | _, none => s

/-- A write of COMMIT_AT by software: its KIND (R599). -/
def State.commitAtWrite (s : State) (req : Nat) (p : PageRef) (v : W32) : State :=
  match fldOf v 31 30 with
  | 0 => s.commitAtCancel req p.base v
  | 1 => s.commitAtTime req p.base v
  | 2 => s.commitAtAngle req p.base v
  | _ => if p.field then s.postWrite req (p.base + 0x024) v none else s.err p.base .value 0x024

/-- A write of the common register at offset `o` (R590 to R599). APC.0 has no events (R588). -/
def State.commonWrite (s : State) (p : PageRef) (o : Nat) (v : W32) : State :=
  match o with
  | 0x004 => if bitOf v 1 then s.softReset p else s
  | 0x010 => if p.kind = .apc then s else s.clearEvt p.base v
  | 0x014 => if p.kind = .apc then s else s.evtEnWrite p v
  | 0x018 => s.evtForce p v
  | 0x01C => s.errCapWrite p v
  | 0x028 => s.lockWrite p v
  | 0x02C => s.injWrite p v
  | _ => s

/-! ### Command registers -/

/-- The three kinds of access that a KIND of command gives a page: the state after it, or none for a register without one. -/
abbrev Cmd := Option State

/-- A word of a command register with a key: the state if the key holds, else code KEY (R596). -/
def State.keyed (s : State) (page off : Nat) (v : W32) (f : State → State) : State := if fldOf v 31 16 ≠ cmdKey then s.err page .key off else f s

/-- REC_CMD (R462, R466, R474). -/
def State.recCmd (s : State) (v : W32) : State :=
  match fldOf v 1 0 with
  | 1 => s.sheafTrigger (fldOf v 7 4) 2 0 s.dt
  | 2 => s.flushTrigger 5 0
  | 3 => s.recClear (fldOf v 31 16)
  | _ => s

/-- VMG_CMD (R65): 6 and 7 are ignored. -/
def State.vmgCmd (s : State) (v : W32) : State :=
  match fldOf v 2 0 with
  | 1 => s.vmgWrite .start
  | 2 => s.vmgWrite .stop
  | 3 => s.vmgWrite .hold
  | 4 => s.vmgWrite .resume
  | 5 => s.vmgWrite .lineStop
  | _ => s

/-- ACQ_CMD (R452): 5 to 7 are refused. -/
def State.acqCmd (s : State) (u : Nat) (v : W32) : State :=
  match fldOf v 2 0 with
  | 0 => s
  | 1 => s.acqArm u
  | 2 => s.acqFire u 4 s.dt
  | 3 => s.acqStop u
  | 4 => s.acqReset u
  | _ => s.err (acqPage u) .value 0x044

/-- OBJ_CMD (R553, R560): 6 and 7 are refused. -/
def State.canObjCmd (s : State) (c : Nat) (v : W32) : State :=
  let o := fldOf v 6 0
  match fldOf v 10 8 with
  | 0 => s
  | 1 => s.canRead c o
  | 2 => s.canWrite c o
  | 3 => s.canSend c o
  | 4 => s.canWriteSend c o
  | 5 => s.canAbort c o
  | _ => s.canRefuse c

/-- LINK_CMD (R243, R249, R264). -/
def State.linkCmd (s : State) (k : Nat) (v : W32) : State :=
  let s1 := s.when (bitOf v 0) fun st => st.setLink k { st.link k with clear := true }
  let s2 := s1.when (bitOf v 1) fun st => st.linkRetrain k
  s2.when (bitOf v 2) fun st => st.queueMsg k false identReqMsg

/-- AGE_CMD (R510, R513). -/
def State.ageCmd (s : State) (v : W32) : State := (s.when (bitOf v 0) fun st => st.summaryWrite).when (bitOf v 1 && decide (fldOf v 4 2 < 6)) fun st => st.refLdc (fldOf v 4 2)

/-- Command registers of the global pages. BOOT_CMD, LC_CMD TRANSITION and SAF_CMD ACTIVATE need findings of their own and act only by their own commands (log 45). -/
def State.cmdGlobal (s : State) (req : Nat) (p : PageRef) (o i : Nat) (v : W32) : Cmd :=
  match p.kind, o with
  | .glb, 0x48 => some (s.rstCmd (fldOf v 31 16) (fldOf v 1 0))
  | .glb, 0x50 => some (s.keyed glbPage 0x50 v fun st => st)
  | .glb, 0x58 => some (s.wdtKick v)
  | .lcs, 0x44 => some (if fldOf v 1 0 = 2 then s.advanceVer v else s)
  | .apc, 0x40 => some (s.coreCtlWrite v)
  | .evr, 0x40 => some (s.evrWrite v)
  | .evr, 0x140 => some (s.extFltClear false v)
  | .evr, 0x144 => some (s.extFltClear true v)
  | .evr, 0x800 => some (s.routeWrite (reqOf req) i v)
  | .thm, 0x64 => some (s.when (bitOf v 0) fun st => st.clrMax)
  | .age, 0x78 => some (s.ageCmd v)
  | .ltb, 0x78 => some (s.vmgCmd v)
  | .asc, 0x40 => some (s.ascCtlWrite v)
  | .asc, 0x54 => some (s.fcoSw (BitVec.ofNat 16 (fldOf v 15 0)) true)
  | .asc, 0x58 => some (s.fcoSw (BitVec.ofNat 16 (fldOf v 15 0)) false)
  | .asc, 0x200 => some (s.fcoCtlWrite i v)
  | .asc, 0x300 => some (s.fliCtlWrite i v)
  | .saf0, 0x48 => some (match fldOf v 1 0 with | 2 => s.safReset v | 3 => s.safDeactivate v | _ => s)
  | .fio, 0x90 => some (s.outClr v)
  | .acq, 0x44 => some (s.acqCmd p.inst v)
  | .acq, 0x94 => some (s.rdOfsWrite p.inst v)
  | .recorder, 0x48 => some (s.recCmd v)
  | .dma, 0x104 => some ((s.when (bitOf v 1) fun st => st.dmaStop i).when (bitOf v 0) fun st => st.dmaStart i)
  | .eth, 0xA0 => some (if p.inst ≠ 0 then s else if bitOf v 11 then s.mdioGo v else s.wr (ETH_MDIO 0) (withBit (v &&& 0xFFFF07FF) 12 (s.bit (ETH_MDIO 0) 12)))
  | .mem, 0x50 => some (s.when (bitOf v 0) fun st => st.mwWrite)
  | .mem, 0x58 => some (if fldOf v 1 0 = 0 then s else s.flCmd (fldOf v 1 0) (fldOf v 24 16))
  | .lpu, 0x204 => some (s.when (bitOf v 0) fun st => st.rotNow)
  | .lpu, 0x20C => some (s.requests (fldOf v 8 0) false)
  | .lpu, 0x210 => some (s.requests (fldOf v 8 0) true)
  | _, _ => none

/-- Command registers of the pages of axes, channels, ports and links. FB_CMD.CLEAR, COM_CMD START and FRB MSG_TX.SEND act only by their own commands (log 45). -/
def State.cmdAxis (s : State) (p : PageRef) (o i : Nat) (v : W32) : Cmd :=
  let n := p.inst
  match p.kind, o with
  | .can, 0x40 => some (s.canModeWrite n v)
  | .can, 0x48 => some (s.when (bitOf v 0) fun st => st.canRecover n)
  | .can, 0x64 => some (s.canObjCmd n v)
  | .can, 0x400 => some (s.canConfig n i false v)
  | .can, 0x404 => some (s.canConfig n i true v)
  | .sil, 0x48 => some (s.siloCmdDo n v)
  | .sil, 0x4C => some (s.wr (SIL_SIL_STAT n) (s.rd (SIL_SIL_STAT n) &&& ~~~(v &&& 0x1E)))
  | .sil, 0x100 => some (if i = 7 then s.siloBusPush n 7 [v] else s.siloStage n i [v])
  | .axl, 0x44 => some (if fldOf v 2 0 = 0 then s else s.axisCmdWrite n (fldOf v 2 0))
  | .axl, 0x48 => some (s.wr (AXL_LOOP_STAT n) (s.rd (AXL_LOOP_STAT n) &&& ~~~(v &&& 0x1)))
  | .axl, 0x308 => some (s.iqExtWrite n v)
  | .axl, 0x30C => some (if fldOf v 1 0 = 0 then s else s.rcBegin n (fldOf v 1 0))
  | .axg, 0xA0 => some (s.regCtlWrite n v)
  | .axc, 0x40 => some (s.winCtlWrite n 0 v)
  | .axc, 0x70 => some (s.winCtlWrite n 1 v)
  | .slk, 0x40 => some (s.linkCtlWrite n v)
  | .slk, 0x48 => some (s.linkCmd n v)
  | .slk, 0x98 => some (if bitOf v 16 then s.slkMsgSend n (fldOf v 9 0) else s.wrFld (SLK_MSG_TX n) 9 0 (fldOf v 9 0))
  | .ldc, 0x104 => some (match fldOf v 1 0 with | 2 => s.comStop n | 3 => s.comAck n | _ => s)
  | .gdv, 0x60 => some (s.when (bitOf v 0) fun st => st.fltClr n)
  | .fbp, 0x48 => some ((s.when (bitOf v 1) fun st => st.resCal n).when (bitOf v 2) fun st => st.refReset n)
  | .frb, 0x100 => some (s.ringCtlWrite v)
  | .frb, 0x130 => some (if s.bit (FRB_MSG_TX 0) 29 then s.err p.base .busy 0x130 else s.wr (FRB_MSG_TX 0) (v &&& 0x071F03FF))
  | .xlk, 0x48 => some (s.xlkCmd v)
  | _, _ => none

/-! ### Plain registers -/

/-- The bits that a write stores: those that are neither reserved nor ro, without command fields unless the register is shadowed (R3, R598). -/
def storeMask (r : RegRow) : Nat := if r.shadowed then r.mask else r.mask &&& (0xFFFFFFFF - r.wo % 2 ^ 32)

/-- The word that results from storing the bits `m` of `v` over `old`. -/
def mergeWord (old v : W32) (m : Nat) : W32 := (old &&& ~~~(BitVec.ofNat 32 m)) ||| (v &&& BitVec.ofNat 32 m)

/-- The bits of MIRROR_MASK that are refused: slots bound to no DUAL link (R386). -/
def State.mirrorRefused (s : State) (v : Nat) : Nat := (List.range 64).foldl (fun acc n => if v / 2 ^ n % 2 = 1 ∧ s.dualSlot n = false then acc + 2 ^ n else acc) 0

/-- PAIR of XLK_CTL enters or leaves the pair: ORPHAN, or SINGLE (R387). -/
def State.pairWrite (s : State) (pair : Bool) : State :=
  if pair then s.when (s.role == 0) fun st => st.setPairRole roleOrphan else s.when (s.role != 0) fun st => st.setPairRole roleSingle

/-- A vector is unmasked: a pending message is sent (R481, R524). -/
def State.msixUnmask (s : State) (w : Nat) : State :=
  let k := w / 4
  if w % 4 = 3 ∧ s.bit (PCI_MSIX_TABLE w) 0 = false ∧ s.bit (PCI_MSIX_PBA (k / 32)) (k % 32) = true then (s.wrBit (PCI_MSIX_PBA (k / 32)) (k % 32) false).sendMsix k else s

/-- What a stored value of a global page does at once; `old` is the state before the write, `v` the word stored. -/
def State.hookGlobal (s old : State) (p : PageRef) (o i : Nat) (v : W32) : State :=
  match p.kind, o with
  | .glb, 0x54 => if bitOf v 0 && !old.bit GLB_WDT_CTL 0 then { s with wdtT := s.dt } else s
  | .thm, 0x40 => s.throttleCheck
  | .thm, 0x100 => s.throttleCheck
  | .ltb, 0xD0 =>
    if fldOf v 1 0 = old.fld LTB_DISC_CTL 1 0 then s
    else ({ s with ltb := { s.ltb with ptpSeen := false } } : State).when (fldOf v 1 0 == 0) fun st => st.wr LTB_DISC_RATE 0
  | .ltb, 0xF0 => { s with ltb := { s.ltb with rtcDirty := true } }
  | .ltb, 0xF4 => { s with ltb := { s.ltb with rtcDirty := true } }
  | .saf0, o => if o = 0x90 ∨ o = 0x98 then s else s.showSigs
  | .fio, 0x40 => s.inShow i false
  | .fio, 0x88 => s.showOutputs
  | .acq, 0x40 => s.showRowBytes p.inst
  | .acq, 0x200 => s.showRowBytes p.inst
  | .pci, 0x800 => s.msixUnmask i
  | .eth, 0x98 => s.ptpMeasured p.inst
  | _, _ => s

/-- What a stored value of another page does at once. -/
def State.hookAxis (s old : State) (p : PageRef) (o : Nat) (v : W32) : State :=
  match p.kind, o with
  | .gdv, 0x50 => if fldOf v 7 0 &&& (255 - old.fld (GDV_TRIP_EN p.inst) 7 0) &&& s.tripLevels ≠ 0 then s.tripOn p.inst (s.tripLevels &&& (255 - old.fld (GDV_TRIP_EN p.inst) 7 0)) else s
  | .gdv, 0x40 => s.followAll p.inst
  | .gdv, 0x94 => if bitOf v 31 then s.applyOvr p.inst (old.rd (GDV_OVR p.inst)) else s.when (old.bit (GDV_OVR p.inst) 31) fun st => st.allOff p.inst
  | .frb, 0x40 => s.portEnable p.inst (bitOf v 0)
  | .xlk, 0x40 => (s.portEnable 2 (bitOf v 0)).pairWrite (bitOf v 1)
  | _, _ => s

/-- A write to a coefficient of a tuning-locked axis outside OPEN (R187). -/
def State.tuneRejects (s : State) (p : PageRef) (o : Nat) : Bool := decide (p.kind = .axl) && coefArea o && s.tuneLocked p.inst && decide ((s.axis p.inst).st ≠ .opened)

/-- The value `v` enters the plain register at `a`: refused, or stored, held to its limits, with a record of either (R27, R596). -/
def State.storeReg (s : State) (p : PageRef) (r : RegRow) (i a : Nat) (v : W32) : State :=
  let o := r.off
  let w := mergeWord (s.rd a) v (storeMask r &&& (0xFFFFFFFF - s.heldBits p o i))
  let l := s.limit p o w
  match s.refuse p o i l with
  | some c => s.errAt c a
  | none =>
    let s1 := (s.wr a l).when (decide (l ≠ w)) fun st => st.errAt .clamped a
    (s1.hookGlobal s p o i l).hookAxis s p o l

/-- A write of HI of the pair at `lo`, with the staged LO `x` (R601). -/
def State.storePair (s : State) (p : PageRef) (r : RegRow) (i lo : Nat) (x v : W32) : State :=
  let lr := (regRow lo).map (fun q => q.2.1)
  let h := mergeWord (s.rd (lo + 4)) v (storeMask r)
  let l := mergeWord (s.rd lo) x (match lr with | none => 0 | some q => storeMask q)
  if pairBad p (r.off - 4) h l then s.errAt .value (lo + 4)
  else
    match s.refuse p r.off i h with
    | some c => s.errAt c (lo + 4)
    | none =>
      if p.kind = .xlk then
        let bad := s.mirrorRefused (h.toNat * 2 ^ 32 + l.toNat)
        (s.wr64 lo (h.toNat * 2 ^ 32 + l.toNat - bad)).when (decide (bad ≠ 0)) fun st => st.errAt .value (lo + 4)
      else ((s.wr lo l).wr (lo + 4) h).hookGlobal s p r.off i h

/-- Requester `req` uses up its staged LO of the pair at `lo` (R601). -/
def State.stagedLo (s : State) (req lo : Nat) : W32 := tabGet 0 (reqKey req lo) s.staged
def State.useStaged (s : State) (req lo : Nat) : State := { s with staged := tabDrop (fun k => k == reqKey req lo) s.staged }

/-- A write to a register of a page body that is neither a command nor ignored, by its access code (R3, R601). -/
def State.plainWrite (s : State) (req : Nat) (p : PageRef) (r : RegRow) (i a : Nat) (v : W32) : State :=
  match r.acc with
  | .ro => s
  | .wo => if r.shadowed then s.storeReg p r i a v else s
  | .w1c => s.wr a (s.rd a &&& ~~~(v &&& BitVec.ofNat 32 r.mask))
  | .w1s => s.wr a (s.rd a ||| (v &&& BitVec.ofNat 32 r.mask))
  | acc =>
    match r.half with
    | .lo => if decide (acc = .rwl) && s.locked p.base then s.errAt .locked a else { s with staged := tabSet (reqKey req a) v s.staged }
    | .hi =>
      let s1 := s.useStaged req (a - 4)
      if decide (acc = .rwl) && s.locked p.base then s1.errAt .locked a else s1.storePair p r i (a - 4) (s.stagedLo req (a - 4)) v
    | .none => if decide (acc = .rwl) && s.locked p.base then s.errAt .locked a else s.storeReg p r i a v

/-- A write to a body register (R3): ignored where the page does not have it or its block is not clocked (R592); a command; or a value to store. -/
def State.bodyWrite (s : State) (req : Nat) (p : PageRef) (r : RegRow) (i a : Nat) (v : W32) : State :=
  if !s.bit (p.base + 4) 0 || s.ignores p r.off i then s
  else if s.tuneRejects p r.off then (s.raise p.base 4).errAt .state a
  else if p.kind = .ltb ∧ r.off = 0x7C ∧ bitOf v 31 = true then (s.plainWrite req p r i a v).lossRejoin
  else
    match s.cmdGlobal req p r.off i v with
    | some t => t
    | none =>
      match s.cmdAxis p r.off i v with
      | some t => t
      | none => s.plainWrite req p r i a v

/-- A register write takes effect: requester number `req`, address `a`, and for a COMMIT_AT its resolved target. -/
def State.regApply (s : State) (req a : Nat) (v : W32) (due : Option CommitDue) : State :=
  match regRow a with
  | none => s
  | some (p, r, i) =>
    let o := a - p.base
    if o = 0x020 ∨ o = 0x024 then s.commitArrives p o v due
    else if o < 0x40 then s.commonWrite p o v
    else s.bodyWrite req p r i (aliasOf p o) v

/-! ### Issuing a write -/

/-- A requester issues a word write to a register: posted to the field die (R8), else it acts at once; a write to a reserved register is ignored (R5). -/
def State.issueWord (s : State) (req a : Nat) (v : W32) : State :=
  match regRow a with
  | none => s
  | some (p, r, _) =>
    let o := a - p.base
    if o = 0x020 then s.commitWrite req p.base v
    else if o = 0x024 then s.commitAtWrite req p v
    else if fieldReg p o then s.postWrite req a v none
    else if r.half = .lo ∧ r.acc ≠ .ro then (if s.standbyAddr a then s.standbyErr a else s.regApply req a v none)
    else if r.half = .hi ∧ r.acc ≠ .ro then
      (if s.standbyAddr a then s.standbyErr a else (s.regApply req a v none).mirrorWrite (a - 4) (leBytes 4 (s.stagedLo req (a - 4)).toNat ++ leBytes 4 v.toNat))
    else s.softWrite a v fun st => st.regApply req a v none

/-- The oldest posted write of requester `req` that has not taken effect. -/
def State.oldestPosted (s : State) (req : Nat) : Option Posted := s.posted.find? fun w => w.req == req

/-- The posted writes without the oldest of requester `req`. -/
def dropPosted (req : Nat) : List Posted → List Posted
  | [] => []
  | w :: l => if w.req = req then l else w :: dropPosted req l

/-- The oldest posted write of requester `req` takes effect; a lost bridge carries none (R8, R9, R11). -/
def State.postedEffect (s : State) (req : Nat) : State :=
  match s.oldestPosted req with
  | none => s
  | some w =>
    let s1 : State := { s with posted := dropPosted req s.posted }
    if s.lost then s1 else s1.regApply w.req w.addr w.val w.due

/-- `n` retries of a bridge transfer (R10). -/
def State.bridgeRetries (s : State) (n : Nat) : State := s.each (List.range n) fun _ st => st.count GLB_BRIDGE_CNT 15 0 0 3

/-- Every posted write of requester `req` takes effect before its read (R9). -/
def State.flushPosted (s : State) (req : Nat) : State := s.each (s.posted.filter fun w => w.req == req) fun _ st => st.postedEffect req

/-! ### The address map (R525, R584, R585) -/

/-- An access recorded by GLB.0 with code ACCESS; WORD is the offset / 4 within the page addressed (R584, R596). -/
def State.accessErr (s : State) (a : Nat) : State := s.err glbPage .access (a % 0x1000)

/-- An inbound write that the PCI page records (R520, R522): counted as refused. -/
def State.pciRefused (s : State) (a : Nat) : State := (s.err pciPage .access (a % 0x1000)).count PCI_ERR_CNT 31 24 pciPage 6

/-- The scratch regions of an LPU's local memory (R205). -/
def scratch (o : Nat) : Bool := (decide (0xC000 ≤ o) && decide (o < 0x18000)) || (decide (0x1C000 ≤ o) && decide (o < 0x20000))

/-- The words that `bytes` at `a` touch, merged with what memory holds: the words' addresses and values. -/
def State.touched (s : State) (a : Nat) (bytes : List Byte) : List (Nat × W32) :=
  let lo := a / 4 * 4
  let whole := s.bytesAt lo (a - lo) ++ bytes ++ s.bytesAt (a + bytes.length) ((4 - (a + bytes.length) % 4) % 4)
  (List.range (whole.length / 4)).map fun k => (lo + 4 * k, BitVec.ofNat 32 (leNat ((whole.drop (4 * k)).take 4)))

/-- A write to shared SRAM (R585): the cam descriptors and the ASC entry table act on what is written (R70, R105). Of one write of several words, word 1 of a descriptor, which holds CHECK, takes effect last: the check it starts is of the contents that the write leaves (R105). -/
def State.sramWrite (s : State) (a : Nat) (bytes : List Byte) : State :=
  s.softBytes a bytes fun st =>
    let low := bytes.take (0x027F0000 - a)
    let descs := (st.touched a low).filter fun e => decide (0x02400000 ≤ e.1) && decide (e.1 < 0x02401000)
    let desc := fun (e : Nat × W32) (t : State) => t.camDescWrite ((e.1 - 0x02400000) / 16) (e.1 % 16 / 4) e.2
    let st1 := if low = [] then st
      else ((st.putBytes a low).each (descs.filter fun e => e.1 % 16 / 4 ≠ 1) desc).each (descs.filter fun e => e.1 % 16 / 4 = 1) desc
    if low.length = bytes.length then st1
    else if a % 4 = 0 ∧ bytes.length = 4 then st1.entryWrite ((a - 0x027F0000) / 16) (a % 16 / 4) (BitVec.ofNat 32 (leNat bytes))
    else st1.err ascPage .access 0x04C

/-- Whether an LPU local memory accepts a write: the scratch regions (R206). -/
def lpuOpen (a n : Nat) : Bool := scratch (a % 0x40000) && scratch (a % 0x40000 + (n - 1)) && decide (a % 0x40000 / 0x1C000 = (a % 0x40000 + (n - 1)) / 0x1C000)

/-- A write to a memory window: answers whether it was made, and the state (R206, R520, R525, R584). -/
def State.memWrite (s : State) (a : Nat) (bytes : List Byte) : Bool × State :=
  match s.regionOf a with
  | .lpuMem => if lpuOpen a bytes.length then (true, s.putBytes a bytes) else (false, s.err (lpuPage ((a - 0x01000000) / 0x40000)) .access (a % 0x1000))
  | .sram => if s.regionOf (a + bytes.length - 1) = .sram then (true, s.sramWrite a bytes) else (false, s.accessErr a)
  | .capture => (false, s.pciRefused a)
  | .dram => if s.regionOf (a + bytes.length - 1) = .dram then (true, s.putBytes a bytes) else (false, s.accessErr a)
  | .registers | .recRing | .mram | .unmapped => (false, s.accessErr a)

/-- The push window of a silo in its page: whole words, at the SIL page (R490). -/
def pushWindow (a n : Nat) : Bool :=
  decide (0x40000 ≤ a) && decide (a < 0xA0000) && decide (0x100 ≤ a % 0x1000) && decide (a % 0x1000 + n ≤ 0x120) && decide (a % 4 = 0) && decide (n % 4 = 0)

/-- The words of a list of bytes. -/
def wordsOf (bytes : List Byte) : List W32 := (List.range (bytes.length / 4)).map fun k => BitVec.ofNat 32 (leNat ((bytes.drop (4 * k)).take 4))

/-- A write of several words to the push window (R490). -/
def State.windowPush (s : State) (a : Nat) (bytes : List Byte) : State :=
  let i := (a - 0x40000) / 0x1000
  let w := (a % 0x1000 - 0x100) / 4
  let vs := wordsOf bytes
  s.softBytes a bytes fun st => if w + vs.length = 8 then st.siloBusPush i w vs else st.siloStage i w vs

/-- A write to the register space: aligned 32-bit writes only, the push windows of the silos apart (R490, R522, R584). -/
def State.spaceWrite (s : State) (r : Requester) (a : Nat) (bytes : List Byte) : Bool × State :=
  if (pageOf a).isNone then (false, s.accessErr a)
  else if a % 4 = 0 ∧ bytes.length = 4 then (true, s.issueWord (reqNum r) a (BitVec.ofNat 32 (leNat bytes)))
  else if r ≠ .pcie ∧ pushWindow a bytes.length then (true, s.windowPush a bytes)
  else (false, if r = .pcie then s.pciRefused a else s)

/-- Whether a requester reaches address `a` in the present stage of the boot: GLB.0 alone before READY; after a failed boot also LCS, MEM and shared SRAM (R573, R574). -/
def State.reachable (s : State) (a : Nat) : Bool :=
  let k := s.fld GLB_BOOT_STAT 3 0
  s.runs && (k == 7 || decide (a < 0x1000) ||
    (k == 8 && (decide (a / 0x1000 = 2) || decide (a / 0x1000 = 0x1D) || (decide (0x02000000 ≤ a) && decide (a < 0x02800000)))))

/-- The class of a requester at the arbiter of shared SRAM (R538). -/
def sramClass (r : Requester) : Nat :=
  match r with
  | .apc _ => 0
  | .pcie => 1
  | .dma _ => 2
  | .safety => 4

/-- An access of requester `r` to address `a` has the grant of the arbiter of shared SRAM where it goes there (R234, R538). -/
def State.sramGrant (s : State) (r : Requester) (a : Nat) : State := if s.regionOf a = .sram then s.granted 1 0 (sramClass r) else s

/-- BAR4 as the model numbers the endpoint's own addresses: BAR2 from 0x0400_0000, BAR4 from 0x0480_0000 (R520, log 34). -/
def inBar4 (r : Requester) (a : Nat) : Bool := decide (r = .pcie) && decide (0x04800000 ≤ a) && decide (a < 0x04808000)

/-- The address of the BAR0 map that an access by `r` reaches: BAR2 is capture memory, BAR4 the apertures of the silos; what is reserved there stays unmapped (R490, R520). -/
def barAddr (r : Requester) (a : Nat) : Nat :=
  let o := a - 0x04800000
  if r ≠ .pcie then a
  else if 0x04000000 ≤ a ∧ a < 0x04800000 then a - 0x01000000
  else if inBar4 r a ∧ o < 0x6000 ∧ o % 0x100 < 0x60 then 0x40000 + o / 0x100 * 0x1000 + 0x100 + o % 0x100
  else a

/-- A write of `bytes` at local address `b` by requester `r`: whether it was made, and the state. BAR4 takes the pushes of several words that the register page does not take from PCIe (R490, R522). -/
def State.busWrite (s : State) (r : Requester) (b : Nat) (bytes : List Byte) : Bool × State :=
  let a := barAddr r b
  if !s.reachable a || bytes.isEmpty then (true, s)
  else if inBar4 r b && pushWindow a bytes.length then (true, s.windowPush a bytes)
  else if a < 0x01000000 then s.spaceWrite r a bytes
  else (s.sramGrant r a).memWrite a bytes

/-! ### The meanings -/

/-- The page with number `pg` in the register space, if there is one. -/
def pageNum (pg : BitVec 12) : Option PageRef := pageOf (pg.toNat * 0x1000)

/-- A word write by `r` to offset `o` of the page with number `pg`. -/
def State.pageWrite (s : State) (r : Requester) (pg : BitVec 12) (o : Nat) (v : W32) : State := (s.busWrite r (pg.toNat * 0x1000 + o) (leBytes 4 v.toNat)).2

/-- The meaning of REGISTER_WRITE (R3): `a` is a local address. -/
def execRegisterWrite (r : Requester) (a : BitVec 33) (bytes : List Byte) (s : State) : Host.Outcome State Fault Refusal := .next (s.busWrite r a.toNat bytes).2
/-- The meaning of FIELD_DIE_WRITE_EFFECT (R8 to R10): the oldest posted write of `r` takes effect after `n` retries. -/
def execFieldDieWriteEffect (r : Requester) (n : Fin 4) (s : State) : Host.Outcome State Fault Refusal := .next ((s.bridgeRetries n.val).postedEffect (reqNum r))
/-- The meaning of LOCK (R593): LOCK_KEY with CMD 1. -/
def execLock (r : Requester) (pg : BitVec 12) (key : BitVec 16) (s : State) : Host.Outcome State Fault Refusal :=
  .next (s.pageWrite r pg 0x028 (BitVec.ofNat 32 (key.toNat + 0x10000)))
/-- The meaning of UNLOCK (R593): LOCK_KEY with CMD 2. -/
def execUnlock (r : Requester) (pg : BitVec 12) (key : BitVec 16) (s : State) : Host.Outcome State Fault Refusal :=
  .next (s.pageWrite r pg 0x028 (BitVec.ofNat 32 (key.toNat + 0x20000)))
/-- The meaning of SOFT_RESET (R594): PAGE_CTL with SRST. -/
def execSoftReset (r : Requester) (pg : BitVec 12) (s : State) : Host.Outcome State Fault Refusal := .next (s.pageWrite r pg 0x004 2)
/-- The meaning of ERR_CAP_CLEAR (R596): a write to ERR_CAP. -/
def execErrCapClear (r : Requester) (pg : BitVec 12) (v : W32) (s : State) : Host.Outcome State Fault Refusal := .next (s.pageWrite r pg 0x01C v)
/-- The meaning of EVT_PEND_CLEAR (R482): a write to EVT_PEND. -/
def execEvtPendClear (r : Requester) (pg : BitVec 12) (v : W32) (s : State) : Host.Outcome State Fault Refusal := .next (s.pageWrite r pg 0x010 v)
/-- The meaning of EVT_FORCE_WRITE (R595): a write to EVT_FORCE. -/
def execEvtForceWrite (r : Requester) (pg : BitVec 12) (v : W32) (s : State) : Host.Outcome State Fault Refusal := .next (s.pageWrite r pg 0x018 v)
/-- The meaning of EXT_FLT_CLEAR (R479): a write to EXT_FLT_LO, or with `hi` to EXT_FLT_HI. -/
def execExtFltClear (r : Requester) (hi : Bool) (v : W32) (s : State) : Host.Outcome State Fault Refusal :=
  .next (s.pageWrite r 5 (if hi then 0x144 else 0x140) v)
/-- The meaning of PAIR_LO_WRITE (R601): a word write at `a`, LO of a pair. -/
def execPairLoWrite (r : Requester) (a : BitVec 26) (v : W32) (s : State) : Host.Outcome State Fault Refusal := .next (s.busWrite r a.toNat (leBytes 4 v.toNat)).2
/-- The meaning of PAIR_HI_WRITE (R601): a word write at `a`, HI of a pair. -/
def execPairHiWrite (r : Requester) (a : BitVec 26) (v : W32) (s : State) : Host.Outcome State Fault Refusal := .next (s.busWrite r a.toNat (leBytes 4 v.toNat)).2

end Sys2Proof.Machine
end

