-- ==== Sys2Proof/Machine/RegRead.lean ====
section
/-! DEFINITION. Reads by a requester: the latches of the pairs and of the snapshot groups, the reads that act (R8, R9, R31, R490, R601). -/

namespace Sys2Proof.Machine

/-- The registers that a read of the LO register at offset `o` of a page latches: HI, or the group the page names (R31, R60, R86, R115, R155, R199, R303, R353, R457). -/
def latchGroup (k : PageKind) (o : Nat) : List Nat :=
  match k, o with
  | .ltb, 0x48 => [0x4C, 0x50, 0x54, 0x58, 0x5C, 0x60, 0x64, 0x68, 0x6C]
  | .ltb, 0xE0 => [0xE4, 0xE8]
  | .axc, 0x58 => [0x5C, 0x60, 0x64, 0x68, 0x6C]
  | .axc, 0x88 => [0x8C, 0x90, 0x94, 0x98, 0x9C]
  | .axg, 0x80 => [0x84, 0x88, 0x8C, 0x90, 0x94]
  | .axp, 0x90 => [0x94, 0x98, 0x9C, 0xA0, 0xA4, 0xA8]
  | .axl, 0x320 => [0x324, 0x328, 0x32C, 0x330, 0x334, 0x338, 0x33C, 0x340, 0x344, 0x348, 0x34C]
  | .ldc, 0x94 => [0x98, 0x9C, 0xA0, 0xA4, 0xA8]
  | .fbp, 0x58 => [0x5C, 0x60, 0x64, 0x68]
  | .acq, 0x74 => [0x78, 0x7C, 0x80]
  | _, _ => [o + 4]

/-- The registers whose read latches others: LO of a pair, and the heads of the two groups that are no pairs. -/
def latchHead (p : PageRef) (r : RegRow) (o : Nat) : Bool := decide (r.half = .lo) || (decide (p.kind = .axl) && o == 0x320) || (decide (p.kind = .ldc) && o == 0x94)

/-- What requester `req` reads at `a`: its latched value where it has one (R601), else the present value. -/
def State.readFor (s : State) (req a : Nat) : W32 := if tabHas (reqKey req a) s.latched then tabGet 0 (reqKey req a) s.latched else s.peekAny a

/-- A read of ANGLE_LO keeps its device time in SNAP_T (R31, R60). -/
def State.snapTime (s : State) (p : PageRef) (o : Nat) : State := if p.kind = .ltb ∧ o = 0x48 then s.wr64 LTB_SNAP_T_LO s.dt else s

/-- A read of a latch head by requester `req`: the present values of the group are latched for it. -/
def State.latchAll (s0 : State) (req : Nat) (p : PageRef) (o : Nat) : State :=
  let s := s0.snapTime p o
  { s with latched := (latchGroup p.kind o).foldl (fun t x => tabSet (reqKey req (p.base + x)) (s.peek (p.base + x)) t) s.latched }

/-- A word read at `a` of a body or common register by requester `req`. A LO register that a larger group has latched returns its latched value (R31). -/
def State.regRead (s : State) (req a : Nat) : State :=
  match regRow a with
  | none => s.reply req [0]
  | some (p, r, _) =>
    let o := a - p.base
    let s1 := if fieldReg p o then s.flushPosted req else s
    let a' := aliasOf p o
    if latchHead p r o && !tabHas (reqKey req a) s1.latched then (s1.latchAll req p o).reply req [s1.peek a]
    else if p.kind = .fbp ∧ (o = 0xA4 ∨ o = 0xA8 ∨ o = 0xAC) then
      let s2 := s1.analogRead p.inst o
      (s2.reply req [s2.readFor req a']).when (o == 0xAC) fun st => st.wrFld a 31 16 (s2.fld a 15 0)
    else s1.reply req [s1.readFor req a']

/-- A word read at `b` by requester `r` (R522, R584): a reserved range reads 0 and is recorded; the pop window of a silo pops (R490); what a reset, the boot or a failed boot keeps closed reads as ones (R566, R573). -/
def State.busRead (s : State) (r : Requester) (b : Nat) : State :=
  let req := reqNum r
  let a := barAddr r b
  if !s.reachable a then s.reply req [0xFFFFFFFF]
  else if s.regionOf a = .unmapped then (s.reply req [0]).accessErr a
  else if s.regionOf a ≠ .registers then (s.sramGrant r a).reply req [s.peekAny a]
  else if (pageOf a).isNone then (s.reply req [0]).accessErr a
  else if 0x40000 ≤ a ∧ a < 0xA0000 ∧ a % 0x1000 = 0x120 then s.siloBusPop req ((a - 0x40000) / 0x1000) 1
  else s.regRead req (a / 4 * 4)

/-- One read of `n` words at `b`: the words in ascending order at one instant, so that a pair returns both halves of it (R522, R601); one that begins at the pop window of a silo pops one entry (R490). -/
def State.wideRead (s : State) (r : Requester) (b n : Nat) : State :=
  let a := barAddr r b
  if n ≤ 1 then s.busRead r b
  else if s.reachable a ∧ 0x40000 ≤ a ∧ a < 0xA0000 ∧ a % 0x1000 = 0x120 then s.siloBusPop (reqNum r) ((a - 0x40000) / 0x1000) (min 8 n)
  else
    let x := (List.range n).foldl (fun (acc : List W32 × State) k =>
      let t := acc.2.busRead r (b + 4 * k)
      (acc.1 ++ [(tabGet [] (reqNum r) t.rdata).headD 0], t)) ([], s)
    x.2.reply (reqNum r) x.1

/-- The meaning of PAIR_LO_READ (R601): one read at the address `a.1` of `a.2` + 1 words. -/
def execPairLoRead (r : Requester) (a : BitVec 33 × Fin 16) (s : State) : Host.Outcome State Fault Refusal := .next (s.wideRead r a.1.toNat (a.2.val + 1))
/-- The meaning of LTB_SNAPSHOT (R31): a read of ANGLE_LO. -/
def execLtbSnapshot (r : Requester) (s : State) : Host.Outcome State Fault Refusal := .next (s.busRead r LTB_ANGLE_LO)

end Sys2Proof.Machine
end

