-- ==== Sys2Proof/Machine/Dma.lean ====
section
/-! DEFINITION. What the DMA channels move: local and host addresses, fixed windows, the end of a descriptor and of a chain, an abort (R525 to R528). -/

namespace Sys2Proof.Machine

/-- The pieces of `n` bytes at `a` that do not cross an address that is a multiple of `w`: each piece's address and length. -/
def piecesOf (w a n : Nat) : List (Nat × Nat) :=
  (List.range ((a % w + n + (w - 1)) / w)).map fun k =>
    let lo := max a (a / w * w + w * k)
    (lo, min (a + n) (a / w * w + w * (k + 1)) - lo)

/-- The pop window of a silo (R490). -/
def popWindow (a : Nat) : Bool := decide (0x40000 ≤ a) && decide (a < 0xA0000) && decide (a % 0x1000 = 0x120)

/-- The entry of a pop by DMA: what a read that has waited STALL_LIM returns (R491, R526). -/
def State.dmaPop (s : State) (i : Nat) : List W32 × State :=
  if s.siloAttached i then (emptyPattern, s.err (silPage i) .state 0x120)
  else if (s.silo i).avail = 0 then (emptyPattern, s.siloEmptyRead i)
  else s.siloPopEntry i

/-- A word of the register space read by DMA channel `c`. -/
def State.dmaWord (s : State) (c : Fin 8) (a : Nat) : W32 × State :=
  let s1 := s.busRead (.dma c) a
  (((tabGet [] (6 + c.val) s1.rdata).headD 0), s1)

/-- Read `n` bytes at `a`, which lie in one window of 32 bytes. -/
def State.dmaReadPiece (s : State) (c : Fin 8) (a n : Nat) : List Byte × State :=
  if s.regionOf a = .unmapped then (List.replicate n 0, s.accessErr a)
  else if s.regionOf a ≠ .registers then (s.bytesAt a n, s)
  else if popWindow a ∧ n = 32 then
    let r := s.dmaPop ((a - 0x40000) / 0x1000)
    (r.1.flatMap (fun w => leBytes 4 w.toNat), r.2)
  else
    let r := (piecesOf 4 a n).foldl (fun (acc : List Byte × State) p =>
      let w := acc.2.dmaWord c (p.1 / 4 * 4)
      (acc.1 ++ ((leBytes 4 w.1.toNat).drop (p.1 % 4)).take p.2, w.2)) ([], s)
    r

/-- The page of the word at `a` refuses the value: ERR_CAP of the page would record the write with a code other than CLAMPED and LATE (R528, R596). -/
def State.wordRefused (s : State) (c : Fin 8) (a : Nat) (bytes : List Byte) : Bool :=
  let e := a / 0x1000 * 0x1000 + 0x01C
  let k := fldOf (((s.wr e 0).busWrite (.dma c) a bytes).2.rd e) 7 0
  k != 0 && k != 4 && k != 6

/-- Write `bytes` at `a`, which lie in one window of 32 bytes; false where a page refuses the write (R528). -/
def State.dmaWritePiece (s : State) (c : Fin 8) (a : Nat) (bytes : List Byte) : Bool × State :=
  if (0x01000000 ≤ a ∧ ¬ (0x027F0000 ≤ a ∧ a < 0x02800000)) ∨ pushWindow a bytes.length then s.busWrite (.dma c) a bytes
  else
    (piecesOf 4 a bytes.length).foldl (fun (acc : Bool × State) p =>
      let w := (bytes.drop (p.1 - a)).take p.2
      let r := acc.2.busWrite (.dma c) p.1 w
      if acc.1 then (r.1 && !(decide (p.1 < 0x01000000) && acc.2.wordRefused c p.1 w), r.2) else acc) (true, s)

/-- A transfer in progress: the bytes moved, the code of the error that stopped it (0: none), the bytes sent to the host, the state. -/
structure DmaRun where
  moved : Nat
  err : Nat
  host : List Byte
  st : State

/-- Move the next piece of at most 32 bytes of descriptor `d` (R526, R528); `data` holds what the host supplied. -/
def DmaRun.piece (r : DmaRun) (c : Fin 8) (d : DmaDesc) (data : List Byte) (n : Nat) : DmaRun :=
  let src := if d.srcFix then d.src else d.src + r.moved
  let dst := if d.dstFix then d.dst else d.dst + r.moved
  if r.err ≠ 0 then r
  else if !d.srcHost && !r.st.dmaMapped src then { r with err := 2 }
  else if !d.dstHost && !r.st.dmaMapped dst then { r with err := 2 }
  else
    let rd := if d.srcHost then ((data.drop r.moved).take n, r.st) else r.st.dmaReadPiece c src n
    if d.dstHost then { r with moved := r.moved + n, host := r.host ++ rd.1, st := rd.2 }
    else
      let w := rd.2.dmaWritePiece c dst rd.1
      if w.1 then { r with moved := r.moved + n, st := w.2 } else { r with err := 2, st := w.2 }

/-- The lengths of the pieces of `n` bytes: no piece crosses a window of 32 bytes of the side that is local, of DST where both are. -/
def DmaDesc.pieces (d : DmaDesc) (n : Nat) : List Nat := (piecesOf 32 (if d.dstHost || d.dst % 32 == d.src % 32 || d.srcFix then d.src else d.dst) n).map (·.2)

/-- Move the first `n` bytes of descriptor `d`. -/
def State.dmaMove (s : State) (c : Fin 8) (d : DmaDesc) (data : List Byte) (n : Nat) : DmaRun :=
  let r := (d.pieces n).foldl (fun (r : DmaRun) k => r.piece c d data k) ⟨0, 0, [], s⟩
  if r.host = [] then r else { r with st := { r.st with dmaOut := tabSet c.val (d.dst, r.host) r.st.dmaOut } }

/-- The channel's chain ends: with PEND it starts again at DESC_ADDR (R527). -/
def State.dmaChainEnd (s : State) (c : Nat) : State :=
  if s.bit (DMA_CH_STAT c) 2 then s.dmaBegin c else s.wrFld (DMA_CH_STAT c) 1 0 0

/-- The descriptor in progress has ended without an error: counted, DONE with EVT, the next one or the end of the chain (R526, R527). -/
def State.dmaNext (s : State) (c : Nat) (d : DmaDesc) : State :=
  let s1 := (s.wrFld (DMA_CNT c) 15 0 (s.fld (DMA_CNT c) 15 0 + 1)).when d.evt fun st => st.raise dmaPage c
  if d.last then s1.dmaChainEnd c else s1.dmaFetch c d.next

/-- The port records the error that stopped a channel: a failed or timed-out completion, an uncorrectable error of SRAM or DRAM (R534, R542, R545 to R547). -/
def State.dmaCause (s : State) (d : DmaDesc) (a e : Nat) : State :=
  if e = 3 then (s.count PCI_ERR_CNT 15 8 0x18000 6).raise 0x18000 1
  else if e = 4 then (s.count PCI_ERR_CNT 23 16 0x18000 6).raise 0x18000 2
  else if e ≠ 5 then s
  else if d.srcHost then (s.count PCI_ERR_CNT 15 8 0x18000 6).raise 0x18000 1
  else if dramLo ≤ a then ((s.count DRC_ECC_CNT 31 16 0x1C000 4).wr DRC_ECC_ADDR (BitVec.ofNat 32 (a / 64))).raise 0x1C000 0
  else (s.count MEM_SRAM_ECC 31 16 0x1D000 6).raise 0x1D000 0

/-- DMA_DESCRIPTOR_DONE: the descriptor in progress on channel `c` has moved, with `data` from the host where SRC is there; with `e` 3, 4 or 5 an error stops it after `n` bytes (R527, R528). -/
def State.dmaDescDone (s : State) (c : Fin 8) (data : List Byte) (e n : Nat) : State :=
  let d := dmaDescOf (tabGet [] c.val s.dmaDesc)
  let want := if e = 0 then d.len else min n d.len
  if s.dmaState c ≠ 1 ∨ (e ≠ 0 ∧ e ≠ 3 ∧ e ≠ 4 ∧ e ≠ 5) ∨ ((e = 3 ∨ e = 4) ∧ d.srcHost = false) ∨ (d.srcHost = true ∧ data.length < want) then s
  else
    let r := (s.granted 2 0 c).dmaMove c d data want
    if r.err ≠ 0 then r.st.dmaFail c r.err
    else if e = 0 then r.st.dmaNext c d
    else (r.st.dmaCause d (if d.srcFix then d.src else d.src + want) e).dmaFail c e

/-- DMA_ABORT: the channel stops after the burst in progress, which moves the first `n` bytes of its descriptor, at most 512 (R527). -/
def State.dmaAbort (s : State) (c : Fin 8) (n : Nat) (data : List Byte) : State :=
  if s.dmaState c ≠ 1 then s.dmaStop c
  else
    let d := dmaDescOf (tabGet [] c.val s.dmaDesc)
    let r := s.dmaMove c d data (min (min n 512) (if d.srcHost then min d.len data.length else d.len))
    if r.err ≠ 0 then (r.st.dmaFail c r.err).wrBit (DMA_CH_STAT c) 2 false else r.st.dmaStop c

/-- The meaning of DMA_DESCRIPTOR_DONE (R526 to R528). -/
def execDmaDescriptorDone (c : Fin 8) (data : List Byte) (e : Fin 6) (n : BitVec 24) (s : State) : Host.Outcome State Fault Refusal :=
  .next (s.dmaDescDone c data e.val n.toNat)
/-- The meaning of DMA_ABORT (R527). -/
def execDmaAbort (c : Fin 8) (n : BitVec 10) (data : List Byte) (s : State) : Host.Outcome State Fault Refusal := .next (s.dmaAbort c n.toNat data)

end Sys2Proof.Machine
end

