-- ==== Sys2Proof/Machine/Pair.lean ====
section
/-! DEFINITION. The crosslink of a redundant pair: the token, the copy of the mirrored regions, the records and what they do, the acknowledges, mirrored commits, switchover and loss (R386 to R394). -/

namespace Sys2Proof.Machine

def State.setXlk (s : State) (x : Xlk) : State := { s with xlk := x }

/-- A valid frame of the crosslink has arrived (R393). -/
def State.xlkHeard (s : State) : State := s.setXlk { s.xlk with rxAt := s.dt }

/-- The device takes records as the standby of a pair whose crosslink is UP. -/
def State.shadows (s : State) : Bool := s.role == roleStandby && s.xlkUp

/-- The device is the active or the standby device of a pair whose crosslink is UP. -/
def State.paired (s : State) : Bool := (s.role == roleActive || s.role == roleStandby) && s.xlkUp

/-- The requester number that stages the pairs of mirrored writes, beside those of R601. -/
def xlkReq : Nat := 14

/-! ### The token is settled (R387) -/

/-- Who holds the token: this device, its peer, or nobody after equal claims. -/
inductive Claim where
  | mine | theirs | equal
deriving DecidableEq, Repr

/-- `e` is newer than `f`: 1 to 127 ahead, modulo 256 (R268). -/
def newerEpoch (e f : Nat) : Bool := decide (1 ≤ (e + 256 - f) % 256) && decide ((e + 256 - f) % 256 ≤ 127)

/-- The claims of the two devices (R387). -/
def State.claim (s : State) (peer : XlkPeer) : Claim :=
  let pref := s.bit XLK_XLK_CTL 2
  match s.role == roleActive, peer.active with
  | true, false => .mine
  | false, true => .theirs
  | true, true => if newerEpoch s.epoch peer.epoch.toNat then .mine else if newerEpoch peer.epoch.toNat s.epoch then .theirs else .equal
  | false, false => if pref && !peer.pref then .mine else if !pref && peer.pref then .theirs else .equal

/-- The crosslink has come UP with both devices PAIR (R387, R388). -/
def State.settleToken (s : State) (peer : XlkPeer) : State :=
  if !s.xlkUp || !s.bit XLK_XLK_CTL 1 || !peer.pair then s
  else
    match s.claim peer with
    | .mine => (((if s.role = roleActive then s else s.takeToken).takeDuty).copyBegins).showLinks
    | .theirs =>
      let e := peer.epoch.toNat + (if peer.active then 0 else 1)
      (((((s.wrFld XLK_XLK_STAT 15 8 (e % 256)).setPairRole roleStandby).dropDuty).copyBegins).showLinks)
    | .equal => (((((s.setPairRole roleOrphan).fitFalls).endSync).dropDuty).showLinks).raise xlkPage 10

/-! ### Mirrored writes (R388, R389) -/

/-- The write of a record takes effect: words of registers, pushes into a silo, bytes of memory. -/
def State.recordWrite (s : State) (a : Nat) (bytes : List Byte) : State :=
  let off (st : State) : State := st.setXlk { st.xlk with applying := false }
  let s1 := s.setXlk { s.xlk with applying := true }
  if 0x01000000 ≤ a then off (s1.memWrite a bytes).2
  else if pushWindow a bytes.length then off (s1.windowPush a bytes)
  else off (s1.each (List.range (bytes.length / 4)) fun k st => st.regApply xlkReq (a + 4 * k) (BitVec.ofNat 32 (leNat ((bytes.drop (4 * k)).take 4))) none)

/-- XLK_WRITE_RECORD: the standby applies a forwarded write to a mirrored region. -/
def State.xlkWrite (s : State) (a : Nat) (bytes : List Byte) : State :=
  if s.shadows && s.mirrorsAddr a then (s.xlkHeard).recordWrite a bytes else s

/-! ### Summaries (R389, R391) -/

/-- The summary of slot `n`. -/
def State.summaryOf (s : State) (n : Fin 64) : XlkSum :=
  let x := s.axis n
  ⟨n, ⟨x.st.num % 8, Nat.mod_lt _ (by decide)⟩, x.cmd.p, x.cmd.v, x.cmd.a, s.rd (AXL_COEF_SEQ n), s.rd (axlPage n + 0x020) &&& 0x7FFFFFFF⟩

/-- The mirrored slots. -/
def State.mirroredSlots (s : State) : List (Fin 64) := (List.finRange 64).filter fun n => s.mirrored n

/-- Whether the summary of its slot agrees. -/
def State.agrees (s : State) (e : XlkSum × Bool) : Bool := e.2 && e.1 == s.summaryOf e.1.slot

/-- SYNCED sets once a summary of every mirrored slot has agreed since the copy (R391). -/
def State.syncCheck (s : State) : State :=
  if !s.bit XLK_XLK_STAT 5 && !s.xlk.copying && (s.mirroredSlots.all fun n => s.xlk.agreed.contains n.val) then (s.wrBit XLK_XLK_STAT 5 true).raise xlkPage 4 else s

/-- The standby compares one summary: a disagreement is counted and raises DIVERGED (R391). -/
def State.compareOne (s : State) (e : XlkSum × Bool) : State :=
  let n := e.1.slot.val
  let x := s.xlk
  if !s.mirrored n then s
  else if s.agrees e then s.setXlk { x with agreed := (x.agreed.filter (· != n)) ++ [n], diverged := x.diverged.filter (· != n) }
  else ((s.setXlk { x with diverged := (x.diverged.filter (· != n)) ++ [n] }).count XLK_CNT_XLK 23 16 xlkPage 9).raise xlkPage 5

/-- The standby compares the summaries of a frame: after full agreement a standby fault is over (R391). -/
def State.compareAll (s : State) (sums : List (XlkSum × Bool)) : State :=
  if s.xlk.copying then s
  else
    let s1 := s.each sums fun e st => st.compareOne e
    let s2 := s1.when (s1.xlk.diverged.isEmpty && !sums.isEmpty) fun st => st.setXlk { st.xlk with standbyFault := false }
    (s2.wrFld XLK_XLK_STAT 22 16 s2.xlk.diverged.length).syncCheck

/-- Where the state block of slot `n` stands, if an LPU carries it (R205). -/
def State.blockAt (s : State) (n : Nat) : Option Nat := (s.lpuOf n).map fun ip => lpuMem ip.1 + 0x9000 + ip.2 * 0x600

/-- A state block of the active device replaces the standby's: its bytes, with the state and the commanded motion of the same frame's summary (R389, R391). -/
def State.takeBlock (s : State) (sums : List (XlkSum × Bool)) (b : Fin 64 × List Byte) : State :=
  let n := b.1.val
  if !s.mirrored n then s
  else
    let s1 := match s.blockAt n with
      | none => s
      | some a => s.putBytes a (b.2.take 0x600)
    match sums.find? fun e => e.1.slot == b.1 with
    | none => s1
    | some e =>
      let x := s1.axis n
      s1.setAxis n { x with cmd := { x.cmd with p := e.1.p, v := e.1.v, a := e.1.a } }

/-- The standby's line at T_n is the active device's (R389). -/
def State.takeLine (s : State) (t : Nat) (l : Int × Int × Int) : State :=
  if s.ltb.plan.isSome then s else { s with ltb := { s.ltb with line := ⟨t, ⟨l.1, l.2.1, l.2.2⟩, 0⟩ } }

/-- XLK_MIRROR_FRAME: the standby takes a MIRROR frame (R389, R391). -/
def State.mirrorFrame (s : State) (m : MirrorIn) : State :=
  if !s.shadows then s
  else
    let s1 := (s.xlkHeard).setXlk { s.xlk with rxAt := s.dt, cycle := (m.cycle.toNat, m.t.toNat) }
    let s2 := (s1.when (s1.fld LTB_DISC_CTL 1 0 == 1) fun st => st.discMeasure m.ofs).takeLine m.t.toNat m.line
    (s2.compareAll m.sums).each m.blocks fun b st => st.takeBlock m.sums b

/-- The slots of the rotation in order: those that go first, then from the one after the last one sent (R389, R390). -/
def State.rotation (s : State) : List Nat :=
  let all := s.mirroredSlots.map (·.val)
  let first := s.xlk.first.filter fun n => all.contains n
  let ring := (all.filter fun n => s.xlk.rotNext ≤ n) ++ (all.filter fun n => n < s.xlk.rotNext)
  first ++ ring.filter fun n => !first.contains n

/-- MIRROR_FRAME_SEND: the active device sends its summaries and `nb` state blocks in rotation (R389). -/
def State.mirrorSend (s : State) (nb : Nat) : State :=
  if !(s.role == roleActive && s.xlkUp) then s
  else
    let k := s.lineAt s.dt
    let blocks := s.rotation.take nb
    let x := s.xlk
    let t := if s.isMember then s.ring.nextT else s.dt
    let s1 := s.setXlk { x with
      first := x.first.filter fun n => !blocks.contains n
      rotNext := match blocks.getLast? with
        | none => x.rotNext
        | some n => n + 1
      late := x.late.filter fun a => !(blocks.any fun n => a / 0x4000 == 0x40 + n) }
    s1.xlkSend (.mirror (s.rd (FRB_CYC_CNT 0)).toNat t (k.p, k.v, k.a) (s.mirroredSlots.map fun n => s.summaryOf n) blocks)

/-- INITIAL_COPY_DONE: the copy of every region has ended; on the standby `copy` holds what it wrote (R388, R391). -/
def State.copyDone (s : State) (kib : Nat) (copy : List (BitVec 33 × List Byte)) (sums : List (XlkSum × Bool)) : State :=
  if !s.paired || !s.xlk.copying then s
  else
    let ended (st : State) : State := (st.setXlk { st.xlk with copying := false, late := [] }).wr XLK_SYNC_PROG (BitVec.ofNat 32 kib)
    if s.role = roleActive then ended s
    else (ended (s.each (copy.filter fun e => s.mirrorsAddr e.1.toNat) fun e st => st.recordWrite e.1.toNat e.2)).compareAll sums

/-! ### Acknowledges (R389, R391) -/

/-- Every DUAL link is UP with IDENT (R391). -/
def State.dualLinksUp (s : State) : Bool := (List.range 32).all fun k => !s.bit (SLK_LINK_CTL k) 1 || (s.linkState k == 4 && s.bit (SLK_LINK_STAT k) 7)

/-- Whether the standby is fit (R391). -/
def State.fitNow (s : State) : Bool := s.bit XLK_XLK_STAT 5 && s.xlk.diverged.isEmpty && s.dualLinksUp && s.bit LTB_STATUS 12 && !s.xlk.standbyFault

/-- The standby's FIT as it stands. -/
def State.fitShow (s : State) : State :=
  if s.role ≠ roleStandby then s else if s.fitNow then s.wrBit XLK_XLK_STAT 6 true else s.fitFalls

/-- XLK_ACK_SEND: the last sequence received, SYNCED and FIT (R389). -/
def State.ackSend (s : State) : State :=
  if !s.paired then s
  else
    let s1 := s.fitShow
    let fit := s1.bit XLK_XLK_STAT 6
    (s1.setXlk { s1.xlk with sentFit := fit }).xlkSend (.ack (s1.rd XLK_LAST_SEQ).toNat (s1.bit XLK_XLK_STAT 5) fit)

/-- Commits up to the one that an acknowledge names are acknowledged: records arrive in order. -/
def ackUpTo (page seq : Nat) (l : List XlkWait) : List XlkWait :=
  if l.any fun w => w.page == page && w.seq == seq then
    let k := l.findIdx fun w => w.page == page && w.seq == seq
    (l.take (k + 1)).map (fun w => { w with acked := true }) ++ l.drop (k + 1)
  else l

/-- XLK_ACK_RECORD on the active device: LAST_SEQ, SYNCED, FIT; FIT stays clear while a page awaits its resynchronisation (R390, R391). -/
def State.ackTake (s : State) (page seq : Nat) (synced fit : Bool) : State :=
  if !s.paired then s
  else
    let s1 := s.xlkHeard
    if s.role ≠ roleActive then s1
    else
      let known := s.xlk.waiting.any fun w => w.page == page && w.seq == seq
      let s2 := (s1.setXlk { s1.xlk with waiting := ackUpTo page seq s1.xlk.waiting }).when known fun st => st.wr XLK_LAST_SEQ (BitVec.ofNat 32 seq)
      let ok := fit && s2.xlk.late.isEmpty && !s2.xlk.copying
      let s3 := s2.setXlk { s2.xlk with gotFit := ok }
      let s4 := if synced && !s3.xlk.copying then (s3.raiseIf (!s3.bit XLK_XLK_STAT 5) xlkPage 4).wrBit XLK_XLK_STAT 5 true else s3.wrBit XLK_XLK_STAT 5 false
      if ok then s4.wrBit XLK_XLK_STAT 6 true else s4.fitFalls

/-! ### Mirrored commits (R390) -/

/-- XLK_COMMIT_RECORD: the standby takes a mirrored commit with its sequence, to take effect at the same instant, and acknowledges it (R389, R390). -/
def State.xlkCommit (s : State) (page seq : Nat) (due : CommitDue) (instant : Nat) : State :=
  match pageOf page with
  | none => s
  | some p =>
    if !s.shadows || !s.mirrorsKind p then s
    else
      let vals := s.pageVals p
      let s1 := ((s.xlkHeard).stripCmds p.base).wrFld (p.base + 0x020) 30 0 ((seq + 2 ^ 31 - 1) % 2 ^ 31)
      let s2 := s1.takeCommit p vals due
      let s3 := s2.setXlk { s2.xlk with waiting := (s2.xlk.waiting.filter fun w => w.page != p.base) ++ [⟨p.base, seq, instant, true⟩] }
      ((s3.wr XLK_LAST_SEQ (BitVec.ofNat 32 seq)).fitShow).ackSend

/-- The instant of one mirrored commit has come: without the acknowledge the active device applies it alone (R390). -/
def State.waitEnds (s : State) (w : XlkWait) : State :=
  let s1 := s.setXlk { s.xlk with waiting := s.xlk.waiting.filter fun v => v != w }
  let s2 := if s.role = roleActive ∧ w.acked = false then
      let s2 := (s1.setXlk { s1.xlk with late := s1.xlk.late ++ [w.page], gotFit := false }).count XLK_CNT_XLK 31 24 xlkPage 9
      (s2.raise xlkPage 6).fitFalls
    else s1
  match pageOf w.page with
  | none => s2
  | some p => s2.applyNow p

/-- MIRROR_COMMIT_DEADLINE. -/
def State.waitDue (s : State) : State := s.each (s.xlk.waiting.filter fun w => w.instant ≤ s.dt) fun w st => st.waitEnds w

/-! ### Mirrored reactions (R390, R428) -/

/-- XLK_REACT_RECORD: the standby starts the reaction at the next sample of the slot; SAFE de-energises the groups of the slot at the next boundary of the safety channels. -/
def State.xlkReact (s : State) (n : Nat) (cls : FaultClass) : State :=
  if !s.xlkUp || !s.bit XLK_XLK_CTL 1 then s
  else
    let s1 := s.xlkHeard
    let s2 := s1.when (s1.role == roleStandby && s1.mirrored n) fun st => st.setXlk { st.xlk with reacts := st.xlk.reacts ++ [(n, cls)] }
    if cls = .safe then s2.each (s2.groupsOf n) fun g st => { st with safPeer := st.safPeer ||| 2 ^ g } else s2

/-! ### Switchover (R392) -/

/-- XLK_TOKEN_RECORD: the standby learns the switch time. -/
def State.tokenTake (s : State) (e t : Nat) : State := if s.shadows then (s.xlkHeard).setXlk { s.xlk with rxAt := s.dt, token := some (e, t) } else s

/-- Commits that the standby has not acknowledged do not outlast a switchover (R390). -/
def State.dropUnacked (s : State) : State :=
  let un := s.xlk.waiting.filter fun w => !w.acked
  (s.each un fun w st => st.dropCommit w.page).setXlk { s.xlk with waiting := s.xlk.waiting.filter fun w => w.acked }

/-- TOKEN_SWITCH: at T_SW the token passes (R392). -/
def State.tokenSwitch (s : State) : State :=
  match s.xlk.token with
  | none => s
  | some (e, t) =>
    if s.dt < t ∨ s.paired = false then s
    else
      let s1 := (s.setXlk { s.xlk with token := none, sentFit := false, gotFit := false }).wrFld XLK_XLK_STAT 15 8 e
      if s.role = roleActive then ((((s1.dropUnacked).setPairRole roleStandby).dropDuty).switchover).showLinks
      else (((s1.setPairRole roleActive).takeDuty).switchover).showLinks

/-- CROSSLINK_LOSS: no valid frame has arrived for TO; loss of sync acts by itself (R393). -/
def State.xlkTimeout (s : State) : State :=
  if s.xlkUp ∧ s.xlk.rxAt + max 4 (s.fld XLK_XLK_CTL 11 8) * 1000 ≤ s.dt then s.portToDown 2 else s

/-- A record of the peer that has passed the injector takes effect. -/
def State.xlkApply (s : State) (r : XlkIn) : State :=
  match r with
  | .mirror m => s.mirrorFrame m
  | .write a b => s.xlkWrite a b
  | .commit page seq due instant => s.xlkCommit page seq due instant
  | .react n cls => s.xlkReact n cls
  | .token e t => s.tokenTake e t
  | .ack page seq synced fit => s.ackTake page seq synced fit

/-! ### The meanings -/

def execXlkLaneUp (peer : XlkPeer) (s : State) : Host.Outcome State Fault Refusal := .next (s.settleToken peer)
def execInitialCopyDone (kib : BitVec 16) (copy : List (BitVec 33 × List Byte)) (sums : List (XlkSum × Bool)) (s : State) : Host.Outcome State Fault Refusal :=
  .next (s.copyDone kib.toNat copy sums)
def execMirrorFrameSend (nb : Fin 65) (s : State) : Host.Outcome State Fault Refusal := .next (s.mirrorSend nb.val)
def execXlkAckSend (s : State) : Host.Outcome State Fault Refusal := .next s.ackSend
def execMirrorCommitDeadline (s : State) : Host.Outcome State Fault Refusal := .next s.waitDue
def execTokenSwitch (s : State) : Host.Outcome State Fault Refusal := .next s.tokenSwitch
def execCrosslinkLoss (s : State) : Host.Outcome State Fault Refusal := .next s.xlkTimeout

end Sys2Proof.Machine
end

