-- ==== Sys2Proof/Machine/Lanes.lean ====
section
/-! DEFINITION. What arrives on a ring lane or the crosslink: through the injector of the lane, then to its taker (R360, R366, R374, R379, R385, R389). -/

namespace Sys2Proof.Machine

/-- A frame that has passed the injector of lane `p`; `held` keeps it out of R369. A broken frame fails its CRC. -/
def State.laneTake (s : State) (p frac : Nat) (abt held : Bool) (f : LaneFrame) : State :=
  match f with
  | .cycle b => s.cycleCheck p (if held then none else some (s.dt * 256 + frac)) b abt
  | .msg b => s.msgCheck p b
  | .form g => s.formReceived p g
  | .peer r => s.xlkApply r
  | .broken => s.hopErr p 7 0
  | .sent _ => s

/-- A frame arrives on lane `p` (R385). -/
def State.laneArrive (s : State) (p frac : Nat) (abt : Bool) (f : LaneFrame) : State :=
  let (fs, s1) := s.laneInject p true f
  s1.each fs fun g st => st.laneTake p frac abt g.2 g.1

/-- Frames held by DELAY whose time has come go on (R385). -/
def State.ringTick (s : State) : State :=
  s.each (List.range 3) fun p st =>
    let due := (st.rport p).injHeld.filter fun e => e.1 != 0 && decide (e.1 ≤ st.dt)
    if due = [] then st
    else
      let s1 := st.setRport p { st.rport p with injHeld := (st.rport p).injHeld.filter fun e => !due.contains e }
      let rx := s1.bit (frbPage p + 0x02C) 3
      s1.each due fun e u => if rx then u.laneTake p 0 false true e.2 else u.laneEmit p false e.2

/-! ### Commands -/

/-- The meaning of CYCLE_FRAME_PASS. -/
def execCycleFramePass (p : Fin 2) (frac : BitVec 8) (data : List Byte) (abt : Bool) (s : State) : Host.Outcome State Fault Refusal := .next (s.laneArrive p frac.toNat abt (.cycle data))
/-- The meaning of RING_MSG_RECEIVED. -/
def execRingMsgReceived (p : Fin 2) (data : List Byte) (s : State) : Host.Outcome State Fault Refusal := .next (s.laneArrive p 0 false (.msg data))
/-- The meaning of FORM_FRAME_RECEIVED. -/
def execFormFrameReceived (p : Fin 2) (f : FormFrame) (s : State) : Host.Outcome State Fault Refusal := .next (s.laneArrive p 0 false (.form f))
/-- The meaning of XLK_MIRROR_FRAME. -/
def execXlkMirrorFrame (m : MirrorIn) (s : State) : Host.Outcome State Fault Refusal := .next (s.laneArrive 2 0 false (.peer (.mirror m)))
/-- The meaning of XLK_WRITE_RECORD. -/
def execXlkWriteRecord (a : BitVec 33) (bytes : List Byte) (s : State) : Host.Outcome State Fault Refusal := .next (s.laneArrive 2 0 false (.peer (.write a.toNat bytes)))
/-- The meaning of XLK_COMMIT_RECORD. -/
def execXlkCommitRecord (pg : BitVec 12) (seq : BitVec 31) (due : CommitDue) (instant : BitVec 64) (s : State) : Host.Outcome State Fault Refusal :=
  .next (s.laneArrive 2 0 false (.peer (.commit (pg.toNat * 0x1000) seq.toNat due instant.toNat)))
/-- The meaning of XLK_REACT_RECORD. -/
def execXlkReactRecord (n : Fin 64) (cls : Fin 6) (s : State) : Host.Outcome State Fault Refusal := .next (s.laneArrive 2 0 false (.peer (.react n.val (classOf cls.val))))
/-- The meaning of XLK_TOKEN_RECORD. -/
def execXlkTokenRecord (e : BitVec 8) (t : BitVec 64) (s : State) : Host.Outcome State Fault Refusal := .next (s.laneArrive 2 0 false (.peer (.token e.toNat t.toNat)))
/-- The meaning of XLK_ACK_RECORD. -/
def execXlkAckRecord (pg : BitVec 12) (seq : BitVec 31) (synced fit : Bool) (s : State) : Host.Outcome State Fault Refusal :=
  .next (s.laneArrive 2 0 false (.peer (.ack (pg.toNat * 0x1000) seq.toNat synced fit)))

end Sys2Proof.Machine
end

