-- ==== Sys2Proof/Machine/Dispatch.lean ====
section
/-! DEFINITION. The meaning of every command: one direct call for each constructor. -/

namespace Sys2Proof.Machine

def exec (i : Instr) (s : State) : Host.Outcome State Fault Refusal :=
  match i with
  | .registerWrite r a bytes => Sys2Proof.Machine.execRegisterWrite r a bytes s
  | .fieldDieWriteEffect r n => Sys2Proof.Machine.execFieldDieWriteEffect r n s
  | .bridgeLoss => Sys2Proof.Machine.execBridgeLoss s
  | .referenceLoss => Sys2Proof.Machine.execReferenceLoss s
  | .pllUnlock k => Sys2Proof.Machine.execPllUnlock k s
  | .commitWrite r pg v => Sys2Proof.Machine.execCommitWrite r pg v s
  | .commitAtTime r pg target => Sys2Proof.Machine.execCommitAtTime r pg target s
  | .commitAtAngle r pg target => Sys2Proof.Machine.execCommitAtAngle r pg target s
  | .commitAtCancel r pg target => Sys2Proof.Machine.execCommitAtCancel r pg target s
  | .commitApply pg => Sys2Proof.Machine.execCommitApply pg s
  | .lock r pg key => Sys2Proof.Machine.execLock r pg key s
  | .unlock r pg key => Sys2Proof.Machine.execUnlock r pg key s
  | .softReset r pg => Sys2Proof.Machine.execSoftReset r pg s
  | .errCapClear r pg v => Sys2Proof.Machine.execErrCapClear r pg v s
  | .evtPendClear r pg v => Sys2Proof.Machine.execEvtPendClear r pg v s
  | .evtForceWrite r pg v => Sys2Proof.Machine.execEvtForceWrite r pg v s
  | .extFltClear r hi v => Sys2Proof.Machine.execExtFltClear r hi v s
  | .pairLoRead r a => Sys2Proof.Machine.execPairLoRead r a s
  | .pairLoWrite r a v => Sys2Proof.Machine.execPairLoWrite r a v s
  | .pairHiWrite r a v => Sys2Proof.Machine.execPairHiWrite r a v s
  | .axisEnable n codes => Sys2Proof.Machine.execAxisEnable n codes s
  | .axisDisable n => Sys2Proof.Machine.execAxisDisable n s
  | .axisOpen n => Sys2Proof.Machine.execAxisOpen n s
  | .axisClose n => Sys2Proof.Machine.execAxisClose n s
  | .axisAck n => Sys2Proof.Machine.execAxisAck n s
  | .axisStandstill n => Sys2Proof.Machine.execAxisStandstill n s
  | .axisSampleInstant n ds codes => Sys2Proof.Machine.execAxisSampleInstant n ds codes s
  | .loopRunStart k0 cycles => Sys2Proof.Machine.execLoopRunStart k0 cycles s
  | .applyInstant n => Sys2Proof.Machine.execApplyInstant n s
  | .iqExtWrite n v => Sys2Proof.Machine.execIqExtWrite n v s
  | .coefConversionDone n => Sys2Proof.Machine.execCoefConversionDone n s
  | .rcSave n => Sys2Proof.Machine.execRcSave n s
  | .rcLoad n => Sys2Proof.Machine.execRcLoad n s
  | .rcClear n => Sys2Proof.Machine.execRcClear n s
  | .rcCmdDone n => Sys2Proof.Machine.execRcCmdDone n s
  | .slotMigration late => Sys2Proof.Machine.execSlotMigration late s
  | .ltbStep ds => Sys2Proof.Machine.execLtbStep ds s
  | .vmgStart => Sys2Proof.Machine.execVmgStart s
  | .vmgStop => Sys2Proof.Machine.execVmgStop s
  | .vmgHold => Sys2Proof.Machine.execVmgHold s
  | .vmgResume => Sys2Proof.Machine.execVmgResume s
  | .vmgLineStop => Sys2Proof.Machine.execVmgLineStop s
  | .ltbSnapshot r => Sys2Proof.Machine.execLtbSnapshot r s
  | .lineStateReceived => Sys2Proof.Machine.execLineStateReceived s
  | .lsMiss => Sys2Proof.Machine.execLsMiss s
  | .rejoinDone => Sys2Proof.Machine.execRejoinDone s
  | .lossRejoin => Sys2Proof.Machine.execLossRejoin s
  | .joinDone => Sys2Proof.Machine.execJoinDone s
  | .ascArm => Sys2Proof.Machine.execAscArm s
  | .ascDisarm e v => Sys2Proof.Machine.execAscDisarm e v s
  | .slotFreeze => Sys2Proof.Machine.execSlotFreeze s
  | .ascFire => Sys2Proof.Machine.execAscFire s
  | .fcoPulseEnd => Sys2Proof.Machine.execFcoPulseEnd s
  | .fcoSwSet mask => Sys2Proof.Machine.execFcoSwSet mask s
  | .fcoSwClr mask => Sys2Proof.Machine.execFcoSwClr mask s
  | .fliEdge k ball => Sys2Proof.Machine.execFliEdge k ball s
  | .latchRecordComplete k => Sys2Proof.Machine.execLatchRecordComplete k s
  | .gearEngage n => Sys2Proof.Machine.execGearEngage n s
  | .gearDisengage n => Sys2Proof.Machine.execGearDisengage n s
  | .gearSwitch n => Sys2Proof.Machine.execGearSwitch n s
  | .engageStart n => Sys2Proof.Machine.execEngageStart n s
  | .disengageStart n => Sys2Proof.Machine.execDisengageStart n s
  | .camDescriptorWrite t w v => Sys2Proof.Machine.execCamDescriptorWrite t w v s
  | .camCheckDone t => Sys2Proof.Machine.execCamCheckDone t s
  | .regCtlWrite n v => Sys2Proof.Machine.execRegCtlWrite n v s
  | .moveAbs n => Sys2Proof.Machine.execMoveAbs n s
  | .moveRel n => Sys2Proof.Machine.execMoveRel n s
  | .moveVelocity n => Sys2Proof.Machine.execMoveVelocity n s
  | .moveStream n => Sys2Proof.Machine.execMoveStream n s
  | .moveHome n => Sys2Proof.Machine.execMoveHome n s
  | .moveStop n => Sys2Proof.Machine.execMoveStop n s
  | .moveResume n => Sys2Proof.Machine.execMoveResume n s
  | .stepEmit n => Sys2Proof.Machine.execStepEmit n s
  | .lpuNop k0 last => Sys2Proof.Machine.execLpuNop k0 last s
  | .lpuMov k0 cd ca last => Sys2Proof.Machine.execLpuMov k0 cd ca last s
  | .lpuMva k0 cd acc sh last => Sys2Proof.Machine.execLpuMva k0 cd acc sh last s
  | .lpuMvap k0 cd sh last => Sys2Proof.Machine.execLpuMvap k0 cd sh last s
  | .lpuLdacc k0 ca acc last => Sys2Proof.Machine.execLpuLdacc k0 ca acc last s
  | .lpuClra k0 acc last => Sys2Proof.Machine.execLpuClra k0 acc last s
  | .lpuAdd k0 cd ca cb last => Sys2Proof.Machine.execLpuAdd k0 cd ca cb last s
  | .lpuSub k0 cd ca cb last => Sys2Proof.Machine.execLpuSub k0 cd ca cb last s
  | .lpuNeg k0 cd ca last => Sys2Proof.Machine.execLpuNeg k0 cd ca last s
  | .lpuAbs k0 cd ca last => Sys2Proof.Machine.execLpuAbs k0 cd ca last s
  | .lpuMin k0 cd ca cb last => Sys2Proof.Machine.execLpuMin k0 cd ca cb last s
  | .lpuMax k0 cd ca cb last => Sys2Proof.Machine.execLpuMax k0 cd ca cb last s
  | .lpuClamp k0 cd ca cb last => Sys2Proof.Machine.execLpuClamp k0 cd ca cb last s
  | .lpuMul k0 ca cb acc last => Sys2Proof.Machine.execLpuMul k0 ca cb acc last s
  | .lpuMac k0 ca cb acc last => Sys2Proof.Machine.execLpuMac k0 ca cb acc last s
  | .lpuMsu k0 ca cb acc last => Sys2Proof.Machine.execLpuMsu k0 ca cb acc last s
  | .lpuDot k0 ca cb acc last => Sys2Proof.Machine.execLpuDot k0 ca cb acc last s
  | .lpuDota k0 ca cb acc last => Sys2Proof.Machine.execLpuDota k0 ca cb acc last s
  | .lpuMulp k0 ca acc last => Sys2Proof.Machine.execLpuMulp k0 ca acc last s
  | .lpuMacp k0 ca acc last => Sys2Proof.Machine.execLpuMacp k0 ca acc last s
  | .lpuCmul k0 ca cb last => Sys2Proof.Machine.execLpuCmul k0 ca cb last s
  | .lpuCmac k0 ca cb last => Sys2Proof.Machine.execLpuCmac k0 ca cb last s
  | .lpuCmulc k0 ca cb last => Sys2Proof.Machine.execLpuCmulc k0 ca cb last s
  | .lpuCmacc k0 ca cb last => Sys2Proof.Machine.execLpuCmacc k0 ca cb last s
  | .lpuCmulp k0 ca last => Sys2Proof.Machine.execLpuCmulp k0 ca last s
  | .lpuAdda k0 acc last => Sys2Proof.Machine.execLpuAdda k0 acc last s
  | .lpuSha k0 acc sh last => Sys2Proof.Machine.execLpuSha k0 acc sh last s
  | .lpuAsh k0 cd ca cb last => Sys2Proof.Machine.execLpuAsh k0 cd ca cb last s
  | .lpuLsh k0 cd ca cb last => Sys2Proof.Machine.execLpuLsh k0 cd ca cb last s
  | .lpuAnd k0 cd ca cb last => Sys2Proof.Machine.execLpuAnd k0 cd ca cb last s
  | .lpuOr k0 cd ca cb last => Sys2Proof.Machine.execLpuOr k0 cd ca cb last s
  | .lpuXor k0 cd ca cb last => Sys2Proof.Machine.execLpuXor k0 cd ca cb last s
  | .lpuCmp k0 ca cb last => Sys2Proof.Machine.execLpuCmp k0 ca cb last s
  | .lpuSel k0 cd ca cb last => Sys2Proof.Machine.execLpuSel k0 cd ca cb last s
  | .lpuSincos k0 cd ca last => Sys2Proof.Machine.execLpuSincos k0 cd ca last s
  | .lpuAtan2 k0 cd ca cb last => Sys2Proof.Machine.execLpuAtan2 k0 cd ca cb last s
  | .lpuRecip k0 cd ca last => Sys2Proof.Machine.execLpuRecip k0 cd ca last s
  | .lpuRsqrt k0 cd ca last => Sys2Proof.Machine.execLpuRsqrt k0 cd ca last s
  | .lpuNorm k0 cd ca last => Sys2Proof.Machine.execLpuNorm k0 cd ca last s
  | .lpuAdd64 k0 cd ca cb last => Sys2Proof.Machine.execLpuAdd64 k0 cd ca cb last s
  | .lpuSub64 k0 cd ca cb last => Sys2Proof.Machine.execLpuSub64 k0 cd ca cb last s
  | .lpuMulfrac k0 cd ca cb last => Sys2Proof.Machine.execLpuMulfrac k0 cd ca cb last s
  | .lpuCnop k0 => Sys2Proof.Machine.execLpuCnop k0 s
  | .lpuDo k0 c ea sa rot rstep2 sd1 => Sys2Proof.Machine.execLpuDo k0 c ea sa rot rstep2 sd1 s
  | .lpuDor k0 cr ea sa rot rstep2 sd1 => Sys2Proof.Machine.execLpuDor k0 cr ea sa rot rstep2 sd1 s
  | .lpuBr k0 t => Sys2Proof.Machine.execLpuBr k0 t s
  | .lpuBrn k0 t => Sys2Proof.Machine.execLpuBrn k0 t s
  | .lpuBrz k0 t => Sys2Proof.Machine.execLpuBrz k0 t s
  | .lpuCall k0 t => Sys2Proof.Machine.execLpuCall k0 t s
  | .lpuRet k0 => Sys2Proof.Machine.execLpuRet k0 s
  | .lpuLdi k0 cr imm => Sys2Proof.Machine.execLpuLdi k0 cr imm s
  | .lpuLdih k0 cr imm => Sys2Proof.Machine.execLpuLdih k0 cr imm s
  | .lpuSeta k0 k w v => Sys2Proof.Machine.execLpuSeta k0 k w v s
  | .lpuSetsr k0 v => Sys2Proof.Machine.execLpuSetsr k0 v s
  | .lpuBlk k0 => Sys2Proof.Machine.execLpuBlk k0 s
  | .lpuEnd k0 => Sys2Proof.Machine.execLpuEnd k0 s
  | .lpuLd k0 y k d last => Sys2Proof.Machine.execLpuLd k0 y k d last s
  | .lpuLdp k0 y k d last => Sys2Proof.Machine.execLpuLdp k0 y k d last s
  | .lpuSt k0 y k d last => Sys2Proof.Machine.execLpuSt k0 y k d last s
  | .lpuStp k0 y k d last => Sys2Proof.Machine.execLpuStp k0 y k d last s
  | .lpuSta k0 y k d last => Sys2Proof.Machine.execLpuSta k0 y k d last s
  | .lpuStap k0 y k last => Sys2Proof.Machine.execLpuStap k0 y k last s
  | .lpuMod k0 k last => Sys2Proof.Machine.execLpuMod k0 k last s
  | .lpuPFetch k0 k last => Sys2Proof.Machine.execLpuPFetch k0 k last s
  | .libLoad sig => Sys2Proof.Machine.execLibLoad sig s
  | .rotNow => Sys2Proof.Machine.execRotNow s
  | .rotationStart => Sys2Proof.Machine.execRotationStart s
  | .fallowEnd k0 unit slack => Sys2Proof.Machine.execFallowEnd k0 unit slack s
  | .testReqWrite v => Sys2Proof.Machine.execTestReqWrite v s
  | .calReqWrite v => Sys2Proof.Machine.execCalReqWrite v s
  | .lpuFailure k0 bad => Sys2Proof.Machine.execLpuFailure k0 bad s
  | .lpuDebugHalt k0 => Sys2Proof.Machine.execLpuDebugHalt k0 s
  | .trumpPromotion arb inst r w => Sys2Proof.Machine.execTrumpPromotion arb inst r w s
  | .linkCtlWrite k v => Sys2Proof.Machine.execLinkCtlWrite k v s
  | .syncAcquired k inv => Sys2Proof.Machine.execSyncAcquired k inv s
  | .syncLost k => Sys2Proof.Machine.execSyncLost k s
  | .dlFrameSend k => Sys2Proof.Machine.execDlFrameSend k s
  | .ulFrameReceived k t4 data => Sys2Proof.Machine.execUlFrameReceived k t4 data s
  | .ulFrameMissing k => Sys2Proof.Machine.execUlFrameMissing k s
  | .linkClear k => Sys2Proof.Machine.execLinkClear k s
  | .linkRetrain k => Sys2Proof.Machine.execLinkRetrain k s
  | .linkIdentReq k => Sys2Proof.Machine.execLinkIdentReq k s
  | .slkMsgSend k len => Sys2Proof.Machine.execSlkMsgSend k len s
  | .slkMsgPush k => Sys2Proof.Machine.execSlkMsgPush k s
  | .slkInjArm k v => Sys2Proof.Machine.execSlkInjArm k v s
  | .pwmReload c codes bemf => Sys2Proof.Machine.execPwmReload c codes bemf s
  | .ldcCommitArrival c at_ => Sys2Proof.Machine.execLdcCommitArrival c at_ s
  | .pwmLegChange c leg meas bst overlap => Sys2Proof.Machine.execPwmLegChange c leg meas bst overlap s
  | .bstPreEnd c => Sys2Proof.Machine.execBstPreEnd c s
  | .desat c sw => Sys2Proof.Machine.execDesat c sw s
  | .hardShort c sw => Sys2Proof.Machine.execHardShort c sw s
  | .tripInput k => Sys2Proof.Machine.execTripInput k s
  | .gateUv c mv => Sys2Proof.Machine.execGateUv c mv s
  | .softOffEnd c => Sys2Proof.Machine.execSoftOffEnd c s
  | .fltClr c => Sys2Proof.Machine.execFltClr c s
  | .cbc c => Sys2Proof.Machine.execCbc c s
  | .comStart c codes => Sys2Proof.Machine.execComStart c codes s
  | .comStop c => Sys2Proof.Machine.execComStop c s
  | .comAck c => Sys2Proof.Machine.execComAck c s
  | .commutation c => Sys2Proof.Machine.execCommutation c s
  | .hallCommutation c code => Sys2Proof.Machine.execHallCommutation c code s
  | .sensingDecision c found => Sys2Proof.Machine.execSensingDecision c found s
  | .reverseWaitEnd c int => Sys2Proof.Machine.execReverseWaitEnd c int s
  | .reverseWaitTimeout c => Sys2Proof.Machine.execReverseWaitTimeout c s
  | .ipdPulseEnd c rise => Sys2Proof.Machine.execIpdPulseEnd c rise s
  | .alignEnd c => Sys2Proof.Machine.execAlignEnd c s
  | .startTimeout c => Sys2Proof.Machine.execStartTimeout c s
  | .recatchWaitEnd c => Sys2Proof.Machine.execRecatchWaitEnd c s
  | .coastStill c => Sys2Proof.Machine.execCoastStill c s
  | .recatchReset c => Sys2Proof.Machine.execRecatchReset c s
  | .indexPulse p d dB => Sys2Proof.Machine.execIndexPulse p d dB s
  | .quadErr p => Sys2Proof.Machine.execQuadErr p s
  | .wireBreak p k => Sys2Proof.Machine.execWireBreak p k s
  | .serialTransaction p busy => Sys2Proof.Machine.execSerialTransaction p busy s
  | .serialReading p start bits => Sys2Proof.Machine.execSerialReading p start bits s
  | .hallCodeChange p code => Sys2Proof.Machine.execHallCodeChange p code s
  | .fbClear p wires bad => Sys2Proof.Machine.execFbClear p wires bad s
  | .fbResCal p => Sys2Proof.Machine.execFbResCal p s
  | .resCalDone p phase => Sys2Proof.Machine.execResCalDone p phase s
  | .fbRefReset p => Sys2Proof.Machine.execFbRefReset p s
  | .emuEdge m => Sys2Proof.Machine.execEmuEdge m s
  | .cycleFrameSend => Sys2Proof.Machine.execCycleFrameSend s
  | .cycleFramePass p frac data abt => Sys2Proof.Machine.execCycleFramePass p frac data abt s
  | .dlySend p frac => Sys2Proof.Machine.execDlySend p frac s
  | .dlyReceived p tOut tIn frac => Sys2Proof.Machine.execDlyReceived p tOut tIn frac s
  | .dlyTimeout p => Sys2Proof.Machine.execDlyTimeout p s
  | .unwrap p => Sys2Proof.Machine.execUnwrap p s
  | .crdReceived p c n => Sys2Proof.Machine.execCrdReceived p c n s
  | .ringMsgReceived p data => Sys2Proof.Machine.execRingMsgReceived p data s
  | .ringMsgSend p => Sys2Proof.Machine.execRingMsgSend p s
  | .ringMsgPush => Sys2Proof.Machine.execRingMsgPush s
  | .ringMsgTx v west => Sys2Proof.Machine.execRingMsgTx v west s
  | .formingEntry => Sys2Proof.Machine.execFormingEntry s
  | .formFrameSend => Sys2Proof.Machine.execFormFrameSend s
  | .formFrameReceived p f => Sys2Proof.Machine.execFormFrameReceived p f s
  | .cmElection => Sys2Proof.Machine.execCmElection s
  | .startFrameReceived f => Sys2Proof.Machine.execStartFrameReceived f s
  | .ringJoin => Sys2Proof.Machine.execRingJoin s
  | .cycLost => Sys2Proof.Machine.execCycLost s
  | .ringInjArm p v => Sys2Proof.Machine.execRingInjArm p v s
  | .xlkLaneUp peer => Sys2Proof.Machine.execXlkLaneUp peer s
  | .initialCopyDone kib copy sums => Sys2Proof.Machine.execInitialCopyDone kib copy sums s
  | .mirrorFrameSend nb => Sys2Proof.Machine.execMirrorFrameSend nb s
  | .xlkMirrorFrame m => Sys2Proof.Machine.execXlkMirrorFrame m s
  | .xlkWriteRecord a bytes => Sys2Proof.Machine.execXlkWriteRecord a bytes s
  | .xlkCommitRecord pg seq due instant => Sys2Proof.Machine.execXlkCommitRecord pg seq due instant s
  | .xlkReactRecord n cls => Sys2Proof.Machine.execXlkReactRecord n cls s
  | .xlkTokenRecord e t => Sys2Proof.Machine.execXlkTokenRecord e t s
  | .xlkAckRecord pg seq synced fit => Sys2Proof.Machine.execXlkAckRecord pg seq synced fit s
  | .xlkAckSend => Sys2Proof.Machine.execXlkAckSend s
  | .mirrorCommitDeadline => Sys2Proof.Machine.execMirrorCommitDeadline s
  | .xlkHandover => Sys2Proof.Machine.execXlkHandover s
  | .tokenSwitch => Sys2Proof.Machine.execTokenSwitch s
  | .xlkTake => Sys2Proof.Machine.execXlkTake s
  | .xlkResync => Sys2Proof.Machine.execXlkResync s
  | .crosslinkLoss => Sys2Proof.Machine.execCrosslinkLoss s
  | .safetyCycle inA inB ex rdA rdB => Sys2Proof.Machine.execSafetyCycle inA inB ex rdA rdB s
  | .containerLapse o => Sys2Proof.Machine.execContainerLapse o s
  | .testPulse g ch low => Sys2Proof.Machine.execTestPulse g ch low s
  | .stoAKeepaliveTimeout => Sys2Proof.Machine.execStoAKeepaliveTimeout s
  | .lockstepMismatch => Sys2Proof.Machine.execLockstepMismatch s
  | .safActivate v stored => Sys2Proof.Machine.execSafActivate v stored s
  | .safReset v => Sys2Proof.Machine.execSafReset v s
  | .safDeactivate v => Sys2Proof.Machine.execSafDeactivate v s
  | .safetyResetInput k us => Sys2Proof.Machine.execSafetyResetInput k us s
  | .inChg k lvl => Sys2Proof.Machine.execInChg k lvl s
  | .discrepancy p a b => Sys2Proof.Machine.execDiscrepancy p a b s
  | .outputOverload k => Sys2Proof.Machine.execOutputOverload k s
  | .edmFault k => Sys2Proof.Machine.execEdmFault k s
  | .outClr v => Sys2Proof.Machine.execOutClr v s
  | .fieldSupply mv => Sys2Proof.Machine.execFieldSupply mv s
  | .acqCmdArm u => Sys2Proof.Machine.execAcqCmdArm u s
  | .acqArmEffect => Sys2Proof.Machine.execAcqArmEffect s
  | .acqCmdFire u => Sys2Proof.Machine.execAcqCmdFire u s
  | .acqCmdStop u => Sys2Proof.Machine.execAcqCmdStop u s
  | .acqCmdReset u => Sys2Proof.Machine.execAcqCmdReset u s
  | .acqSample u j full => Sys2Proof.Machine.execAcqSample u j full s
  | .rdOfsWrite u v => Sys2Proof.Machine.execRdOfsWrite u v s
  | .acqRingAct => Sys2Proof.Machine.execAcqRingAct s
  | .recCmdSheaf sheaf => Sys2Proof.Machine.execRecCmdSheaf sheaf s
  | .recCmdFlush => Sys2Proof.Machine.execRecCmdFlush s
  | .recCmdClear key => Sys2Proof.Machine.execRecCmdClear key s
  | .sheafTaken => Sys2Proof.Machine.execSheafTaken s
  | .flushDone => Sys2Proof.Machine.execFlushDone s
  | .pfail => Sys2Proof.Machine.execPfail s
  | .pfailRecovery => Sys2Proof.Machine.execPfailRecovery s
  | .clearDone => Sys2Proof.Machine.execClearDone s
  | .opSecTick => Sys2Proof.Machine.execOpSecTick s
  | .routerAction => Sys2Proof.Machine.execRouterAction s
  | .evrEnWrite v => Sys2Proof.Machine.execEvrEnWrite v s
  | .routeWrite r e v => Sys2Proof.Machine.execRouteWrite r e v s
  | .siloPushStage k0 w vs => Sys2Proof.Machine.execSiloPushStage k0 w vs s
  | .siloPush k0 w vs => Sys2Proof.Machine.execSiloPush k0 w vs s
  | .siloPop r k0 n => Sys2Proof.Machine.execSiloPop r k0 n s
  | .siloPeek r k0 w n => Sys2Proof.Machine.execSiloPeek r k0 w n s
  | .popStallServed k0 => Sys2Proof.Machine.execPopStallServed k0 s
  | .popStallTimeout k0 => Sys2Proof.Machine.execPopStallTimeout k0 s
  | .siloMark k0 => Sys2Proof.Machine.execSiloMark k0 s
  | .siloRewind k0 => Sys2Proof.Machine.execSiloRewind k0 s
  | .siloFlush k0 => Sys2Proof.Machine.execSiloFlush k0 s
  | .siloRelease k0 n => Sys2Proof.Machine.execSiloRelease k0 n s
  | .sensorConversion k v1 v2 bad => Sys2Proof.Machine.execSensorConversion k v1 v2 bad s
  | .thermalRestart => Sys2Proof.Machine.execThermalRestart s
  | .thmClrMax => Sys2Proof.Machine.execThmClrMax s
  | .ageMeasurement m => Sys2Proof.Machine.execAgeMeasurement m s
  | .ledgerSummary => Sys2Proof.Machine.execLedgerSummary s
  | .dailyRecord => Sys2Proof.Machine.execDailyRecord s
  | .mramScrub n => Sys2Proof.Machine.execMramScrub n s
  | .ageSnapshot => Sys2Proof.Machine.execAgeSnapshot s
  | .ageRefLdc c => Sys2Proof.Machine.execAgeRefLdc c s
  | .perst => Sys2Proof.Machine.execPerst s
  | .flr => Sys2Proof.Machine.execFlr s
  | .pcieLinkDown => Sys2Proof.Machine.execPcieLinkDown s
  | .dmaStart c => Sys2Proof.Machine.execDmaStart c s
  | .dmaAbort c n data => Sys2Proof.Machine.execDmaAbort c n data s
  | .dmaDescriptorDone c data e n => Sys2Proof.Machine.execDmaDescriptorDone c data e n s
  | .ethRxFrame n data crcOk => Sys2Proof.Machine.execEthRxFrame n data crcOk s
  | .ethTxDone n => Sys2Proof.Machine.execEthTxDone n s
  | .ethTailWrite n v => Sys2Proof.Machine.execEthTailWrite n v s
  | .ptpCommit n v => Sys2Proof.Machine.execPtpCommit n v s
  | .mdioGo v => Sys2Proof.Machine.execMdioGo v s
  | .mdioDone data => Sys2Proof.Machine.execMdioDone data s
  | .flRead len => Sys2Proof.Machine.execFlRead len s
  | .flProgram len => Sys2Proof.Machine.execFlProgram len s
  | .flErase len => Sys2Proof.Machine.execFlErase len s
  | .flDone bad => Sys2Proof.Machine.execFlDone bad s
  | .mwWrite => Sys2Proof.Machine.execMwWrite s
  | .mwDone => Sys2Proof.Machine.execMwDone s
  | .bypass => Sys2Proof.Machine.execBypass s
  | .idcode => Sys2Proof.Machine.execIdcode s
  | .samplePreload => Sys2Proof.Machine.execSamplePreload s
  | .extest => Sys2Proof.Machine.execExtest s
  | .highz => Sys2Proof.Machine.execHighz s
  | .jtagClamp => Sys2Proof.Machine.execJtagClamp s
  | .dbgAccess => Sys2Proof.Machine.execDbgAccess s
  | .debugAuth mask sigOk => Sys2Proof.Machine.execDebugAuth mask sigOk s
  | .debugHalt target freeze => Sys2Proof.Machine.execDebugHalt target freeze s
  | .debugSessionEnd => Sys2Proof.Machine.execDebugSessionEnd s
  | .canFrameReceived c f sof res => Sys2Proof.Machine.execCanFrameReceived c f sof res s
  | .canTxComplete c tdcv => Sys2Proof.Machine.execCanTxComplete c tdcv s
  | .canBusError c code data tx dom exc => Sys2Proof.Machine.execCanBusError c code data tx dom exc s
  | .canObjRead c o => Sys2Proof.Machine.execCanObjRead c o s
  | .canObjWrite c o => Sys2Proof.Machine.execCanObjWrite c o s
  | .canObjSend c o => Sys2Proof.Machine.execCanObjSend c o s
  | .canObjWriteSend c o => Sys2Proof.Machine.execCanObjWriteSend c o s
  | .canObjAbort c o => Sys2Proof.Machine.execCanObjAbort c o s
  | .canObjConfig c o ctl v => Sys2Proof.Machine.execCanObjConfig c o ctl v s
  | .canRecover c => Sys2Proof.Machine.execCanRecover c s
  | .canRecovered c => Sys2Proof.Machine.execCanRecovered c s
  | .canModeWrite c v => Sys2Proof.Machine.execCanModeWrite c v s
  | .canModeEffect c => Sys2Proof.Machine.execCanModeEffect c s
  | .canInjArm c v => Sys2Proof.Machine.execCanInjArm c v s
  | .powerUp => Sys2Proof.Machine.execPowerUp s
  | .coreSupplyLoss => Sys2Proof.Machine.execCoreSupplyLoss s
  | .resetN => Sys2Proof.Machine.execResetN s
  | .rstCmdWarm key => Sys2Proof.Machine.execRstCmdWarm key s
  | .rstCmdCold key => Sys2Proof.Machine.execRstCmdCold key s
  | .wdtExpiry => Sys2Proof.Machine.execWdtExpiry s
  | .wdtKick v => Sys2Proof.Machine.execWdtKick v s
  | .bootComplete b => Sys2Proof.Machine.execBootComplete b s
  | .bootLoadSram v f => Sys2Proof.Machine.execBootLoadSram v f s
  | .lcTransition v sig cut => Sys2Proof.Machine.execLcTransition v sig cut s
  | .lcAdvanceVer v => Sys2Proof.Machine.execLcAdvanceVer v s
  | .coreCtlWrite v => Sys2Proof.Machine.execCoreCtlWrite v s
  | .pllLock k => Sys2Proof.Machine.execPllLock k s
  | .analogAmplitudeLoss p mv => Sys2Proof.Machine.execAnalogAmplitudeLoss p mv s
  | .resolverTrackingError p => Sys2Proof.Machine.execResolverTrackingError p s
  | .gateSupplyRecovery c mv => Sys2Proof.Machine.execGateSupplyRecovery c mv s
  | .tripInputRelease k => Sys2Proof.Machine.execTripInputRelease k s
  | .powerDown => Sys2Proof.Machine.execPowerDown s
  | .pcieLinkUp speed width => Sys2Proof.Machine.execPcieLinkUp speed width s
  | .ethLinkChg n link speed an => Sys2Proof.Machine.execEthLinkChg n link speed an s
  | .protocolExceptionEnd c => Sys2Proof.Machine.execProtocolExceptionEnd c s
  | .refOut e => Sys2Proof.Machine.execRefOut e s

end Sys2Proof.Machine
end

