-- ==== Sys2Proof/Machine/Bundle.lean ====
section
/-! DEFINITION. The bundles of a loop program: the format of a bundle, the opcodes of its slots, and the sequencer that issues the bundles of a user program's run (R213 to R216).
Every slot runs the meaning that the command of the same operation has. -/

namespace Sys2Proof.Machine

/-- Bits `hi` down to `lo` of a bundle. -/
def bundleFld (w hi lo : Nat) : Nat := w / 2 ^ lo % 2 ^ (hi + 1 - lo)

/-- A register number, an address register and a bundle address from a field. -/
def reg64 (n : Nat) : Fin 64 := Fin.ofNat 64 n
def reg8 (n : Nat) : Fin 8 := Fin.ofNat 8 n
def pc12 (n : Nat) : Fin 4096 := Fin.ofNat 4096 n

/-- The operation of a slot: the meaning of the command of that operation. -/
abbrev LpuSlotOp := State → Host.Outcome State Fault Refusal

/-- The compute operation of a normal bundle of LPU `i`, last in its bundle; none for an opcode outside R215's table. -/
def lpuCompute (i : Fin 9) (w : Nat) : Option LpuSlotOp :=
  let cd := reg64 (bundleFld w 54 49)
  let ca := reg64 (bundleFld w 48 43)
  let cb := reg64 (bundleFld w 42 37)
  let acc := bundleFld w 36 36 == 1
  let sh := BitVec.ofNat 5 (bundleFld w 35 31)
  match bundleFld w 61 55 with
  | 0x00 => some (execLpuNop i true)
  | 0x01 => some (execLpuMov i cd ca true)
  | 0x02 => some (execLpuMva i cd acc sh true)
  | 0x03 => some (execLpuMvap i cd sh true)
  | 0x04 => some (execLpuLdacc i ca acc true)
  | 0x05 => some (execLpuClra i acc true)
  | 0x08 => some (execLpuAdd i cd ca cb true)
  | 0x09 => some (execLpuSub i cd ca cb true)
  | 0x0A => some (execLpuNeg i cd ca true)
  | 0x0B => some (execLpuAbs i cd ca true)
  | 0x0C => some (execLpuMin i cd ca cb true)
  | 0x0D => some (execLpuMax i cd ca cb true)
  | 0x0E => some (execLpuClamp i cd ca cb true)
  | 0x10 => some (execLpuMul i ca cb acc true)
  | 0x11 => some (execLpuMac i ca cb acc true)
  | 0x12 => some (execLpuMsu i ca cb acc true)
  | 0x13 => some (execLpuDot i ca cb acc true)
  | 0x14 => some (execLpuDota i ca cb acc true)
  | 0x15 => some (execLpuMulp i ca acc true)
  | 0x16 => some (execLpuMacp i ca acc true)
  | 0x18 => some (execLpuCmul i ca cb true)
  | 0x19 => some (execLpuCmac i ca cb true)
  | 0x1A => some (execLpuCmulc i ca cb true)
  | 0x1B => some (execLpuCmacc i ca cb true)
  | 0x1C => some (execLpuCmulp i ca true)
  | 0x20 => some (execLpuAdda i acc true)
  | 0x21 => some (execLpuSha i acc sh true)
  | 0x28 => some (execLpuAsh i cd ca cb true)
  | 0x29 => some (execLpuLsh i cd ca cb true)
  | 0x2A => some (execLpuAnd i cd ca cb true)
  | 0x2B => some (execLpuOr i cd ca cb true)
  | 0x2C => some (execLpuXor i cd ca cb true)
  | 0x30 => some (execLpuCmp i ca cb true)
  | 0x31 => some (execLpuSel i cd ca cb true)
  | 0x38 => some (execLpuSincos i cd ca true)
  | 0x39 => some (execLpuAtan2 i cd ca cb true)
  | 0x3A => some (execLpuRecip i cd ca true)
  | 0x3B => some (execLpuRsqrt i cd ca true)
  | 0x3C => some (execLpuNorm i cd ca true)
  | 0x40 => some (execLpuAdd64 i cd ca cb true)
  | 0x41 => some (execLpuSub64 i cd ca cb true)
  | 0x42 => some (execLpuMulfrac i cd ca cb true)
  | _ => none

/-- The control operation of a control bundle of LPU `i`; none for a code outside R216's table. CX is [48:31], IMM [30:7]. -/
def lpuControl (i : Fin 9) (w : Nat) : Option LpuSlotOp :=
  let cr := reg64 (bundleFld w 54 49)
  let cx := bundleFld w 48 31
  let imm := bundleFld w 30 7
  let ea := pc12 imm
  let sa := pc12 cx
  let rot := bundleFld cx 12 12 == 1
  let rstep := bundleFld cx 13 13 == 1
  let sd := reg8 (bundleFld cx 16 14)
  match bundleFld w 61 55 with
  | 0x00 => some (execLpuCnop i)
  | 0x01 => some (execLpuDo i (pc12 (bundleFld imm 23 12)) ea sa rot rstep sd)
  | 0x02 => some (execLpuDor i cr ea sa rot rstep sd)
  | 0x03 => some (execLpuBr i ea)
  | 0x04 => some (execLpuBrn i ea)
  | 0x05 => some (execLpuBrz i ea)
  | 0x06 => some (execLpuCall i ea)
  | 0x07 => some (execLpuRet i)
  | 0x08 => some (execLpuLdi i cr (BitVec.ofNat 24 imm))
  | 0x09 => some (execLpuLdih i cr (BitVec.ofNat 8 imm))
  | 0x0A => some (execLpuSeta i (reg8 cx) (Fin.ofNat 4 (bundleFld cx 4 3)) (BitVec.ofNat 16 imm))
  | 0x0B => some (execLpuSetsr i (BitVec.ofNat 24 imm))
  | 0x0C => some (execLpuBlk i)
  | 0x0D => some (execLpuEnd i)
  | _ => none

/-- The move of a bus with code `op`, address register `k` and data register `d` (R214). -/
def lpuMove (i : Fin 9) (y : Bool) (op k d : Nat) : LpuSlotOp :=
  match op with
  | 0 => .next
  | 1 => execLpuLd i y (reg8 k) (reg64 d) false
  | 2 => execLpuLdp i y (reg8 k) (reg64 d) false
  | 3 => execLpuSt i y (reg8 k) (reg64 d) false
  | 4 => execLpuStp i y (reg8 k) (reg64 d) false
  | 5 => execLpuSta i y (reg8 k) (reg64 d) false
  | 6 => execLpuStap i y (reg8 k) false
  | _ => execLpuMod i (reg8 k) false

/-- The fetch of a bundle with PF set. -/
def lpuFetch (i : Fin 9) (w : Nat) : LpuSlotOp := if bundleFld w 6 6 = 1 then execLpuPFetch i (reg8 (bundleFld w 5 3)) false else .next

/-- The slots of a bundle in their order: the fetch, the X move, the Y move, then the compute or control operation; or the program fault that the bundle itself is:
1 for a format or an opcode outside the tables, 2 for a reserved CSH or a reserved field that is not 0 (R213, R215, R236). -/
def bundleOps (i : Fin 9) (w : Nat) : Nat ⊕ List LpuSlotOp :=
  let csh := signedOf 5 (bundleFld w 35 31)
  match bundleFld w 63 62 with
  | 0 =>
    match lpuCompute i w with
    | none => .inl 1
    | some f =>
      if bundleFld w 2 0 ≠ 0 ∨ ¬(csh = -16 ∨ (-8 ≤ csh ∧ csh ≤ 8)) then .inl 2
      else .inr [lpuFetch i w, lpuMove i false (bundleFld w 30 28) (bundleFld w 27 25) (bundleFld w 24 19),
        lpuMove i true (bundleFld w 18 16) (bundleFld w 15 13) (bundleFld w 12 7), f]
  | 1 =>
    match lpuControl i w with
    | none => .inl 1
    | some f => if bundleFld w 2 0 ≠ 0 then .inl 2 else .inr [lpuFetch i w, f]
  | _ => .inl 1

/-- The slots run one after the other; a program fault, which ends the run, ends the bundle (R221). -/
def State.runSlots (s : State) (i : Nat) : List LpuSlotOp → State
  | [] => s
  | f :: r =>
    match f s with
    | .next t => if (t.lpu i).run.isNone then t else t.runSlots i r
    | _ => s

/-- The function unit of a bundle that has an issue interval (R215). -/
def bundleUnit (w : Nat) : Option Nat :=
  if bundleFld w 63 62 ≠ 0 then none
  else
    match bundleFld w 61 55 with
    | 0x39 => some 0
    | 0x3A => some 1
    | 0x3B => some 2
    | _ => none

/-- LPU `i` issues the bundle at its pc; a bundle for a function unit that accepts no issue yet waits as a whole (log 25). -/
def State.lpuBundle (s : State) (i : Fin 9) : State :=
  let x := s.lpu i
  let w := s.memNat (lpuMem i + 8 * x.pc) 8
  match bundleOps i w with
  | .inl c => s.progFault i c
  | .inr fs =>
    let c1 := match bundleUnit w with
      | none => x.cyc
      | some k => max x.cyc (x.fu.getD k 0)
    (s.setLpu i ({ x with cyc := c1 } : Lpu).landDue).runSlots i fs

/-- The sequencer of LPU `i`: while a run of a user program is in progress and the LPU is not halted, the next bundle issues at its cycle of 1.0 GHz, four ticks each (R17, R233). -/
def State.lpuIssue (s : State) (i : Fin 9) : State :=
  let x := s.lpu i
  match x.run with
  | none => s
  | some (_, _, c0) => if x.halted = false ∧ x.runT + 4 * (x.cyc - c0) ≤ s.dt then s.lpuBundle i else s

end Sys2Proof.Machine
end

