-- ==== Sys2Proof/Machine/Tick.lean ====
section
/-! DEFINITION. The passing of device time when no command waits: what happens by the clock alone, with no row of its own. -/

namespace Sys2Proof.Machine

/-- A posted write takes effect no later than 220 ns, 880 ticks, after its issue (R8). -/
def State.postedDue (s : State) : State := s.each (s.posted.filter fun w => w.issued + 880 ≤ s.dt) fun w st => st.postedEffect w.req

/-- One tick of device time (R14): a gate whose dead time is over turns on (R289), a frame that the injector delays goes on (R270, R385), a ring that has formed starts at T_0 (R374), an as-computed result that is ready goes out (R197), an LPU that runs a user program issues its next bundle when it is due (R213), a posted write that is due takes effect (R8). -/
def tick (s : State) : State :=
  let s1 : State := ((({ s with dt := s.dt + 1 } : State).ldcTick).linkTick).ringTick.startDue
  ((s1.each (s1.servos.map (·.1)) fun n st => st.outputDue n).each (List.finRange 9) fun i st => st.lpuIssue i).postedDue

end Sys2Proof.Machine
end

