-- ==== Sys2Proof/Safety.lean ====
section
/-! DEFINITION. What counts as a sound state of the device, and the shapes of a next state, in the terms the statements use. -/

namespace Sys2Proof.Machine

/-- The memory is in its canonical form. -/
abbrev State.memOk (s : State) : Prop := Memory.wf s.mem = true

/-- A register that the event router writes on its own when any page raises an event: the pending messages, EVT_PEND of EVR, CNT_EVR (R481, R483). -/
def routerOwn (a : Nat) : Bool := (decide (0x18C00 ≤ a) && decide (a < 0x18C10)) || decide (a = 0x5010) || decide (a = EVR_CNT_EVR)

/-- Beside the router's own, only registers of the page with number `p` differ between `s` and `t`. -/
def State.pageOnly (s t : State) (p : Nat) : Prop := ∀ a, a / 0x1000 ≠ p → routerOwn a = false → t.rd a = s.rd a

/-- `t` is `s` with LPU `i` as `y` after its operation, and, where the operation is the last of its bundle, with the bundle ended after one cycle (R210, R212). -/
def State.lpuGives (s t : State) (i : Nat) (last : Bool) (y : Lpu) : Prop := t = s.setLpu i (if last then y.bundleEnd 1 none else y)

/-- A result of the compute slot for register `k` that becomes visible `lat` bundles later (R212). -/
def Lpu.res (x : Lpu) (lat k : Nat) (v : Int) : PendW := ⟨x.cyc + lat, x.cyc, 3, .d (x.phys k), v⟩

/-- A result of the compute slot for an accumulator. -/
def Lpu.resA (x : Lpu) (lat : Nat) (b : Bool) (v : Int) : PendW := ⟨x.cyc + lat, x.cyc, 3, .acc b, v⟩

/-- The LPU with results under way, V set where a result has saturated (R212, R215). -/
def Lpu.with (x : Lpu) (l : List PendW) (v : Bool) : Lpu := { x with pend := x.pend ++ l, v := x.v || v }

/-- `v` does not fit Q1.31. -/
def over31 (v : Int) : Bool := decide (satTo 32 v ≠ v)

/-- `v` does not fit an accumulator (R217). -/
def over80 (v : Int) : Bool := decide (satTo 80 v ≠ v)

/-- The device with its counter of free values advanced by `k`: the operation has used `k` values that the spec leaves open. -/
def State.drawn (s : State) (k : Nat) : State := { s with free := s.free + k }

/-- The block-mode note of a scaled move with result `r` (R220). -/
def Lpu.grown (x : Lpu) (r : Int) : Lpu := { x with grow := x.grow || (x.blk && decide (2 ^ 30 ≤ (r.natAbs : Int))) }

/-- The result of a scaled move of `v`, in units of 2^-(31 + `drop`), by `sh` (R218). -/
def moved (v sh : Int) (drop : Nat) : Int := satTo 32 (roundShift v sh drop)

/-- The outcome `o` is a loss of sync of channel `c` for the given cause: the gates are off and the loss is counted; a re-catch that is left is taken and waits, else the channel is in FAULT and its torque goes (R327, R328). -/
def State.syncLost (s : State) (c cause : Nat) (o : Host.Outcome State Fault Refusal) : Prop :=
  (s.fld (LDC_COM_STAT c) 10 9 < s.fld (LDC_COM_CTL c) 13 12 → ∃ t : State, o = .next t ∧ t.comState c = 5 ∧ t.fld (LDC_COM_STAT c) 18 16 = cause ∧ t.fld (LDC_COM_STAT c) 10 9 = s.fld (LDC_COM_STAT c) 10 9 + 1 ∧
    t.fld (LDC_COM_CNT c) 7 0 = min 255 (s.fld (LDC_COM_CNT c) 7 0 + 1) ∧ (t.ldc c).gates % 64 = 0 ∧ (t.ldc c).recatchAt = some (s.dt + msTicks (s.fld (LDC_RECATCH_WAIT c) 15 0))) ∧
  (s.fld (LDC_COM_CTL c) 13 12 ≤ s.fld (LDC_COM_STAT c) 10 9 → ∃ u : State, u.comState c = 6 ∧ u.fld (LDC_COM_STAT c) 18 16 = cause ∧ u.fld (LDC_COM_CNT c) 7 0 = min 255 (s.fld (LDC_COM_CNT c) 7 0 + 1) ∧
    (u.ldc c).gates % 64 = 0 ∧ o = .next (u.ldcFault c .torqueOff none))

/-- The outcome `o` is the loss of the position of port `p` for the given cause: VALID has cleared in `u`, with the cause and POS_INVALID, and the units that used the position take their part (R348). -/
def State.posGone (u : State) (p c : Nat) (o : Host.Outcome State Fault Refusal) : Prop :=
  u.portValid p = false ∧ u.fld (FBP_FB_STAT p) 18 16 = c ∧ u.bit (evtPendAt (fbpPage p)) 0 = true ∧ (u.incremental p = true → (u.port p).seekRef = true) ∧ o = .next (u.afterLoss p).emusCheck

end Sys2Proof.Machine
end

