-- ==== Sys2Proof/Certificates/Slice0/Obligations.lean ====
section
/-! DEFINITION. The statements about the model: what the commands of every family do, what they leave alone, and what every step keeps. -/

open Sys2Proof Sys2Proof.Machine

/-- For every command and state, a step of the state with the command at the front of its queue is exec of the command on the state with the rest of the queue. With an empty queue, no gate waiting for its dead time, no frame held by an injector, no ring about to start, no slot with a loop, no run of a user program and no posted write, a step adds one tick to device time and changes nothing else (that an idle step is a tick is the model’s choice, log 1). -/
def Obligations.StepRunsFrontCommand : Prop :=
  (∀ (c : Instr) (rest : List Instr) (s : State), step { s with pending := c :: rest } = exec c { s with pending := rest }) ∧
    (∀ s : State, s.pending = [] → (∀ c : Nat, c < 6 → (s.ldc c).due = []) → (∀ k : Nat, k < 32 → (s.link k).injHeld = []) →
      (∀ p : Nat, p < 3 → (s.rport p).injHeld = []) → s.ring.startAt = none → s.servos = [] → (∀ i : Fin 9, (s.lpu i).run = none) → s.posted = [] →
      ∃ t, step s = .next t ∧ t = { s with dt := s.dt + 1 })

/-- For every command of the table with every operand, and every state, exec answers a next state: no form stops the machine, as the spec gives each of them an effect and states no condition under which one does not end. -/
def Obligations.EveryCommandCompletes : Prop :=
  ∀ (c : Instr) (s : State), ∃ t, exec c s = .next t

/-- At State.reset device time is zero (R14), every axis is OFF (R23), every register and every value in force is at its cold reset value, every byte of memory reads zero, no silo holds an entry and the queue is empty. -/
def Obligations.ResetLeaves : Prop :=
  State.reset.dt = 0 ∧ (∀ n : Nat, (State.reset.axis n).st = .off) ∧ (∀ a : Nat, State.reset.rd a = resetOf a) ∧ (∀ a : Nat, State.reset.act a = resetOf a) ∧
    (∀ a : Nat, State.reset.byteAt a = 0) ∧ (∀ i : Nat, (State.reset.silo i).avail = 0) ∧ State.reset.pending = []

/-- The invariant of StepKeepsMemoryCanonical holds at State.reset. -/
def Obligations.ResetMemoryCanonical : Prop :=
  State.reset.memOk

/-- From every state whose memory is in canonical form (addresses strictly rising, no byte listed that reads as an unlisted one), a step that answers a next state answers one whose memory is in canonical form, whatever command is in front. -/
def Obligations.StepKeepsMemoryCanonical : Prop :=
  ∀ s t : State, s.memOk → step s = .next t → t.memOk

/-- After the boot, a word write by any requester to DESC_ADDR of a DMA channel stores the bits that are not reserved (R3, R5). A word write to FAULT_CFG of a GDV page on the field die changes no register and waits behind the earlier writes; FIELD_DIE_WRITE_EFFECT of that requester takes its oldest write off the queue and stores it (R8, R9). Where the rules leave a point open, the clauses follow the choice of the model (logs 47, 48). -/
def Obligations.RegisterAndFieldDieWrites : Prop :=
  ∀ (r : Requester) (v : W32) (s : State), s.core = .running → s.fld GLB_BOOT_STAT 3 0 = 7 →
    (∀ c : Fin 8, s.bit 0x19004 0 = true → ∃ t, exec (.registerWrite r (BitVec.ofNat 33 (DMA_DESC_ADDR c)) (leBytes 4 v.toNat)) s = .next t ∧ t.rd (DMA_DESC_ADDR c) = v &&& 0x0FFFFFFF) ∧
    (∀ c : Fin 6, ∃ t, exec (.registerWrite r (BitVec.ofNat 33 (GDV_FAULT_CFG c)) (leBytes 4 v.toNat)) s = .next t ∧ t.regs = s.regs ∧
      t.posted = s.posted ++ [⟨reqNum r, GDV_FAULT_CFG c, v, s.dt, none⟩]) ∧
    (∀ (c : Fin 6) (w : Posted) (rest : List Posted), s.posted = w :: rest → w = ⟨reqNum r, GDV_FAULT_CFG c, v, w.issued, none⟩ → s.lost = false → s.bit (gdvPage c + 4) 0 = true →
      ∃ t, exec (.fieldDieWriteEffect r 0) s = .next t ∧ t.posted = rest ∧ t.rd (GDV_FAULT_CFG c) = (s.rd (GDV_FAULT_CFG c) &&& ~~~0x77) ||| (v &&& 0x77))

/-- After the boot, on the DMA page: LOCK with the key sets LOCKED and UNLOCK clears it (R593); a write of 0 clears ERR_CAP (R596); a write to EVT_PEND clears the bits written as 1 (R482); EVT_FORCE makes an event of the page pending (R595). A write to EXT_FLT_LO clears the bits written as 1 (R479). SRST of an empty silo that no consumer holds returns ERR_CAP and SIL_CNT of its page to 0 (R594). Where the rules leave a point open, the clauses follow the choice of the model (logs 47, 48). -/
def Obligations.PageCommands : Prop :=
  ∀ (r : Requester) (v : W32) (s : State), s.core = .running → s.fld GLB_BOOT_STAT 3 0 = 7 →
    (∃ t, exec (.lock r 0x19 0xC3A5) s = .next t ∧ t.bit 0x19004 2 = true) ∧
    (∃ t, exec (.unlock r 0x19 0xC3A5) s = .next t ∧ t.bit 0x19004 2 = false) ∧
    (∃ t, exec (.errCapClear r 0x19 0) s = .next t ∧ t.rd 0x1901C = 0) ∧
    (∃ t, exec (.evtPendClear r 0x19 v) s = .next t ∧ t.rd 0x19010 = s.rd 0x19010 &&& ~~~v) ∧
    (∀ b : Fin 24, bitOf v b = true → ∃ t, exec (.evtForceWrite r 0x19 v) s = .next t ∧ t.bit 0x19010 b = true) ∧
    (s.bit 0x5004 0 = true → ∃ t, exec (.extFltClear r false v) s = .next t ∧ t.rd EVR_EXT_FLT_LO = s.rd EVR_EXT_FLT_LO &&& ~~~v) ∧
    (s.standbyAddr 0x40004 = false → (s.silo 0).used = 0 → s.siloAttached 0 = false → ∃ t, exec (.softReset r 0x40) s = .next t ∧ t.rd 0x4001C = 0 ∧ t.rd (SIL_SIL_CNT 0) = 0)

/-- A write of LO is staged for its requester and changes no register; the write of HI by the same requester stores both halves. A read of LO returns the present value and latches HI for that requester; one read of both words returns both halves (R601). A read of ANGLE_LO returns the line angle and latches the other nine registers of the snapshot (R31). Where the rules leave a point open, the clauses follow the choice of the model (logs 47, 48). -/
def Obligations.PairsAreWholePerRequester : Prop :=
  ∀ (r : Requester) (v w : W32) (s : State), s.core = .running → s.fld GLB_BOOT_STAT 3 0 = 7 →
    (∃ t, exec (.pairLoWrite r (BitVec.ofNat 26 APC_ENTRY_LO) v) s = .next t ∧ (s.bit 0x3004 0 = true → tabGet 0 (reqKey (reqNum r) APC_ENTRY_LO) t.staged = v) ∧ t.regs = s.regs) ∧
    (s.bit 0x3004 0 = true → tabGet 0 (reqKey (reqNum r) APC_ENTRY_LO) s.staged = v → ∃ t, exec (.pairHiWrite r (BitVec.ofNat 26 APC_ENTRY_HI) w) s = .next t ∧ t.rd APC_ENTRY_LO = v ∧ t.rd APC_ENTRY_HI = w &&& 1) ∧
    (tabHas (reqKey (reqNum r) APC_ENTRY_LO) s.latched = false → ∃ t, exec (.pairLoRead r (BitVec.ofNat 33 APC_ENTRY_LO, 0)) s = .next t ∧ tabGet [] (reqNum r) t.rdata = [s.peek APC_ENTRY_LO] ∧
      tabGet 0 (reqKey (reqNum r) APC_ENTRY_HI) t.latched = s.peek APC_ENTRY_HI ∧ t.regs = s.regs) ∧
    (tabHas (reqKey (reqNum r) APC_ENTRY_LO) s.latched = false → ∃ t, exec (.pairLoRead r (BitVec.ofNat 33 APC_ENTRY_LO, 1)) s = .next t ∧
      tabGet [] (reqNum r) t.rdata = [s.peek APC_ENTRY_LO, s.peek APC_ENTRY_HI] ∧ t.regs = s.regs) ∧
    (tabHas (reqKey (reqNum r) LTB_ANGLE_LO) s.latched = false → ∃ t, exec (.ltbSnapshot r) s = .next t ∧ tabGet [] (reqNum r) t.rdata = [s.peek LTB_ANGLE_LO] ∧
      (∀ k : Fin 9, tabGet 0 (reqKey (reqNum r) (LTB_ANGLE_LO + 4 + 4 * k)) t.latched = s.peek (LTB_ANGLE_LO + 4 + 4 * k)) ∧ t.regs = s.regs)

/-- Bridge loss, reference loss and the loss of PLL 0, 1 or 2 leave the pages of the field die unclocked. The loss of a PLL that clocks only some blocks leaves their pages unclocked, and its lock clocks them again while the dies are joined. REF_OUT stores the measured error of the reference. Where the rules leave a point open, the clauses follow the choice of the model (logs 44, 45). -/
def Obligations.DieLossAndPlls : Prop :=
  ∀ s : State,
    (∃ t, exec .bridgeLoss s = .next t ∧ ∀ p, p ∈ fieldPages → t.bit (p + 4) 0 = false) ∧
    (∃ t, exec .referenceLoss s = .next t ∧ ∀ p, p ∈ fieldPages → t.bit (p + 4) 0 = false) ∧
    (∀ k : Fin 8, s.bit CLK_PLL_STAT k = true → ∃ t, exec (.pllUnlock k) s = .next t ∧ ∀ p, p ∈ (if k.val < 3 then fieldPages else pllPages k) → t.bit (p + 4) 0 = false) ∧
    (∀ k : Fin 8, s.lost = false → ∃ t, exec (.pllLock k) s = .next t ∧ t.bit CLK_PLL_STAT k = true ∧ ∀ p, p ∈ pllPages k → t.bit (p + 4) 0 = true) ∧
    (∀ e : BitVec 16, ∃ t, exec (.refOut e) s = .next t ∧ t.fld CLK_REF_STAT 31 16 = e.toNat)

/-- RESET_N, RST_CMD COLD with the key and a loss of the core supply hold the core die in a cold reset with their cause in RST_CAUSE and device time 0; a loss of every supply leaves it unpowered; POWER_UP of a held or unpowered core die starts it with device time 0 (R14, R563, R564, R579). Where the rules leave a point open, the clauses follow the choice of the model (logs 44, 45). -/
def Obligations.ColdResetsAndPower : Prop :=
  ∀ s : State,
    (s.core = .running →
      (∃ t, exec .resetN s = .next t ∧ t.core = .held ∧ t.dt = 0 ∧ t.rd GLB_RST_CAUSE = 1) ∧
      (∃ t, exec (.rstCmdCold 0xC3A5) s = .next t ∧ t.core = .held ∧ t.dt = 0 ∧ t.rd GLB_RST_CAUSE = 2) ∧
      (∃ t, exec .coreSupplyLoss s = .next t ∧ t.core = .held ∧ t.dt = 0 ∧ t.rd GLB_RST_CAUSE = 3)) ∧
    (∃ t, exec .powerDown s = .next t ∧ t.core = .unpowered ∧ t.dt = 0) ∧
    (s.core = .held ∨ s.core = .unpowered → ∃ t, exec .powerUp s = .next t ∧ t.core = .running ∧ t.dt = 0)

/-- After RST_CMD WARM with the key, and after the watchdog expires with ACT set, every axis is OFF, no pending set is left and the core die boots again. An expiry without ACT raises WDT. A kick with the key restarts the timeout (R566, R579). Where the rules leave a point open, the clauses follow the choice of the model (logs 44, 45). -/
def Obligations.WarmResetsAndWatchdog : Prop :=
  ∀ s : State, s.core = .running →
    (∃ t, exec (.rstCmdWarm 0xC3A5) s = .next t ∧ (∀ n : Nat, (t.axis n).st = .off) ∧ t.commits = [] ∧ t.fld GLB_BOOT_STAT 3 0 = 1) ∧
    (s.bit GLB_WDT_CTL 0 = true → s.wdtT + max 1 (s.fld GLB_WDT_CTL 31 8) * 4000000 ≤ s.dt →
      ∃ t, exec .wdtExpiry s = .next t ∧ (if s.bit GLB_WDT_CTL 1 then (∀ n : Nat, (t.axis n).st = .off) ∧ t.commits = [] else t.bit (evtPendAt glbPage) 2 = true)) ∧
    (∀ v : W32, fldOf v 31 16 = cmdKey → ∃ t, exec (.wdtKick v) s = .next t ∧ t.wdtT = s.dt)

/-- A boot from an accepted recovery image with successful training ends in stage READY when its sections load, else in FAILED; an unreadable flash ends in FAILED. LOAD_SRAM sets RECOVERY and leaves stage 4 for a good image, FAILED for another (R573, R574). An accepted transition leaves LC_STATE at its target, LC_RESULT 1 and the core die held (R577); ADVANCE_VER raises MIN_VER to the version of the image in PRODUCE (R578); CORE_CTL runs exactly the cores written (R588). Where the rules leave a point open, the clauses follow the choice of the model (logs 44, 45). -/
def Obligations.BootAndLifeCycle : Prop :=
  ∀ s : State,
    (∀ b : BootRun, s.core = .running → 1 ≤ s.fld GLB_BOOT_STAT 3 0 → s.fld GLB_BOOT_STAT 3 0 < 7 →
      (s.bit GLB_BOOT_STAT 13 = true → b.trained = true → ∃ t, exec (.bootComplete b) s = .next t ∧ t.fld GLB_BOOT_STAT 3 0 = if (s.loadSections .sram b.primary).1 = 0 then 7 else 8) ∧
      (s.bit GLB_BOOT_STAT 13 = false → b.flashOk = false → ∃ t, exec (.bootComplete b) s = .next t ∧ t.fld GLB_BOOT_STAT 3 0 = 8 ∧ t.fld GLB_BOOT_STAT 11 4 = 8)) ∧
    (∀ (v : W32) (f : BootFind), s.core = .running → s.fld GLB_BOOT_STAT 3 0 = 8 → fldOf v 31 16 = cmdKey → bitOf v 0 = true →
      ∃ t, exec (.bootLoadSram v f) s = .next t ∧ t.bit GLB_BOOT_STAT 13 = true ∧ t.fld GLB_BOOT_STAT 3 0 = if (s.wrBit GLB_BOOT_STAT 13 true).headerErr .sram f (8 * 2 ^ 20) = 0 then 4 else 8) ∧
    (∀ (v : W32) (sig : Bool), s.lcCode (fldOf v 31 16) sig = 0 → ∃ t, exec (.lcTransition v sig 0) s = .next t ∧
      t.rd LCS_LC_STATE = BitVec.ofNat 32 (natOf s.token 4 1) ∧ t.rd LCS_LC_RESULT = 1 ∧ t.core = .held) ∧
    (∀ v : W32, fldOf v 31 16 = cmdKey → s.inProduce = true → ∃ t, exec (.lcAdvanceVer v) s = .next t ∧ t.rd LCS_MIN_VER = BitVec.ofNat 32 (max (s.rd LCS_MIN_VER).toNat s.version)) ∧
    (∀ v : W32, ∃ t, exec (.coreCtlWrite v) s = .next t ∧ ∀ c : Nat, 1 ≤ c → c ≤ 3 → t.bit APC_CORE_CTL c = bitOf v c)

/-- A COMMIT to a page of the field die is posted. On an enabled core-die page with shadowed registers whose set takes effect later (no page that applies at once, no AXL page) and of which nothing is refused, COMMIT makes the shadow the page’s only pending set under the next sequence number, due at the next apply point; COMMIT_AT makes it due at its device time or at the crossings of its line angle and keeps the value written; CANCEL leaves no pending set and changes no value in force. Where the rules leave a point open, the clauses follow the choice of the model (logs 48, 52). -/
def Obligations.CommitAcceptsTheShadow : Prop :=
  (∀ (r : Requester) (pg : BitVec 12) (v : W32) (p : PageRef) (s : State), pageOf (pageAddr pg) = some p → p.field = true → bitOf v 0 = true →
      exec (.commitWrite r pg v) s = .next { s with posted := s.posted ++ [⟨reqNum r, p.base + 0x020, v, s.dt, none⟩] }) ∧
    ∀ (r : Requester) (pg : BitVec 12) (v : W32) (tg : BitVec 30) (p : PageRef) (s : State), pageOf (pageAddr pg) = some p → p.field = false → s.commitHeard p = true →
    s.standbyPage p = false → hasShadow p.kind = true → p.kind ≠ .ltb → p.kind ≠ .ldc → p.kind ≠ .axl → atOnce p.kind = false →
    (bitOf v 0 = true → (s.stripCmds p.base).commitCheck p (s.pageVals p) = none → (s.stripCmds p.base).mirrorsPage p = false → ∃ t, exec (.commitWrite r pg v) s = .next t ∧
      t.commitOf p.base = some ⟨p.base, ((s.stripCmds p.base).fld (p.base + 0x020) 30 0 + 1) % 2 ^ 31, s.pageVals p, .nextApply⟩ ∧
      t.fld (p.base + 0x020) 30 0 = ((s.stripCmds p.base).fld (p.base + 0x020) 30 0 + 1) % 2 ^ 31 ∧ (t.commits.filter fun k => k.page != p.base) = s.commits.filter fun k => k.page != p.base) ∧
    (∀ (u : Nat) (c : State), s.timeTarget (BitVec.ofNat 32 tg.toNat) = some u → c = (s.keepAt p (withFld (BitVec.ofNat 32 tg.toNat) 31 30 1)) →
      (c.stripCmds p.base).commitCheck p (c.pageVals p) = none → (c.stripCmds p.base).mirrorsPage p = false → ∃ t, exec (.commitAtTime r pg tg) s = .next t ∧
      t.commitOf p.base = some ⟨p.base, ((c.stripCmds p.base).fld (p.base + 0x020) 30 0 + 1) % 2 ^ 31, c.pageVals p, .atTime u⟩ ∧ s.dt ≤ u) ∧
    (∀ c : State, c = (s.keepAt p (withFld (BitVec.ofNat 32 tg.toNat) 31 30 2)) →
      (c.stripCmds p.base).commitCheck p (c.pageVals p) = none → (c.stripCmds p.base).mirrorsPage p = false → ∃ t, exec (.commitAtAngle r pg tg) s = .next t ∧
      t.commitOf p.base = some ⟨p.base, ((c.stripCmds p.base).fld (p.base + 0x020) 30 0 + 1) % 2 ^ 31, c.pageVals p, s.angleTarget (BitVec.ofNat 32 tg.toNat)⟩) ∧
    (∃ t, exec (.commitAtCancel r pg tg) s = .next t ∧ t.commitOf p.base = none ∧ t.rd (p.base + 0x024) = withFld (BitVec.ofNat 32 tg.toNat) 31 30 0 ∧ t.inForce = s.inForce)

/-- At the apply point of a page whose pending set is due, every shadowed register of the page takes its value of the set (one that the set does not list its reset value), without its command fields, the set is gone and COMMIT_AT.KIND reads 0; no other register’s value in force changes. A set that is not due stays. Where the rules leave a point open, the clauses follow the choice of the model (logs 46, 48, 52). -/
def Obligations.CommitAppliesWhole : Prop :=
  ∀ (pg : BitVec 12) (p : PageRef) (k : Commit) (s : State), pageOf (pageAddr pg) = some p → s.commitOf p.base = some k → p.kind ∉ [.ltb, .axl, .axp, .axg, .fbp, .emu, .lpu, .slk, .ldc] →
    (k.vals.map fun e => e.1).Nodup → (∀ e ∈ k.vals, shadowRow p.base e.1 = true) →
    (s.commitDue p k = true → ∃ t, exec (.commitApply pg) s = .next t ∧ t.commitOf p.base = none ∧ t.fld (p.base + 0x024) 31 30 = 0 ∧
      (∀ a : Nat, shadowRow p.base a = true → t.act a = if tabHas a k.vals then setVal k.vals a &&& ~~~(woBits a) else resetOf a) ∧
      (∀ a : Nat, shadowRow p.base a = false → t.act a = s.act a)) ∧
    (s.commitDue p k = false → exec (.commitApply pg) s = .next s)

/-- OPEN takes a READY axis to OPEN, CLOSE takes it back, DISABLE takes an OPEN or CLOSED axis to READY (a CLOSED one without a local channel stops switching; a READY one stays as it is), ACK takes a FAULT axis without an active cause to READY and forgets its reaction (a bound channel in FAULT then receives ACK), and clears a HOLD latch in CLOSED; PAGE_STAT.STATE shows the new state. A request that the state does not permit changes no axis and is recorded in ERR_CAP. Where the rules leave a point open, the clauses follow the choice of the model (logs 22, 46, 51, 55). -/
def Obligations.AxisRequestsChangeState : Prop :=
  ∀ (n : Fin 64) (s : State),
    ((s.axis n).st = .ready → ∃ t, exec (.axisOpen n) s = .next t ∧ (t.axis n).st = .opened ∧ t.fld (axlPage n + 8) 3 0 = 2) ∧
    ((s.axis n).st = .opened → ∃ t, exec (.axisClose n) s = .next t ∧ (t.axis n).st = .ready ∧ t.fld (axlPage n + 8) 3 0 = 1) ∧
    ((s.axis n).st = .opened ∨ (s.axis n).st = .closed → ∃ t, exec (.axisDisable n) s = .next t ∧ (t.axis n).st = .ready ∧
      ((s.axis n).st = .closed → s.ldcOfSlot n = none → (t.axis n).pwm = false ∧ (t.axis n).kind = .idle)) ∧
    ((s.axis n).st = .ready → exec (.axisDisable n) s = .next s) ∧
    ((s.axis n).st = .fault → s.blocked n = false → s.ldcOfSlot n = none → ∃ t, exec (.axisAck n) s = .next t ∧ (t.axis n).st = .ready ∧ (t.axis n).react = none ∧ (t.axis n).causes = [] ∧ (t.axis n).pwm = false) ∧
    (∀ c : Nat, (s.axis n).st = .fault → s.blocked n = false → s.ldcOfSlot n = some c → ∃ u : State, (u.axis n).st = .ready ∧ (u.axis n).pwm = false ∧
      exec (.axisAck n) s = .next (if u.comState c = 6 then u.ldcAck c else u)) ∧
    ((s.axis n).st = .closed → s.holdLatched n = true → s.blocked n = false → ∃ t, exec (.axisAck n) s = .next t ∧ t.holdLatched n = false ∧ (t.axis n).react = none ∧ (t.axis n).st = .closed) ∧
    (∀ i : Instr, (i = .axisOpen n ∧ (s.axis n).st ≠ .ready) ∨ (i = .axisClose n ∧ (s.axis n).st ≠ .opened) ∨
      (i = .axisDisable n ∧ (s.axis n).st ≠ .ready ∧ (s.axis n).st ≠ .opened ∧ (s.axis n).st ≠ .closed) ∨
      (i = .axisAck n ∧ ((s.axis n).st = .off ∨ (s.axis n).st = .moving ∨ (s.axis n).st = .following ∨ (s.axis n).st = .stopping)) →
      ∃ t, exec i s = .next t ∧ t.axes = s.axes ∧ t.rd (axlPage n + 0x1C) = errCapNext (s.rd (axlPage n + 0x1C)) .state 17)

/-- ENABLE of a READY axis with a live output and a valid port, without a local channel and no step axis, closes it, starts switching with the commanded position at the actual one, zeroes the integrators and restarts EXT_AGE; a bound local channel then receives START; of any other axis it is refused. A standstill that has held STILL_TIME sets STANDSTILL and ends a stop in CLOSED, one of class RAMP or QUICK in FAULT, QUICK with switching off. A sample instant on the stagger of the slot’s LPU opens the slot’s next run; at a time off it there is no sample. Where the rules leave a point open, the clauses follow the choice of the model (logs 22, 46, 51, 55). -/
def Obligations.AxisEnableAndSample : Prop :=
  ∀ (n : Fin 64) (codes : List (BitVec 12)) (ds : List (Int × Int)) (s : State),
    ((s.axis n).st = .ready → s.slotLive n = true → s.portOk n = true → s.ldcOfSlot n = none → s.isStep n = false → ∃ t, exec (.axisEnable n codes) s = .next t ∧
      (t.axis n).st = .closed ∧ (t.axis n).pwm = true ∧ (t.axis n).plan = restPlan s.dt (s.axis n).act1.p ∧ (t.servo n).iVel = 0 ∧ (t.servo n).vAct = 0 ∧ t.rd (AXL_EXT_AGE n) = 0) ∧
    ((s.axis n).st = .ready → s.slotLive n = true → s.portOk n = true → s.ldcOfSlot n = none → s.isStep n = true → ∃ t, exec (.axisEnable n codes) s = .next t ∧
      (t.axis n).st = .closed ∧ (t.axis n).pwm = true) ∧
    (∀ c : Nat, (s.axis n).st = .ready → s.ldcOfSlot n = some c → s.portOk n = true → ∃ u : State, (u.axis n).st = .closed ∧ (u.axis n).pwm = true ∧
      exec (.axisEnable n codes) s = .next (if (u.ldcStart c (codes.map BitVec.toNat)).isStep n then (u.ldcStart c (codes.map BitVec.toNat)).stepPredict n else u.ldcStart c (codes.map BitVec.toNat))) ∧
    ((s.axis n).st ≠ .ready → ∃ t, exec (.axisEnable n codes) s = .next t ∧ t.axes = s.axes ∧ t.rd (axlPage n + 0x1C) = errCapNext (s.rd (axlPage n + 0x1C)) .state 17) ∧
    ((s.axis n).st = .stopping → (s.axis n).lineRamp = false → (s.gear n).phase = .idle → s.standing n = true →
      (∃ t0, (s.axis n).stillSince = some t0 ∧ t0 + s.fld (AXP_STILL_TIME n) 23 0 * 4000 ≤ s.dt) → ∃ t, exec (.axisStandstill n) s = .next t ∧ t.bit (AXP_PROF_STAT n) 8 = true ∧
      ((s.axis n).kind = .stop → (t.axis n).st = .closed ∧ (t.axis n).react = none) ∧ ((s.axis n).kind = .ramp → (t.axis n).st = .fault ∧ (t.axis n).pwm = (s.axis n).pwm) ∧
      ((s.axis n).kind = .quick → (t.axis n).st = .fault ∧ (t.axis n).pwm = false)) ∧
    (s.standing n = false → ∃ t, exec (.axisStandstill n) s = .next t ∧ t.bit (AXP_PROF_STAT n) 8 = false ∧ (t.axis n).st = (s.axis n).st ∧ (t.axis n).stillSince = none) ∧
    (s.onStagger n = false → exec (.axisSampleInstant n ds codes) s = .next s) ∧
    (s.onStagger n = true → ∃ t, exec (.axisSampleInstant n ds codes) s = .next t ∧ (t.servo n).sampleT = some t.dt ∧ (t.servo n).started = false ∧ (t.servo n).doneAt = none ∧
      (t.servo n).judged = (decide ((t.axis n).st = .off) || t.runsNothing n) ∧ (t.servo n).ready = (!(t.servo n).judged && !t.isStage n))

/-- A working LPU that is not halted and runs nothing starts the ready run with the earliest apply instant: a stock run is ready after its cycles, a user program starts at its entry. At the apply instant of a stage slot a result that is ready becomes the duties sent and clears the consecutive misses; a result that is not holds the previous duties, raises DEADLINE and counts it. IQ_EXT takes a new reference and EXT_AGE restarts. Where the rules leave a point open, the clauses follow the choice of the model (logs 8, 40, 51). -/
def Obligations.LoopRunsAndApplyInstants : Prop :=
  ∀ (i : Fin 9) (n : Fin 64) (p : Nat) (cycles : BitVec 16) (v : W32) (s : State),
    (s.roleOf i ≠ 4 → s.roleOf i ≠ 5 → (s.lpu i).halted = false → s.lpuRuns i = false → s.firstReady i = some (p, n.val) → ∃ t, exec (.loopRunStart i cycles) s = .next t ∧ (t.servo n).started = true ∧
      (s.progOf i p n ≤ 6 → (t.servo n).doneAt = some (s.dt + 4 * cycles.toNat) ∧ cycles.toNat ≤ (t.rd (LPU_RUN_MAX i)).toNat) ∧
      (6 < s.progOf i p n → (t.lpu i).run = some (p, s.progOf i p n, (s.lpu i).cyc) ∧ (t.lpu i).pc = (s.sched.lib.getD (s.progOf i p n) []).getD 1 0)) ∧
    (∀ t0 : Nat, (s.servo n).sampleT = some t0 → (s.servo n).judged = false → s.asComputed n = false → s.isStage n = true → t0 + s.applyOfs n ≤ s.dt → (s.axis n).pwm = true →
      ((s.servo n).started = true → (s.servo n).inProgress s.dt = false → ∃ t, exec (.applyInstant n) s = .next t ∧ (t.servo n).sent = (s.servo n).edges ∧ (t.servo n).judged = true ∧
        (t.servo n).late = 0 ∧ t.fld (AXL_LOOP_STAT n) 7 4 = 0) ∧
      ((s.servo n).started = false → ∃ u : State, (u.servo n).sent = (s.servo n).sent.drop 3 ++ (s.servo n).sent.drop 3 ∧ (u.servo n).judged = true ∧ u.regs = s.regs ∧ u.axes = s.axes ∧
        exec (.applyInstant n) s = .next (u.missDeadline n))) ∧
    (s.standbyAddr (AXL_IQ_EXT n) = false → ∃ t, exec (.iqExtWrite n v) s = .next t ∧ (t.servo n).iqNew = some v ∧ t.rd (AXL_IQ_EXT n) = v ∧ t.rd (AXL_EXT_AGE n) = 0)

/-- The end of a conversion marks the pending set converted (an idle slot’s due set takes effect at once). SAVE, LOAD and CLEAR of the repetitive table set BUSY (LOAD and CLEAR only in READY or OPEN) and a busy table refuses them; at its end BUSY clears and RESULT is 1: SAVE has written header, CRC and bins to the image, CLEAR has zeroed every bin and no other byte, LOAD of an image with the right header, CRC and form has copied its bins. Where the rules leave a point open, the clauses follow the choice of the model (logs 8, 40, 51). -/
def Obligations.CoefficientsAndRepetitiveTables : Prop :=
  ∀ (n : Fin 64) (s : State),
    (s.bit (AXL_LOOP_STAT n) 3 = true → (s.servo n).converted = false → (s.axis n).st.idle = false → (s.commitOf (axlPage n)).isSome = true → ∃ t, exec (.coefConversionDone n) s = .next t ∧
      (t.servo n).converted = true ∧ t.regs = s.regs ∧ t.commits = s.commits) ∧
    (s.standbyAddr (AXL_RC_CMD n) = false → s.bit (AXL_RC_STAT n) 8 = false → (s.axis n).st = .ready ∨ (s.axis n).st = .opened →
      (∃ t, exec (.rcSave n) s = .next t ∧ (t.servo n).rcCmd = 1 ∧ t.bit (AXL_RC_STAT n) 8 = true) ∧ (∃ t, exec (.rcLoad n) s = .next t ∧ (t.servo n).rcCmd = 2 ∧ t.bit (AXL_RC_STAT n) 8 = true) ∧
      (∃ t, exec (.rcClear n) s = .next t ∧ (t.servo n).rcCmd = 3 ∧ t.bit (AXL_RC_STAT n) 8 = true)) ∧
    (s.standbyAddr (AXL_RC_CMD n) = false → s.bit (AXL_RC_STAT n) 8 = true → ∃ t, exec (.rcClear n) s = .next t ∧ t.servos = s.servos ∧ t.mem = s.mem ∧
      t.rd (axlPage n + 0x1C) = errCapNext (s.rd (axlPage n + 0x1C)) .busy 195) ∧
    (s.memOk → (s.servo n).rcCmd = 3 → ∃ t, exec (.rcCmdDone n) s = .next t ∧ t.bit (AXL_RC_STAT n) 8 = false ∧ t.fld (AXL_RC_STAT n) 11 9 = 1 ∧ (t.servo n).rcCmd = 0 ∧
      ∀ a : Nat, t.byteAt a = if s.rcAddr n ≤ a ∧ a < s.rcAddr n + 4 * s.rcBins n then 0 else s.byteAt a) ∧
    (s.memOk → (s.servo n).rcCmd = 1 → s.rcInside n (s.rcBins n) = true → ∃ t, exec (.rcCmdDone n) s = .next t ∧ t.bit (AXL_RC_STAT n) 8 = false ∧ t.fld (AXL_RC_STAT n) 11 9 = 1 ∧
      t.bytesAt (s.rcImage n + (s.rcHeader n).length + 4) (4 * s.rcBins n) = s.bytesAt (s.rcAddr n) (4 * s.rcBins n) ∧ t.bytesAt (s.rcImage n) (s.rcHeader n).length = s.rcHeader n) ∧
    (s.memOk → (s.servo n).rcCmd = 2 → s.rcAddr n ≠ 0 → s.rcInside n (s.rcBins n) = true → s.memNat (s.rcImage n) 4 = 0x52430001 →
      crc32 (s.bytesAt (s.rcImage n) 28 ++ s.bytesAt (s.rcImage n + 32) (4 * s.rcBins n)) = s.memNat (s.rcImage n + 28) 4 → s.memNat (s.rcImage n + 5) 1 = s.actFld (AXL_RC_CTL n) 3 0 →
      s.memNat (s.rcImage n + 6) 1 = s.actFld (AXL_RC_CTL n) 4 4 → s.actFld (AXL_RC_CTL n) 3 0 ≤ 12 → ∃ t, exec (.rcCmdDone n) s = .next t ∧
      t.bytesAt (s.rcAddr n) (4 * s.rcBins n) = s.bytesAt (s.rcImage n + 32) (4 * s.rcBins n) ∧ t.fld (AXL_RC_STAT n) 11 9 = 1)

/-- With source 0 in force each write of VMG_CMD waits, in order, for the next LTB step; with another source it is refused and recorded, the line as before. Between the multiples of 4,096 ticks an LTB step does nothing. At one, with source 0, no own stop, no plan and nothing waiting (no command, no pending set, no scheduler entry) the line state moves to the present instant along its cubic, with the state before it kept for instants that lie before it; commands that wait have all been taken. Where the rules leave a point open, the clauses follow the choice of the model (logs 36, 38, 46). -/
def Obligations.LineCommandsAndSteps : Prop :=
  ∀ (ds : List (Int × Int)) (s : State),
    (s.standbyAddr LTB_VMG_CMD = false → s.lineSrc = 0 →
      (∃ t, exec .vmgStart s = .next t ∧ t.ltb = { s.ltb with cmds := s.ltb.cmds ++ [.start] }) ∧ (∃ t, exec .vmgStop s = .next t ∧ t.ltb = { s.ltb with cmds := s.ltb.cmds ++ [.stop] }) ∧
      (∃ t, exec .vmgHold s = .next t ∧ t.ltb = { s.ltb with cmds := s.ltb.cmds ++ [.hold] }) ∧ (∃ t, exec .vmgResume s = .next t ∧ t.ltb = { s.ltb with cmds := s.ltb.cmds ++ [.resume] }) ∧
      (∃ t, exec .vmgLineStop s = .next t ∧ t.ltb = { s.ltb with cmds := s.ltb.cmds ++ [.lineStop] })) ∧
    (s.standbyAddr LTB_VMG_CMD = false → s.lineSrc ≠ 0 → ∃ t, exec .vmgStart s = .next t ∧ t.ltb = s.ltb ∧ t.rd 0x801C = errCapNext (s.rd 0x801C) .state (LTB_VMG_CMD % 4096 / 4)) ∧
    (s.dt % 4096 ≠ 0 → exec (.ltbStep ds) s = .next s) ∧
    (s.dt % 4096 = 0 → s.lineSrc = 0 → s.ltb.ownStop = false → s.ltb.plan = none → s.ltb.cmds = [] → s.commits = [] → s.ascEnts = [] → ∃ t, exec (.ltbStep ds) s = .next t ∧
      t.ltb = { s.ltb.keep s.dt with line := ⟨s.dt, s.ltb.line.at s.dt, s.ltb.line.j⟩ }) ∧
    (s.dt % 4096 = 0 → s.lineSrc = 0 → s.ltb.ownStop = false → s.commits = [] → s.ascEnts = [] → ∃ t, exec (.ltbStep ds) s = .next t ∧ t.ltb.cmds = [])

/-- A valid published line state is taken once and, on a follower that neither waits nor has missed it, becomes the line state at this instant, its angle the nearest to the line’s own. A receive window without one sets FREEWHEEL, counts the miss and, when the misses reach the limit, declares line loss. The end of a slew clears REJOINING and raises REJOINED. REJOIN of a lost line in STOP waits for the published line with source 3 and takes effect at once with source 0; of a line not lost it is refused. A waiting join clears JOIN_WAIT and steps device time by its offset, with JOIN_DONE where that is not 0, once every axis and the scheduler allow it. Where the rules leave a point open, the clauses follow the choice of the model (logs 36, 38, 46). -/
def Obligations.LineFollowerAndLoss : Prop :=
  ∀ (s : State),
    (∀ (cyc : Nat) (a : List Byte), s.ring.lineState = some (cyc, a) → byteOf a 0 / 4 % 2 = 1 → s.ascEnts = [] →
      contOk (s.ringId ^^^ 0x03000000) (leBytes 1 (byteOf a 0 - 8 * (byteOf a 0 / 8 % 2)) ++ cutAt a 1 51) s.ring.lineCont.seq s.wdMax (cutAt a 52 12) = true →
      contDataOf (cutAt a 52 12) = (cyc + 2 ^ 32 - byteOf a 0 / 8 % 2) % 2 ^ 32 → ∃ t, exec .lineStateReceived s = .next t ∧ t.ring.lineState = none ∧ t.ltb.pub = some (lineOfArea a) ∧
      t.ring.lineCont.seq = some (contSeqOf (cutAt a 52 12)) ∧
      (s.lineSrc ≠ 3 → t.ltb = { s.ltb with pub := some (lineOfArea a), pubSt := byteOf a 0 % 4 }) ∧
      (s.lineSrc = 3 → s.bit LTB_STATUS 8 = false → s.bit LTB_STATUS 9 = false → s.ltb.waitFirst = false →
        t.ltb.line = ⟨s.dt, ⟨s.nearAngle (lineOfArea a), ((lineOfArea a).at s.dt).v, ((lineOfArea a).at s.dt).a⟩, (lineOfArea a).j⟩ ∧ t.fld LTB_STATUS 2 0 = byteOf a 0 % 4)) ∧
    (s.ring.lineState = none → s.ascEnts = [] → exec .lineStateReceived s = .next s) ∧
    (s.lineSrc = 3 → s.bit LTB_STATUS 8 = false → s.ltb.waitFirst = false →
      (min 8 (s.fld LTB_STATUS 19 16 + 1) < s.fld LTB_LOSS_CTL 3 0 → ∃ t, exec .lsMiss s = .next t ∧ t.bit LTB_STATUS 9 = true ∧ t.fld LTB_STATUS 19 16 = min 8 (s.fld LTB_STATUS 19 16 + 1) ∧
        t.bit LTB_STATUS 8 = false ∧ t.bit (evtPendAt ltbPage) 1 = true ∧ t.ltb = s.ltb) ∧
      (s.fld LTB_LOSS_CTL 3 0 ≤ min 8 (s.fld LTB_STATUS 19 16 + 1) → s.gears = [] → ∃ t, exec .lsMiss s = .next t ∧ t.bit LTB_STATUS 8 = true ∧ t.bit (evtPendAt ltbPage) 0 = true ∧
        t.ltb.ownStop = true ∧ t.ss1Line = true)) ∧
    (∀ (d : Int) (t0 n : Nat), s.ltb.slew = some (d, t0, n) → t0 + n ≤ s.dt → ∃ t, exec .rejoinDone s = .next t ∧ t.ltb = { s.ltb with slew := none } ∧ t.bit LTB_STATUS 10 = false ∧
      t.bit (evtPendAt ltbPage) 8 = true) ∧
    (s.standbyAddr LTB_LOSS_CTL = false → s.bit LTB_STATUS 8 = true → s.fld LTB_STATUS 2 0 = 0 → (s.lineSrc = 3 → ∃ t, exec .lossRejoin s = .next t ∧ t.ltb = { s.ltb with rejoin := true }) ∧
      (s.lineSrc = 0 → ∃ t, exec .lossRejoin s = .next t ∧ t.bit LTB_STATUS 8 = false ∧ t.ltb.line.k = ⟨(s.lineAt s.dt).p, 0, 0⟩ ∧ t.ltb.ownStop = false ∧ t.bit (evtPendAt ltbPage) 8 = true)) ∧
    (s.standbyAddr LTB_LOSS_CTL = false → s.bit LTB_STATUS 8 = false → ∃ t, exec .lossRejoin s = .next t ∧ t.ltb = s.ltb ∧ t.rd 0x801C = errCapNext (s.rd 0x801C) .state (LTB_LOSS_CTL % 4096 / 4)) ∧
    (s.bit LTB_STATUS 13 = true → s.mayStep = true → s.ringState ≠ 4 → ∃ t, exec .joinDone s = .next t ∧ t.bit LTB_STATUS 13 = false ∧ t.dt = s.dt + s.ltb.joinTo.getD 0 ∧
      (0 < s.ltb.joinTo.getD 0 → t.bit (evtPendAt ltbPage) 6 = true))

/-- At an LTB step boundary, with the scheduler off, the first 64 arms written are taken: a valid one becomes an armed entry of its lane with ARMED set, one refused by R72 sets REFUSED and raises its event. A disarm withdraws an arm not yet taken and an armed entry whose slot has not frozen (ARMED reads 0); one at 100 ns or less goes after it has fired. Every slot 100 ns ahead or less freezes. The due slot that fires executes its action (FCO set or clear, event) and disarms an entry that does not recur. Where the rules leave a point open, the clauses follow the choice of the model (logs 42, 43, 46). -/
def Obligations.SchedulerArmsAndFires : Prop :=
  ∀ (e : Fin 4096) (v : W32) (s : State), s.memOk →
    (s.dt % 4096 = 0 → s.ascTook ≠ some s.dt → s.bit ASC_CTL 0 = false → s.ascArms = [e.val] → (∀ x : AscEnt, s.ent e = some x → x.frozen = false) →
      (∀ k : Nat, s.laneOf e = some k → s.armInvalid e (withFld (s.memWord (entryAddr e 2)) 12 9 0) = false → ∃ t, exec .ascArm s = .next t ∧ t.ascArms = [] ∧ t.ascTook = some s.dt ∧
        t.ent e = some ⟨k, withFld (s.memWord (entryAddr e 2)) 12 9 0, none, false, false, true, false, false, false, none⟩ ∧ bitOf (t.memWord (entryAddr e 2)) 8 = true) ∧
      (s.armInvalid e (withFld (s.memWord (entryAddr e 2)) 12 9 0) = true → ∃ t, exec .ascArm s = .next t ∧ t.ent e = none ∧ (∀ j : Nat, j ≠ e → t.ent j = s.ent j) ∧ bitOf (t.memWord (entryAddr e 2)) 12 = true ∧
        bitOf (t.memWord (entryAddr e 2)) 8 = false ∧ t.bit (evtPendAt ascPage) 19 = true)) ∧
    (s.dt % 4096 ≠ 0 ∨ s.ascTook = some s.dt → exec .ascArm s = .next s) ∧
    (s.standbyAddr (0x027F0000 + 16 * e + 8) = false → (∀ x : AscEnt, s.ent e = some x → x.frozen = false ∧ ∀ t0 : Nat, x.slot = some t0 → s.dt + 400 < t0) → ∃ t, exec (.ascDisarm e v) s = .next t ∧
      t.ent e = none ∧ e.val ∉ t.ascArms ∧ (∀ j : Nat, j ≠ e → t.ent j = s.ent j) ∧ ((s.ent e).isSome = true → bitOf (t.memWord (entryAddr e 2)) 8 = false)) ∧
    (∀ x : AscEnt, s.standbyAddr (0x027F0000 + 16 * e + 8) = false → s.ent e = some x → x.frozen = true → ∃ t, exec (.ascDisarm e v) s = .next t ∧ t.ent e = some { x with off := true, frozen := true } ∧
      t.bit (evtPendAt ascPage) 18 = true) ∧
    (∃ t, exec .slotFreeze s = .next t ∧ t = { s with ascEnts := t.ascEnts } ∧ (∀ x : AscEnt, s.ent e = some x → t.ent e = some { x with frozen := x.frozen || x.slot.any fun t0 => decide (t0 ≤ s.dt + 400) })) ∧
    (∀ x : AscEnt, s.ascDue = some (e.val, x) → x.recur = false → (∀ y ∈ s.ascEnts, y.2.full = false) → ∃ t, exec .ascFire s = .next t ∧
      (x.action = 1 → x.arg < 16 → s.fcoLock / 2 ^ x.arg % 2 = 0 → t.fcoLevel x.arg = true ∧ t.ent e = none) ∧
      (x.action = 2 → x.arg < 16 → s.fcoLock / 2 ^ x.arg % 2 = 0 → t.fcoLevel x.arg = false ∧ t.ent e = none) ∧
      (x.action = 12 → x.lane < 16 → t.bit (evtPendAt ascPage) x.lane = true ∧ t.ent e = none))

/-- FCO_SW_SET and FCO_SW_CLR drive the pins of their mask that no device-wide SAFE holds and no other pin. Every pulse whose end has come goes inactive. A filtered edge of an enabled input changes FLI_LVL; one that neither EDGE nor a homing axis takes leaves no record, one that EDGE selects at least 64 ticks after the last is timestamped at its filter time before now and waits, under the next SEQ, for the sample of its axis. A complete record of a pin that no window and no homing takes goes to the silo of its pin. Where the rules leave a point open, the clauses follow the choice of the model (logs 42, 43). -/
def Obligations.FastPins : Prop :=
  ∀ (mask : BitVec 16) (k : Fin 16) (ball : Bool) (s : State),
    (s.standbyAddr ASC_FCO_SW_SET = false → ∃ t, exec (.fcoSwSet mask) s = .next t ∧ ∀ j : Nat, j < 16 → t.fcoLevel j = (s.fcoLevel j || (mask.getLsbD j && s.fcoLock / 2 ^ j % 2 == 0))) ∧
    (s.standbyAddr ASC_FCO_SW_CLR = false → ∃ t, exec (.fcoSwClr mask) s = .next t ∧ ∀ j : Nat, j < 16 → t.fcoLevel j = (s.fcoLevel j && !(mask.getLsbD j && s.fcoLock / 2 ^ j % 2 == 0))) ∧
    (∃ t, exec .fcoPulseEnd s = .next t ∧ (∀ j : Nat, j < 16 → (∃ e ∈ s.fcoEnd, e.1 = j ∧ e.2 ≤ s.dt) → s.fcoLock / 2 ^ j % 2 = 0 → t.fcoLevel j = false ∧ tabHas j t.fcoEnd = false) ∧
      (∀ j : Nat, j < 16 → (∀ e ∈ s.fcoEnd, e.1 = j → s.dt < e.2) → t.fcoLevel j = s.fcoLevel j)) ∧
    (s.bit (ASC_FLI_CTL k) 0 = true → (ball != s.bit (ASC_FLI_CTL k) 3) ≠ s.bit ASC_FLI_LVL k →
      (selects (s.rd (ASC_FLI_CTL k)) (ball != s.bit (ASC_FLI_CTL k) 3) = false → s.homesOn k true = [] → ∃ t, exec (.fliEdge k ball) s = .next t ∧ t = s.wrBit ASC_FLI_LVL k (ball != s.bit (ASC_FLI_CTL k) 3)) ∧
      (selects (s.rd (ASC_FLI_CTL k)) (ball != s.bit (ASC_FLI_CTL k) 3) = true → (∀ l : Nat, (s.fliPin k).last = some l → l + 64 + 16 * s.fld (ASC_FLI_CTL k) 11 4 ≤ s.dt - 16 * s.fld (ASC_FLI_CTL k) 11 4) →
        (s.axis (s.fld (ASC_FLI_CTL k) 18 13)).nSamples = 0 → ∃ t, exec (.fliEdge k ball) s = .next t ∧ t.bit ASC_FLI_LVL k = (ball != s.bit (ASC_FLI_CTL k) 3) ∧
        t.fliPin k = ⟨some (s.dt - 16 * s.fld (ASC_FLI_CTL k) 11 4), ((s.fliPin k).seq + 1) % 65536⟩ ∧
        t.fliRecs = s.fliRecs ++ [⟨k, !(ball != s.bit (ASC_FLI_CTL k) 3), s.dt - 16 * s.fld (ASC_FLI_CTL k) 11 4, s.angleAt (s.dt - 16 * s.fld (ASC_FLI_CTL k) 11 4), some (((s.fliPin k).seq + 1) % 65536),
          s.fld (ASC_FLI_CTL k) 18 13, s.bit (ASC_FLI_CTL k) 12⟩])) ∧
    (∀ (r : FliRec) (q : Nat) (pos : Int) (est : Bool), s.fliRecs = [r] → r.pin = k → r.seq = some q → s.posAt r.slot r.t = some (pos, est) → s.homesOn r.pin true = [] → s.homesOn r.pin false = [] →
      s.winsOf r.pin = [] → r.toSilo = true → (s.silo (64 + r.pin)).used ≠ s.siloDepth (64 + r.pin) → ∃ t, exec (.latchRecordComplete k) s = .next t ∧ t.fliRecs = [] ∧
      (t.silo (64 + r.pin)).wr = ((s.silo (64 + r.pin)).wr + 1) % 65536 ∧ t.mem = (s.putWords (s.siloAddr (64 + r.pin) (s.silo (64 + r.pin)).wr) (latchWords r pos (if est then 8 else 0) q)).mem)

/-- ENGAGE with mode IMMEDIATE that nothing refuses couples the axis at once, its offset set so that the commanded position goes on, and takes it to FOLLOWING; with another mode and a crossing ahead the engage waits; a refused one leaves the coupling, shows its code and is recorded. DISENGAGE cancels a waiting engage, stops a following axis at once in mode STOP, and else waits for its crossing. SWITCH of a following cam axis takes up a ready table. A wait ends when its crossing is reached, judged again by R99 as it starts, and stays before. Where the rules leave a point open, the clauses follow the choice of the model (logs 23, 24, 46, 54). -/
def Obligations.GearEngageAndDisengage : Prop :=
  ∀ (n : Fin 64) (s : State),
    (∀ l : GearLaw, l = s.lawOf n (s.actFld (AXG_GEAR_CTL n) 31 24) → s.engageRefusal n l (s.engMode n) (dist16 (s.act (AXG_ENG_DIST n))) = 0 →
      (s.engMode n = 0 → ∃ t, exec (.gearEngage n) s = .next t ∧ (t.axis n).st = .following ∧ (t.gear n).phase = .sync ∧ (t.gear n).wait = none ∧ t.bit (evtPendAt (axgPage n)) 0 = true ∧
        (t.gear n).law = { l with ofs := signedOf 64 (wrapTo 64 (q32 (s.cmdKin n s.dt).p - q32 (s.lawAt { l with ofs := 0 } (q32 (s.masterKin l s.dt).p + (s.gearNow n).phaseNow)).s)) }) ∧
      (s.engMode n ≠ 0 → s.masterPredict l (s.act64 (AXG_ENG_AT_LO n)) ≠ .behind → ∃ t, exec (.gearEngage n) s = .next t ∧ t.axes = s.axes ∧
        t.gear n = { s.gear n with wait := some (l, s.engMode n, (s.act64 (AXG_ENG_AT_LO n) : Int), dist16 (s.act (AXG_ENG_DIST n)), s.masterBelow l (s.act64 (AXG_ENG_AT_LO n)) s.dt) })) ∧
    (∀ c : Nat, s.engageRefusal n (s.lawOf n (s.actFld (AXG_GEAR_CTL n) 31 24)) (s.engMode n) (dist16 (s.act (AXG_ENG_DIST n))) = c + 1 → ∃ t, exec (.gearEngage n) s = .next t ∧ t.gears = s.gears ∧
      t.axes = s.axes ∧ t.fld (AXG_GEAR_STAT n) 27 24 = (c + 1) % 16 ∧ t.bit (evtPendAt (axgPage n)) 3 = true ∧ t.rd (axgPage n + 0x1C) = errCapNext (s.rd (axgPage n + 0x1C)) .state 17) ∧
    ((s.gear n).wait.isSome = true → ∃ t, exec (.gearDisengage n) s = .next t ∧ t.gear n = { s.gear n with wait := none } ∧ t.axes = s.axes ∧ t.bit (evtPendAt (axgPage n)) 1 = true) ∧
    ((s.gear n).wait = none → s.follows n = true → s.disMode n = 0 → ∃ t, exec (.gearDisengage n) s = .next t ∧ (t.axis n).st = .stopping ∧ (t.axis n).kind = .stop ∧ (t.gear n).phase = .idle ∧
      (t.gear n).disengaging = true) ∧
    ((s.gear n).wait = none → s.follows n = true → s.disMode n ≠ 0 → (s.disMode n = 2 → dist16 (s.act (AXG_DIS_DIST n)) ≠ 0) → s.masterPredict (s.gear n).law (s.act64 (AXG_DIS_AT_LO n)) ≠ .behind → ∃ t, exec (.gearDisengage n) s = .next t ∧
      (t.gear n).waitDis = some (s.disMode n, (s.act64 (AXG_DIS_AT_LO n) : Int), dist16 (s.act (AXG_DIS_DIST n)), s.masterBelow (s.gear n).law (s.act64 (AXG_DIS_AT_LO n)) s.dt) ∧ (t.gear n).phase = (s.gear n).phase) ∧
    (s.follows n = true → (s.gear n).law.isCam = true → s.camReady (s.actFld (AXG_GEAR_CTL n) 31 24) = true → ∃ t, exec (.gearSwitch n) s = .next t ∧ (t.gear n).law.table = s.actFld (AXG_GEAR_CTL n) 31 24 ∧
      (t.gear n).law.camLift = s.camLift (s.actFld (AXG_GEAR_CTL n) 31 24) ∧ (t.gear n).phase = (s.gear n).phase ∧ t.axes = s.axes ∧ t.bit (evtPendAt (axgPage n)) 2 = true) ∧
    (∀ (l : GearLaw) (mode : Nat) (at0 dist : Int) (below : Bool), (s.gear n).wait = some (l, mode, at0, dist, below) →
      (∀ u : State, u = s.putGear n { s.gear n with wait := none } → s.masterCrossed l at0 below = true →
        (u.engageRefusal n l mode dist = 0 → mode ≠ 2 → ∃ t, exec (.engageStart n) s = .next t ∧ (t.axis n).st = .following ∧ (t.gear n).phase = .sync ∧ (t.gear n).wait = none) ∧
        (u.engageRefusal n l mode dist = 0 → mode = 2 → u.rampRefusal n (u.recache l) (u.matchRamp n (u.recache l) dist) = 0 → ∃ t, exec (.engageStart n) s = .next t ∧ (t.axis n).st = .following ∧
          (t.gear n).phase = .rampIn ∧ (t.gear n).law = u.recache l ∧ (t.gear n).ramp = some (u.matchRamp n (u.recache l) dist)) ∧
        (u.engageRefusal n l mode dist ≠ 0 → ∃ t, exec (.engageStart n) s = .next t ∧ t.axes = s.axes ∧ (t.gear n).phase = (s.gear n).phase ∧ (t.gear n).wait = none ∧
          t.bit (evtPendAt (axgPage n)) 3 = true)) ∧
      (s.masterCrossed l at0 below = false → exec (.engageStart n) s = .next s)) ∧
    (∀ (mode : Nat) (at0 dist : Int) (below : Bool), (s.gear n).waitDis = some (mode, at0, dist, below) → s.follows n = true → (s.axis n).lineRamp = false →
      (s.masterCrossed (s.gear n).law at0 below = true → ∃ t, exec (.disengageStart n) s = .next t ∧ (t.axis n).st = .stopping ∧ (t.gear n).waitDis = none ∧
        (t.gear n).phase = if mode = 2 then .rampOut else .idle) ∧
      (s.masterCrossed (s.gear n).law at0 below = false → exec (.disengageStart n) s = .next s))

/-- A write of word 1 of a cam descriptor with CHECK starts a check with READY and CHK cleared; a write of another word stores it and clears READY, CHK and CHECK. The end of a check stores its result in CHK, and READY where it is 1. REG_CTL keeps its fields; AUTO is refused unless the window’s source and the axis’s master are the line. Where the rules leave a point open, the clauses follow the choice of the model (logs 23, 24, 54). -/
def Obligations.CamDescriptorsAndRegistration : Prop :=
  ∀ (tb : Fin 256) (w : Fin 4) (v : W32) (n : Fin 64) (s : State), s.memOk →
    (s.standbyAddr (camDescAddr tb + 4) = false → bitOf v 25 = true → ∃ t, exec (.camDescriptorWrite tb 1 v) s = .next t ∧ t.camBusy tb = true ∧ t.camReady tb = false ∧
      fldOf (t.memWord (camDescAddr tb + 4)) 15 0 = fldOf v 15 0 ∧ (∀ a : Nat, a < camDescAddr tb + 4 ∨ camDescAddr tb + 8 ≤ a → t.byteAt a = s.byteAt a)) ∧
    (s.standbyAddr (camDescAddr tb + 4 * w) = false → w ≠ 1 → ∃ t, exec (.camDescriptorWrite tb w v) s = .next t ∧ t.memWord (camDescAddr tb + 4 * w) = v ∧ t.camReady tb = false ∧ t.camBusy tb = false ∧
      (∀ a : Nat, a < camDescAddr tb ∨ camDescAddr tb + 16 ≤ a → t.byteAt a = s.byteAt a)) ∧
    (s.camBusy tb = true → ∃ t, exec (.camCheckDone tb) s = .next t ∧ t.camBusy tb = false ∧ t.camReady tb = decide (s.camCheckOf tb = 1) ∧ fldOf (t.memWord (camDescAddr tb + 4)) 19 16 = s.camCheckOf tb % 16 ∧
      t.regs = s.regs) ∧
    (s.standbyAddr (AXG_REG_CTL n) = false → bitOf v 0 = true → s.autoAllowed n (fldOf v 1 1) = true → ∃ t, exec (.regCtlWrite n v) s = .next t ∧ t.bit (AXG_REG_CTL n) 0 = true ∧
      t.fld (AXG_REG_CTL n) 31 16 = fldOf v 31 16 ∧ t.fld (AXG_REG_CTL n) 1 1 = fldOf v 1 1) ∧
    (s.standbyAddr (AXG_REG_CTL n) = false → bitOf v 0 = true → s.autoAllowed n (fldOf v 1 1) = false → ∃ t, exec (.regCtlWrite n v) s = .next t ∧ t.bit (AXG_REG_CTL n) 0 = false ∧
      t.fld (AXG_GEAR_STAT n) 27 24 = 12 ∧ t.rd (axgPage n + 0x1C) = errCapNext (s.rd (axgPage n + 0x1C)) .state 40)

/-- A START that nothing refuses makes the axis MOVING: ABS with a plan to the committed target in the counter range the axis stands in (its modulo occurrence by the direction policy), REL to the commanded position plus the distance, VELOCITY with a ramp to the committed velocity, with soft limits in force towards the limit ahead; STREAM runs the first entry of the segment silo and takes it out; HOME runs the first step of its method, and method SET completes at once. ABS and REL to the present position at rest end at once in CLOSED with DONE. A refused START leaves the axis and shows its code. Where the rules leave a point open, the clauses follow the choice of the model (logs 8, 51, 61). -/
def Obligations.MovesStart : Prop :=
  ∀ (n : Fin 64) (s : State),
    (s.startRefusal n 0 = 0 → ∃ t, exec (.moveAbs n) s = .next t ∧ (t.axis n).goal = (if 0 < s.modPer n then modTarget (s.moveLims n) (s.cmdKin n s.dt) (s.moveEnd n 0) (s.modPer n) (s.dirPol n) else s.moveEnd n 0) ∧
      (¬((s.cmdKin n s.dt).v = 0 ∧ (s.cmdKin n s.dt).a = 0 ∧ (s.cmdKin n s.dt).p = (t.axis n).goal) → (t.axis n).st = .moving ∧ (t.axis n).kind = .ptp ∧ (t.axis n).plan.fin = ⟨(t.axis n).goal, 0, 0⟩) ∧
      ((s.cmdKin n s.dt).v = 0 → (s.cmdKin n s.dt).a = 0 → (s.cmdKin n s.dt).p = (t.axis n).goal → (t.axis n).st = .closed ∧ (t.axis n).kind = .idle ∧ t.bit (evtPendAt (axpPage n)) 0 = true)) ∧
    (s.startRefusal n 1 = 0 → ∃ t, exec (.moveRel n) s = .next t ∧ (t.axis n).goal = (s.cmdKin n s.dt).p + s.moveTgt n ∧
      (s.moveTgt n ≠ 0 → (t.axis n).st = .moving ∧ (t.axis n).kind = .ptp ∧ (t.axis n).plan.fin = ⟨(t.axis n).goal, 0, 0⟩) ∧
      (s.moveTgt n = 0 → (s.cmdKin n s.dt).v = 0 → (s.cmdKin n s.dt).a = 0 → (t.axis n).st = .closed ∧ (t.axis n).kind = .idle ∧ t.bit (evtPendAt (axpPage n)) 0 = true)) ∧
    (s.startRefusal n 2 = 0 → ∃ t, exec (.moveVelocity n) s = .next t ∧ (t.axis n).st = .moving ∧
      (s.limsOn n = false ∨ s.velTgt n = 0 → (t.axis n).kind = .vel ∧ (t.axis n).goal = s.velTgt n) ∧
      (s.limsOn n = true → s.velTgt n ≠ 0 → (t.axis n).kind = .velLimit ∧ (t.axis n).goal = lapOf (s.cmdKin n s.dt).p + (if s.velTgt n < 0 then s.limNeg n else s.limPos n))) ∧
    (s.startRefusal n 3 = 0 → (s.axis n).kind = .idle → (s.silo n).avail ≠ 0 → s.segInvalid n (segOf (s.siloHead n)) (s.cmdKin n s.dt).p = false → ∃ t, exec (.moveStream n) s = .next t ∧
      (t.axis n).st = .moving ∧ (t.axis n).kind = .stream ∧ (t.axis n).seg = some (segOf (s.siloHead n)) ∧ (t.silo n).rdp = ((s.silo n).rdp + 1) % 65536 ∧ t.rd (AXP_SEG_TAG n) = (segOf (s.siloHead n)).tag) ∧
    (s.startRefusal n 4 = 0 → ∃ t, exec (.moveHome n) s = .next t ∧
      (s.homeMethod n ∈ [2, 3, 4, 5, 6, 7, 10, 11] → (t.axis n).st = .moving ∧ (t.axis n).kind = .home ∧ t.homeStep n = 1 ∧ t.homed n = false) ∧
      (s.homeMethod n ∈ [8, 9] → (t.axis n).st = .moving ∧ (t.axis n).kind = .home ∧ t.homeStep n = 2) ∧
      (s.homeMethod n = 0 → s.actBit (AXP_HOME_CTL n) 10 = false → (s.gear n).phase = .idle → (t.axis n).st = .closed ∧ t.homed n = true ∧ t.homeStep n = 0 ∧
        (t.axis n).posOfs = (s.axis n).posOfs + (s.sPair (AXP_HOME_POS_LO n) - (s.cmdKin n s.dt).p))) ∧
    (∀ c : Nat, s.startRefusal n 0 = c + 1 → ∃ t, exec (.moveAbs n) s = .next t ∧ t.axes = s.axes ∧ t.fld (AXP_PROF_STAT n) 27 24 = (c + 1) % 16 ∧ t.bit (evtPendAt (axpPage n)) 1 = true)

/-- STOP takes a MOVING or FOLLOWING axis to STOPPING, released from its coupling, at the committed DEC where no segment runs; in another state, without a waiting engage, it changes no axis and is recorded. RESUME of a stream held at rest with a segment waiting returns to the end of the last completed segment. A step due on a switching pair is emitted: STEP_CNT moves by one in its direction and its instant is kept, then the lag limit is looked at. Where the rules leave a point open, the clauses follow the choice of the model (logs 8, 46, 51, 61). -/
def Obligations.MovesStopAndSteps : Prop :=
  ∀ (n : Fin 64) (s : State),
    ((s.axis n).st = .moving ∨ (s.axis n).st = .following → ∃ t, exec (.moveStop n) s = .next t ∧ (t.axis n).st = .stopping ∧ (t.axis n).kind = .stop ∧ (t.gear n).phase = .idle ∧ (t.gear n).wait = none ∧
      ((s.axis n).seg = none → (t.axis n).lims.dec = (s.moveLims n).dec)) ∧
    ((s.axis n).st ≠ .moving → (s.axis n).st ≠ .following → (s.gear n).wait = none → ∃ t, exec (.moveStop n) s = .next t ∧ t.axes = s.axes ∧ t.gears = s.gears ∧
      t.rd (axlPage n + 0x1C) = errCapNext (s.rd (axlPage n + 0x1C)) .state 18) ∧
    (s.holdLatched n = false → (s.axis n).st = .moving → (s.axis n).kind = .starve → (s.axis n).plan.ended s.dt = true → (s.silo n).avail ≠ 0 → ∃ t, exec (.moveResume n) s = .next t ∧
      (t.axis n).kind = .resume ∧ (t.axis n).plan.fin = ⟨(s.axis n).segEnd, 0, 0⟩ ∧ (t.axis n).st = .moving ∧ t.bit (AXP_PROF_STAT n) 5 = false) ∧
    (∀ t0 : Nat, s.isStep n = true → (s.axis n).stepNext = some t0 → t0 ≤ s.dt → (s.axis n).pwm = true → (s.axis n).kind = .idle → (s.axis n).newLims = none → ∃ u : State,
      exec (.stepEmit n) s = .next (u.stepLagCheck n) ∧ u.rd (AXP_STEP_CNT n) = (if (s.axis n).stepUp then s.rd (AXP_STEP_CNT n) + 1 else s.rd (AXP_STEP_CNT n) - 1) ∧ (u.axis n).stepLast = some s.dt) ∧
    (∀ t0 : Nat, (s.axis n).stepNext = some t0 → s.dt < t0 → exec (.stepEmit n) s = .next s)

/-- A NOP that ends its bundle takes one cycle more, one for a stall as well, and outside a loop goes to the next bundle; results due by then are visible in their register, accumulator, latch or flags, those due later still under way. At the last bundle of a loop body whose count is not done the body starts again at no cost, its rotating names advanced by the step; when it is done the level ends. A NOP that does not end its bundle changes nothing. Where the rules leave a point open, the clauses follow the choice of the model (logs 25, 56). -/
def Obligations.LpuBundleEnds : Prop :=
  ∀ (i : Fin 9) (s : State), (s.lpu i).d.length = 64 →
    (∃ t, exec (.lpuNop i false) s = .next t ∧ s.lpuGives t i false (s.lpu i)) ∧
    (∃ t, exec (.lpuNop i true) s = .next t ∧ (t.lpu i).cyc = (s.lpu i).cyc + 1 + (if (s.lpu i).stall then 1 else 0) ∧ (t.lpu i).stall = false ∧
      ((s.lpu i).loops = [] → (t.lpu i).pc = ((s.lpu i).pc + 1) % 4096 ∧ (t.lpu i).rot = (s.lpu i).rot)) ∧
    (∀ p : PendW, (s.lpu i).pend = [p] → (p.due ≤ (s.lpu i).cyc + 1 → ∃ t, exec (.lpuNop i true) s = .next t ∧ (t.lpu i).pend = [] ∧
        (∀ k : Nat, p.reg = .d k → k < 64 → (t.lpu i).d = (s.lpu i).d.set k (w32 p.val)) ∧ (p.reg = .acc false → (t.lpu i).acc0 = p.val) ∧ (p.reg = .acc true → (t.lpu i).acc1 = p.val) ∧
        (p.reg = .pl false → (t.lpu i).pl0 = w32 p.val) ∧ (p.reg = .pl true → (t.lpu i).pl1 = w32 p.val) ∧
        (p.reg = .nz → (t.lpu i).n = decide (2 ≤ p.val) ∧ (t.lpu i).z = decide (p.val % 2 = 1))) ∧
      ((s.lpu i).cyc + 2 ≤ p.due → (s.lpu i).stall = false → ∃ t, exec (.lpuNop i true) s = .next t ∧ (t.lpu i).pend = [p] ∧ (t.lpu i).d = (s.lpu i).d ∧ (t.lpu i).acc0 = (s.lpu i).acc0)) ∧
    (∀ (l : LoopLvl) (r : List LoopLvl), (s.lpu i).loops = l :: r → (s.lpu i).pc = l.stop →
      (l.iter + 1 < l.count → ∃ t, exec (.lpuNop i true) s = .next t ∧ (t.lpu i).pc = l.start ∧ (t.lpu i).loops = { l with iter := l.iter + 1 } :: r ∧
        (t.lpu i).rot = if l.rot then ((s.lpu i).rot + l.rstep) % 16 else (s.lpu i).rot) ∧
      (l.count ≤ l.iter + 1 → r = [] → ∃ t, exec (.lpuNop i true) s = .next t ∧ (t.lpu i).pc = (l.stop + 1) % 4096 ∧ (t.lpu i).loops = []))

/-- Each operation of these groups issues its result with latency 1 and leaves everything else: sums, negation, absolute value and left shifts saturate to Q1.31 and set V; MIN, MAX, CLAMP, MOV, SEL, the logic operations and NORM give their value; MVA and MVAP round and saturate an accumulator at the shift that CSH or BS gives; LDACC and CLRA write an accumulator; CMP gives N and Z. An ASH by −32 has no stated result. Where the rules leave a point open, the clauses follow the choice of the model (logs 25, 56). -/
def Obligations.LpuMovesAndArithmetic : Prop :=
  ∀ (i : Fin 9) (cd ca cb : Fin 64) (acc last : Bool) (sh : BitVec 5) (s : State),
    (∃ t, exec (.lpuMov i cd ca last) s = .next t ∧ s.lpuGives t i last ((s.lpu i).with [(s.lpu i).res 1 cd ((s.lpu i).q ca)] false)) ∧
    (∃ t, exec (.lpuAdd i cd ca cb last) s = .next t ∧ s.lpuGives t i last ((s.lpu i).with [(s.lpu i).res 1 cd (satTo 32 ((s.lpu i).q ca + (s.lpu i).q cb))] (over31 ((s.lpu i).q ca + (s.lpu i).q cb)))) ∧
    (∃ t, exec (.lpuSub i cd ca cb last) s = .next t ∧ s.lpuGives t i last ((s.lpu i).with [(s.lpu i).res 1 cd (satTo 32 ((s.lpu i).q ca - (s.lpu i).q cb))] (over31 ((s.lpu i).q ca - (s.lpu i).q cb)))) ∧
    (∃ t, exec (.lpuNeg i cd ca last) s = .next t ∧ s.lpuGives t i last ((s.lpu i).with [(s.lpu i).res 1 cd (satTo 32 (-(s.lpu i).q ca))] (over31 (-(s.lpu i).q ca)))) ∧
    (∃ t, exec (.lpuAbs i cd ca last) s = .next t ∧ s.lpuGives t i last ((s.lpu i).with [(s.lpu i).res 1 cd (satTo 32 ((((s.lpu i).q ca).natAbs : Int)))] (over31 ((((s.lpu i).q ca).natAbs : Int))))) ∧
    (∃ t, exec (.lpuMin i cd ca cb last) s = .next t ∧ s.lpuGives t i last ((s.lpu i).with [(s.lpu i).res 1 cd (satTo 32 (min ((s.lpu i).q ca) ((s.lpu i).q cb)))] (over31 (min ((s.lpu i).q ca) ((s.lpu i).q cb))))) ∧
    (∃ t, exec (.lpuMax i cd ca cb last) s = .next t ∧ s.lpuGives t i last ((s.lpu i).with [(s.lpu i).res 1 cd (satTo 32 (max ((s.lpu i).q ca) ((s.lpu i).q cb)))] (over31 (max ((s.lpu i).q ca) ((s.lpu i).q cb))))) ∧
    (∃ t, exec (.lpuClamp i cd ca cb last) s = .next t ∧ s.lpuGives t i last ((s.lpu i).with [(s.lpu i).res 1 cd (satTo 32 (clampInt (-((((s.lpu i).q cb).natAbs : Nat) : Int)) (((s.lpu i).q cb).natAbs : Nat) ((s.lpu i).q ca)))] (over31 (clampInt (-((((s.lpu i).q cb).natAbs : Nat) : Int)) (((s.lpu i).q cb).natAbs : Nat) ((s.lpu i).q ca))))) ∧
    (∃ t, exec (.lpuLdacc i ca acc last) s = .next t ∧ s.lpuGives t i last ((s.lpu i).with [(s.lpu i).resA 1 acc ((s.lpu i).q ca * 2 ^ 32)] false)) ∧
    (∃ t, exec (.lpuClra i acc last) s = .next t ∧ s.lpuGives t i last ((s.lpu i).with [(s.lpu i).resA 1 acc 0] false)) ∧
    (∀ k : Int, (s.lpu i).csh sh = some k → ∃ t, exec (.lpuMva i cd acc sh last) s = .next t ∧ s.lpuGives t i last (((s.lpu i).grown (moved ((s.lpu i).accOf acc) ((s.lpu i).scale k) 32)).with
        [(s.lpu i).res 1 cd (moved ((s.lpu i).accOf acc) ((s.lpu i).scale k) 32)] (over31 (roundShift ((s.lpu i).accOf acc) ((s.lpu i).scale k) 32)))) ∧
    (∀ k : Int, (s.lpu i).csh sh = some k → ∃ t, exec (.lpuMvap i cd sh last) s = .next t ∧ s.lpuGives t i last
        ((((s.lpu i).grown (moved (s.lpu i).acc0 ((s.lpu i).scale k) 32)).grown (moved (s.lpu i).acc1 ((s.lpu i).scale k) 32)).with
        ((s.lpu i).res 1 cd (moved (s.lpu i).acc0 ((s.lpu i).scale k) 32) :: (if cd.val = 63 then [] else [(s.lpu i).res 1 (cd + 1) (moved (s.lpu i).acc1 ((s.lpu i).scale k) 32)]))
        (over31 (roundShift (s.lpu i).acc0 ((s.lpu i).scale k) 32) || over31 (roundShift (s.lpu i).acc1 ((s.lpu i).scale k) 32)))) ∧
    (0 ≤ signedOf 6 ((s.lpu i).dreg cb).toNat → (∃ t, exec (.lpuAsh i cd ca cb last) s = .next t ∧ s.lpuGives t i last ((s.lpu i).with [(s.lpu i).res 1 cd (satTo 32 ((s.lpu i).q ca * 2 ^ (signedOf 6 ((s.lpu i).dreg cb).toNat).toNat))] (over31 ((s.lpu i).q ca * 2 ^ (signedOf 6 ((s.lpu i).dreg cb).toNat).toNat))))) ∧
    (signedOf 6 ((s.lpu i).dreg cb).toNat < 0 → signedOf 6 ((s.lpu i).dreg cb).toNat ≠ -32 → (∃ t, exec (.lpuAsh i cd ca cb last) s = .next t ∧ s.lpuGives t i last ((s.lpu i).with [(s.lpu i).res 1 cd ((s.lpu i).q ca / 2 ^ (-(signedOf 6 ((s.lpu i).dreg cb).toNat)).toNat)] false))) ∧
    (signedOf 6 ((s.lpu i).dreg cb).toNat = -32 → ∃ t v, exec (.lpuAsh i cd ca cb last) s = .next t ∧ (s.drawn 1).lpuGives t i last ((s.lpu i).with [(s.lpu i).res 1 cd v] false)) ∧
    (∃ t, exec (.lpuLsh i cd ca cb last) s = .next t ∧ s.lpuGives t i last ((s.lpu i).with [(s.lpu i).res 1 cd (if 0 ≤ signedOf 6 ((s.lpu i).dreg cb).toNat then ((((s.lpu i).dreg ca).toNat * 2 ^ (signedOf 6 ((s.lpu i).dreg cb).toNat).toNat % 2 ^ 32 : Nat) : Int) else ((((s.lpu i).dreg ca).toNat / 2 ^ (-(signedOf 6 ((s.lpu i).dreg cb).toNat)).toNat : Nat) : Int))] false)) ∧
    (∃ t, exec (.lpuAnd i cd ca cb last) s = .next t ∧ s.lpuGives t i last ((s.lpu i).with [(s.lpu i).res 1 cd ((((s.lpu i).dreg ca &&& (s.lpu i).dreg cb).toNat : Int))] false)) ∧
    (∃ t, exec (.lpuOr i cd ca cb last) s = .next t ∧ s.lpuGives t i last ((s.lpu i).with [(s.lpu i).res 1 cd ((((s.lpu i).dreg ca ||| (s.lpu i).dreg cb).toNat : Int))] false)) ∧
    (∃ t, exec (.lpuXor i cd ca cb last) s = .next t ∧ s.lpuGives t i last ((s.lpu i).with [(s.lpu i).res 1 cd ((((s.lpu i).dreg ca ^^^ (s.lpu i).dreg cb).toNat : Int))] false)) ∧
    (∃ t, exec (.lpuCmp i ca cb last) s = .next t ∧ s.lpuGives t i last ((s.lpu i).with [⟨(s.lpu i).cyc + 1, (s.lpu i).cyc, 3, .nz, (if (s.lpu i).q ca - (s.lpu i).q cb < 0 then 2 else 0) + (if (s.lpu i).q ca - (s.lpu i).q cb = 0 then 1 else 0)⟩] false)) ∧
    (∃ t, exec (.lpuSel i cd ca cb last) s = .next t ∧ s.lpuGives t i last ((s.lpu i).with [(s.lpu i).res 1 cd (if (s.lpu i).n then (s.lpu i).q ca else (s.lpu i).q cb)] false)) ∧
    (∃ t, exec (.lpuNorm i cd ca last) s = .next t ∧ s.lpuGives t i last ((s.lpu i).with [(s.lpu i).res 1 cd (((redundantSigns ((s.lpu i).dreg ca) : Nat) : Int))] false))

/-- Each multiply of two Q1.31 operands is exact in the accumulator, which saturates at 80 bits and then sets V; its result has latency 2, that of ADDA and SHA latency 1. MAC and MSU, DOTA, MACP, CMAC and CMACC add to what the accumulator holds at issue; the complex operations give the real part to ACC0 and the imaginary part to ACC1 and need even pairs (an odd one is program fault 4). The rounding of a right shift by SHA and the registers past D63 of a DOT have no stated value. Where the rules leave a point open, the clauses follow the choice of the model (logs 25, 56). -/
def Obligations.LpuMultipliesIntoAccumulators : Prop :=
  ∀ (i : Fin 9) (ca cb : Fin 64) (acc last : Bool) (sh : BitVec 5) (s : State),
    (∃ t, exec (.lpuMul i ca cb acc last) s = .next t ∧ s.lpuGives t i last ((s.lpu i).with [(s.lpu i).resA 2 acc (satTo 80 (2 * ((s.lpu i).q ca * (s.lpu i).q cb)))] (over80 (2 * ((s.lpu i).q ca * (s.lpu i).q cb))))) ∧
    (∃ t, exec (.lpuMac i ca cb acc last) s = .next t ∧ s.lpuGives t i last ((s.lpu i).with [(s.lpu i).resA 2 acc (satTo 80 ((s.lpu i).accOf acc + 2 * ((s.lpu i).q ca * (s.lpu i).q cb)))] (over80 ((s.lpu i).accOf acc + 2 * ((s.lpu i).q ca * (s.lpu i).q cb))))) ∧
    (∃ t, exec (.lpuMsu i ca cb acc last) s = .next t ∧ s.lpuGives t i last ((s.lpu i).with [(s.lpu i).resA 2 acc (satTo 80 ((s.lpu i).accOf acc - 2 * ((s.lpu i).q ca * (s.lpu i).q cb)))] (over80 ((s.lpu i).accOf acc - 2 * ((s.lpu i).q ca * (s.lpu i).q cb))))) ∧
    (ca.val < 63 → cb.val < 63 → (∃ t, exec (.lpuDot i ca cb acc last) s = .next t ∧ s.lpuGives t i last ((s.lpu i).with [(s.lpu i).resA 2 acc (satTo 80 (2 * ((s.lpu i).q ca * (s.lpu i).q cb) + 2 * ((s.lpu i).q (ca + 1) * (s.lpu i).q (cb + 1))))] (over80 (2 * ((s.lpu i).q ca * (s.lpu i).q cb) + 2 * ((s.lpu i).q (ca + 1) * (s.lpu i).q (cb + 1))))))) ∧
    (ca.val < 63 → cb.val < 63 → (∃ t, exec (.lpuDota i ca cb acc last) s = .next t ∧ s.lpuGives t i last ((s.lpu i).with [(s.lpu i).resA 2 acc (satTo 80 ((s.lpu i).accOf acc + (2 * ((s.lpu i).q ca * (s.lpu i).q cb) + 2 * ((s.lpu i).q (ca + 1) * (s.lpu i).q (cb + 1)))))] (over80 ((s.lpu i).accOf acc + (2 * ((s.lpu i).q ca * (s.lpu i).q cb) + 2 * ((s.lpu i).q (ca + 1) * (s.lpu i).q (cb + 1)))))))) ∧
    (ca.val = 63 ∨ cb.val = 63 → ∃ (t : State) (v : Int) (k : Nat), exec (.lpuDot i ca cb acc last) s = .next t ∧ (s.drawn k).lpuGives t i last ((s.lpu i).with [(s.lpu i).resA 2 acc (satTo 80 (2 * ((s.lpu i).q ca * (s.lpu i).q cb) + v))] (over80 (2 * ((s.lpu i).q ca * (s.lpu i).q cb) + v)))) ∧
    (∃ t, exec (.lpuMulp i ca acc last) s = .next t ∧ s.lpuGives t i last ((s.lpu i).with [(s.lpu i).resA 2 acc (satTo 80 (2 * ((s.lpu i).q ca * (s.lpu i).p0)))] (over80 (2 * ((s.lpu i).q ca * (s.lpu i).p0))))) ∧
    (∃ t, exec (.lpuMacp i ca acc last) s = .next t ∧ s.lpuGives t i last ((s.lpu i).with [(s.lpu i).resA 2 acc (satTo 80 ((s.lpu i).accOf acc + 2 * ((s.lpu i).q ca * (s.lpu i).p0)))] (over80 ((s.lpu i).accOf acc + 2 * ((s.lpu i).q ca * (s.lpu i).p0))))) ∧
    (ca.val % 2 = 0 → cb.val % 2 = 0 → ∃ t, exec (.lpuCmul i ca cb last) s = .next t ∧ s.lpuGives t i last ((s.lpu i).with [(s.lpu i).resA 2 false (satTo 80 (2 * ((s.lpu i).q ca * (s.lpu i).q cb) - (2 * ((s.lpu i).q (ca + 1) * (s.lpu i).q (cb + 1))))), (s.lpu i).resA 2 true (satTo 80 (2 * ((s.lpu i).q ca * (s.lpu i).q (cb + 1)) + 2 * ((s.lpu i).q (ca + 1) * (s.lpu i).q cb)))] (over80 (2 * ((s.lpu i).q ca * (s.lpu i).q cb) - (2 * ((s.lpu i).q (ca + 1) * (s.lpu i).q (cb + 1)))) || over80 (2 * ((s.lpu i).q ca * (s.lpu i).q (cb + 1)) + 2 * ((s.lpu i).q (ca + 1) * (s.lpu i).q cb))))) ∧
    (ca.val % 2 = 0 → cb.val % 2 = 0 → ∃ t, exec (.lpuCmac i ca cb last) s = .next t ∧ s.lpuGives t i last ((s.lpu i).with [(s.lpu i).resA 2 false (satTo 80 ((s.lpu i).acc0 + (2 * ((s.lpu i).q ca * (s.lpu i).q cb) - (2 * ((s.lpu i).q (ca + 1) * (s.lpu i).q (cb + 1)))))), (s.lpu i).resA 2 true (satTo 80 ((s.lpu i).acc1 + (2 * ((s.lpu i).q ca * (s.lpu i).q (cb + 1)) + 2 * ((s.lpu i).q (ca + 1) * (s.lpu i).q cb))))] (over80 ((s.lpu i).acc0 + (2 * ((s.lpu i).q ca * (s.lpu i).q cb) - (2 * ((s.lpu i).q (ca + 1) * (s.lpu i).q (cb + 1))))) || over80 ((s.lpu i).acc1 + (2 * ((s.lpu i).q ca * (s.lpu i).q (cb + 1)) + 2 * ((s.lpu i).q (ca + 1) * (s.lpu i).q cb)))))) ∧
    (ca.val % 2 = 0 → cb.val % 2 = 0 → ∃ t, exec (.lpuCmulc i ca cb last) s = .next t ∧ s.lpuGives t i last ((s.lpu i).with [(s.lpu i).resA 2 false (satTo 80 (2 * ((s.lpu i).q ca * (s.lpu i).q cb) + (2 * ((s.lpu i).q (ca + 1) * (s.lpu i).q (cb + 1))))), (s.lpu i).resA 2 true (satTo 80 (-(2 * ((s.lpu i).q ca * (s.lpu i).q (cb + 1))) + 2 * ((s.lpu i).q (ca + 1) * (s.lpu i).q cb)))] (over80 (2 * ((s.lpu i).q ca * (s.lpu i).q cb) + (2 * ((s.lpu i).q (ca + 1) * (s.lpu i).q (cb + 1)))) || over80 (-(2 * ((s.lpu i).q ca * (s.lpu i).q (cb + 1))) + 2 * ((s.lpu i).q (ca + 1) * (s.lpu i).q cb))))) ∧
    (ca.val % 2 = 0 → cb.val % 2 = 0 → ∃ t, exec (.lpuCmacc i ca cb last) s = .next t ∧ s.lpuGives t i last ((s.lpu i).with [(s.lpu i).resA 2 false (satTo 80 ((s.lpu i).acc0 + (2 * ((s.lpu i).q ca * (s.lpu i).q cb) + (2 * ((s.lpu i).q (ca + 1) * (s.lpu i).q (cb + 1)))))), (s.lpu i).resA 2 true (satTo 80 ((s.lpu i).acc1 + (-(2 * ((s.lpu i).q ca * (s.lpu i).q (cb + 1))) + 2 * ((s.lpu i).q (ca + 1) * (s.lpu i).q cb))))] (over80 ((s.lpu i).acc0 + (2 * ((s.lpu i).q ca * (s.lpu i).q cb) + (2 * ((s.lpu i).q (ca + 1) * (s.lpu i).q (cb + 1))))) || over80 ((s.lpu i).acc1 + (-(2 * ((s.lpu i).q ca * (s.lpu i).q (cb + 1))) + 2 * ((s.lpu i).q (ca + 1) * (s.lpu i).q cb)))))) ∧
    (ca.val % 2 = 0 → ∃ t, exec (.lpuCmulp i ca last) s = .next t ∧ s.lpuGives t i last ((s.lpu i).with [(s.lpu i).resA 2 false (satTo 80 (2 * ((s.lpu i).q ca * (s.lpu i).p0) - (2 * ((s.lpu i).q (ca + 1) * (s.lpu i).p1)))), (s.lpu i).resA 2 true (satTo 80 (2 * ((s.lpu i).q ca * (s.lpu i).p1) + 2 * ((s.lpu i).q (ca + 1) * (s.lpu i).p0)))] (over80 (2 * ((s.lpu i).q ca * (s.lpu i).p0) - (2 * ((s.lpu i).q (ca + 1) * (s.lpu i).p1))) || over80 (2 * ((s.lpu i).q ca * (s.lpu i).p1) + 2 * ((s.lpu i).q (ca + 1) * (s.lpu i).p0))))) ∧
    (∃ t, exec (.lpuAdda i acc last) s = .next t ∧ s.lpuGives t i last ((s.lpu i).with [(s.lpu i).resA 1 acc (satTo 80 ((s.lpu i).acc0 + (s.lpu i).acc1))] (over80 ((s.lpu i).acc0 + (s.lpu i).acc1)))) ∧
    (∀ k : Int, (s.lpu i).csh sh = some k → 0 ≤ k → ∃ t, exec (.lpuSha i acc sh last) s = .next t ∧ s.lpuGives t i last ((s.lpu i).with [(s.lpu i).resA 1 acc (satTo 80 ((s.lpu i).accOf acc * 2 ^ k.toNat))] (over80 ((s.lpu i).accOf acc * 2 ^ k.toNat)))) ∧
    (∀ k : Int, (s.lpu i).csh sh = some k → k < 0 → ∃ (t : State) (v : Int), exec (.lpuSha i acc sh last) s = .next t ∧ (v = (s.lpu i).accOf acc / 2 ^ (-k).toNat ∨ ((s.lpu i).accOf acc % 2 ^ (-k).toNat ≠ 0 ∧ v = (s.lpu i).accOf acc / 2 ^ (-k).toNat + 1)) ∧
      (s.drawn 1).lpuGives t i last ((s.lpu i).with [(s.lpu i).resA 1 acc (satTo 80 v)] (over80 v))) ∧
    (ca.val % 2 = 1 → (s.lpu i).run = none → ∃ t, exec (.lpuCmul i ca cb last) s = .next t ∧ t.fld (LPU_PFAULT i) 3 0 = 4 ∧ t.lpus = s.lpus)

/-- SINCOS, ATAN2, RECIP and RSQRT issue their result with latency 4, 6, 8 and 8: an issue of ATAN2 first waits until its unit has been free for 2 cycles since its last issue, of RECIP and RSQRT for 4; SINCOS and ATAN2 within 2^-24 of the exact value, RECIP 2^47 / CA and RSQRT the root of 2^63 / CA in units of 2^-16 up to the last bit where that is not exact, RECIP of 0 the largest value, RSQRT of a value not above 0 the value 0x7FFF_FFFF; within that bound the value is free, and so is ATAN2 of the origin. ADD64 and SUB64 work on even pairs and wrap, MULFRAC gives the low 32 bits of the product of a pair plus CD. Where the rules leave a point open, the clauses follow the choice of the model (logs 25, 56). -/
def Obligations.LpuFunctionUnits : Prop :=
  ∀ (i : Fin 9) (cd ca cb : Fin 64) (last : Bool) (s : State),
    (∃ (t : State) (e f : Int), exec (.lpuSincos i cd ca last) s = .next t ∧ e.natAbs < 128 ∧ f.natAbs < 128 ∧ (s.drawn 2).lpuGives t i last ((s.lpu i).with
      ((s.lpu i).res 4 cd (satTo 32 ((cosSin ((s.lpu i).dreg ca).toNat).1 / 2 ^ 31 + e)) :: (if cd.val = 63 then [] else [(s.lpu i).res 4 (cd + 1) (satTo 32 ((cosSin ((s.lpu i).dreg ca).toNat).2 / 2 ^ 31 + f))]))
      (over31 ((cosSin ((s.lpu i).dreg ca).toNat).1 / 2 ^ 31 + e) || over31 ((cosSin ((s.lpu i).dreg ca).toNat).2 / 2 ^ 31 + f)))) ∧
    (∀ k iv : Nat, ((s.lpuFu i k iv).lpu i).cyc = max (s.lpu i).cyc ((s.lpu i).fu.getD k 0) ∧ ((s.lpuFu i k iv).lpu i).fu = (s.lpu i).fu.set k (((s.lpuFu i k iv).lpu i).cyc + iv)) ∧
    (∀ u : State, u = s.lpuFu i 0 2 →
      (¬((u.lpu i).q ca = 0 ∧ (u.lpu i).q cb = 0) → ∃ (t : State) (e : Int), exec (.lpuAtan2 i cd ca cb last) s = .next t ∧ e.natAbs < 128 ∧ (u.drawn 1).lpuGives t i last ((u.lpu i).with [(u.lpu i).res 6 cd (satTo 32 (atan2Turn ((u.lpu i).q cb) ((u.lpu i).q ca) / 2 ^ 31 + e))]
        (over31 (atan2Turn ((u.lpu i).q cb) ((u.lpu i).q ca) / 2 ^ 31 + e)))) ∧
      ((u.lpu i).q ca = 0 → (u.lpu i).q cb = 0 → ∃ (t : State) (v : Int), exec (.lpuAtan2 i cd ca cb last) s = .next t ∧ (u.drawn 1).lpuGives t i last ((u.lpu i).with [(u.lpu i).res 6 cd v] false))) ∧
    (∀ u : State, u = s.lpuFu i 1 4 →
      ((u.lpu i).q ca ≠ 0 → ∃ (t : State) (v : Int), exec (.lpuRecip i cd ca last) s = .next t ∧ (v = recipFloor ((u.lpu i).q ca) ∨ (2 ^ 47 % (u.lpu i).q ca ≠ 0 ∧ v = recipFloor ((u.lpu i).q ca) + 1)) ∧ (u.drawn 1).lpuGives t i last ((u.lpu i).with [(u.lpu i).res 8 cd (satTo 32 v)] (over31 v))) ∧
      ((u.lpu i).q ca = 0 → ∃ t : State, exec (.lpuRecip i cd ca last) s = .next t ∧ (u.drawn 1).lpuGives t i last ((u.lpu i).with [(u.lpu i).res 8 cd 0x7FFFFFFF] true))) ∧
    (∀ u : State, u = s.lpuFu i 2 4 →
      (0 < (u.lpu i).q ca → ∃ (t : State) (v : Nat), exec (.lpuRsqrt i cd ca last) s = .next t ∧ (v = isqrt (2 ^ 63 / ((u.lpu i).q ca).toNat) ∨ (v = isqrt (2 ^ 63 / ((u.lpu i).q ca).toNat) + 1 ∧ isqrt (2 ^ 63 / ((u.lpu i).q ca).toNat) * isqrt (2 ^ 63 / ((u.lpu i).q ca).toNat) * ((u.lpu i).q ca).toNat ≠ 2 ^ 63)) ∧
        (u.drawn 1).lpuGives t i last ((u.lpu i).with [(u.lpu i).res 8 cd v] false)) ∧
      ((u.lpu i).q ca ≤ 0 → ∃ t : State, exec (.lpuRsqrt i cd ca last) s = .next t ∧ (u.drawn 1).lpuGives t i last ((u.lpu i).with [(u.lpu i).res 8 cd 0x7FFFFFFF] false))) ∧
    (cd.val % 2 = 0 → ca.val % 2 = 0 → cb.val % 2 = 0 → (∃ t, exec (.lpuAdd64 i cd ca cb last) s = .next t ∧ s.lpuGives t i last ((s.lpu i).with [(s.lpu i).res 1 cd (wrapTo 32 ((s.lpu i).pair ca + (s.lpu i).pair cb : Nat)), (s.lpu i).res 1 (cd + 1) (wrapTo 32 (((s.lpu i).pair ca + (s.lpu i).pair cb : Nat) / 2 ^ 32))] false)) ∧
      (∃ t, exec (.lpuSub64 i cd ca cb last) s = .next t ∧ s.lpuGives t i last ((s.lpu i).with [(s.lpu i).res 1 cd (wrapTo 32 (((s.lpu i).pair ca : Int) - (s.lpu i).pair cb)), (s.lpu i).res 1 (cd + 1) (wrapTo 32 ((((s.lpu i).pair ca : Int) - (s.lpu i).pair cb) / 2 ^ 32))] false))) ∧
    (ca.val % 2 = 0 → ∃ t, exec (.lpuMulfrac i cd ca cb last) s = .next t ∧ s.lpuGives t i last ((s.lpu i).with [(s.lpu i).res 2 cd (((s.lpu i).pair ca * ((s.lpu i).dreg cb).toNat + ((s.lpu i).dreg cd).toNat) % 2 ^ 32 : Nat)] false))

/-- CNOP takes one cycle; DO and DOR open a loop level (a fourth is program fault 5); BR, CALL and RET take three cycles and go to their target, BRN and BRZ when N or Z is set; LDI and LDIH write a register; SETA an address, base, length or modifier register; SETSR its fields, clearing V on request; BLK ends a pass of a block, stepping BS down (at −8 setting V instead) and BEXP up where the pass has grown; END gives the run’s output. Where the rules leave a point open, the clauses follow the choice of the model (log 56). -/
def Obligations.LpuControl : Prop :=
  ∀ (i : Fin 9) (c ea sa tg : Fin 4096) (cr : Fin 64) (k : Fin 8) (w : Fin 4) (rot r2 : Bool) (sd1 : Fin 8) (imm v24 : BitVec 24) (b8 : BitVec 8) (v16 : BitVec 16) (s : State),
    ((s.lpu i).loops = [] → (∃ t, exec (.lpuCnop i) s = .next t ∧ (t.lpu i).pc = ((s.lpu i).pc + 1) % 4096 ∧ (t.lpu i).cyc = (s.lpu i).cyc + 1 + (if (s.lpu i).stall then 1 else 0)) ∧
      (∃ t, exec (.lpuBr i tg) s = .next t ∧ (t.lpu i).pc = tg ∧ (t.lpu i).cyc = (s.lpu i).cyc + 3 + (if (s.lpu i).stall then 1 else 0)) ∧
      (∃ t, exec (.lpuBrn i tg) s = .next t ∧ (t.lpu i).pc = (if (s.lpu i).n then tg.val else ((s.lpu i).pc + 1) % 4096) ∧ (t.lpu i).cyc = (s.lpu i).cyc + (if (s.lpu i).n then 3 else 1) + (if (s.lpu i).stall then 1 else 0)) ∧
      (∃ t, exec (.lpuBrz i tg) s = .next t ∧ (t.lpu i).pc = (if (s.lpu i).z then tg.val else ((s.lpu i).pc + 1) % 4096) ∧ (t.lpu i).cyc = (s.lpu i).cyc + (if (s.lpu i).z then 3 else 1) + (if (s.lpu i).stall then 1 else 0)) ∧
      ((s.lpu i).stack.length < 8 → ∃ t, exec (.lpuCall i tg) s = .next t ∧ (t.lpu i).pc = tg ∧ (t.lpu i).stack = ((s.lpu i).pc + 1) % 4096 :: (s.lpu i).stack) ∧
      (∀ (a : Nat) (r : List Nat), (s.lpu i).stack = a :: r → ∃ t, exec (.lpuRet i) s = .next t ∧ (t.lpu i).pc = a % 4096 ∧ (t.lpu i).stack = r) ∧
      ((s.lpu i).pend = [] → (s.lpu i).d.length = 64 → (∃ t, exec (.lpuLdi i cr imm) s = .next t ∧ (t.lpu i).dreg cr = BitVec.signExtend 32 imm) ∧
        (∃ t, exec (.lpuLdih i cr b8) s = .next t ∧ (t.lpu i).dreg cr = BitVec.ofNat 32 (b8.toNat * 2 ^ 24 + ((s.lpu i).dreg cr).toNat % 2 ^ 24)))) ∧
    ((s.lpu i).stack.length = 8 → (s.lpu i).run = none → ∃ t, exec (.lpuCall i tg) s = .next t ∧ t.fld (LPU_PFAULT i) 3 0 = 6 ∧ t.lpus = s.lpus) ∧
    ((s.lpu i).loops.length < 3 → (s.lpu i).pc ≠ ea → 0 < c.val → (rot = true → sd1.val < c.val ∧ (s.lpu i).loops.any LoopLvl.rot = false) → ∃ t, exec (.lpuDo i c ea sa rot r2 sd1) s = .next t ∧
      (t.lpu i).loops = ⟨sa, ea, c, 0, rot, if r2 then 2 else 1, sd1 + 1⟩ :: (s.lpu i).loops ∧ (t.lpu i).pc = ((s.lpu i).pc + 1) % 4096) ∧
    ((s.lpu i).loops.length < 3 → (s.lpu i).pc ≠ ea → 0 < ((s.lpu i).dreg cr).toNat % 4096 → (rot = true → sd1.val < ((s.lpu i).dreg cr).toNat % 4096 ∧ (s.lpu i).loops.any LoopLvl.rot = false) → ∃ t, exec (.lpuDor i cr ea sa rot r2 sd1) s = .next t ∧
      (t.lpu i).loops = ⟨sa, ea, ((s.lpu i).dreg cr).toNat % 4096, 0, rot, if r2 then 2 else 1, sd1 + 1⟩ :: (s.lpu i).loops) ∧
    ((s.lpu i).loops.length = 3 → (s.lpu i).run = none → ∃ t, exec (.lpuDo i c ea sa rot r2 sd1) s = .next t ∧ t.fld (LPU_PFAULT i) 3 0 = 5 ∧ t.lpus = s.lpus) ∧
    (∃ t, exec (.lpuSeta i k w v16) s = .next t ∧ (t.lpu i).a = (if w = 0 then (s.lpu i).a.set k v16.toNat else (s.lpu i).a) ∧ (t.lpu i).b = (if w = 1 then (s.lpu i).b.set k v16.toNat else (s.lpu i).b) ∧
      (t.lpu i).l = (if w = 2 then (s.lpu i).l.set k v16.toNat else (s.lpu i).l) ∧ (t.lpu i).m = (if w = 3 then (s.lpu i).m.set k v16.toNat else (s.lpu i).m)) ∧
    (∃ t, exec (.lpuSetsr i v24) s = .next t ∧ (t.lpu i).msh = signedOf 5 v24.toNat ∧ (t.lpu i).blk = v24.getLsbD 5 ∧ (t.lpu i).bs = signedOf 4 (v24.toNat / 64) ∧ (t.lpu i).bexp = v24.toNat / 1024 % 64 ∧
      (t.lpu i).v = ((s.lpu i).v && !v24.getLsbD 16) ∧ (t.lpu i).grow = (s.lpu i).grow) ∧
    ((s.lpu i).grow = true → (s.lpu i).bs ≠ -8 → ∃ t, exec (.lpuBlk i) s = .next t ∧ (t.lpu i).bs = (s.lpu i).bs - 1 ∧ (t.lpu i).bexp = ((s.lpu i).bexp + 1) % 64 ∧ (t.lpu i).grow = false ∧ (t.lpu i).v = (s.lpu i).v) ∧
    ((s.lpu i).grow = true → (s.lpu i).bs = -8 → ∃ t, exec (.lpuBlk i) s = .next t ∧ (t.lpu i).bs = -8 ∧ (t.lpu i).bexp = ((s.lpu i).bexp + 1) % 64 ∧ (t.lpu i).v = true ∧ (t.lpu i).grow = false) ∧
    ((s.lpu i).grow = false → ∃ t, exec (.lpuBlk i) s = .next t ∧ (t.lpu i).bs = (s.lpu i).bs ∧ (t.lpu i).bexp = (s.lpu i).bexp ∧ (t.lpu i).v = (s.lpu i).v) ∧
    (∀ (p prog c0 : Nat) (n : Fin 64), (s.lpu i).run = some (p, prog, c0) → s.slotAt i p = some n.val → (s.lpu i).cyc + 2 < 2 ^ 32 → ∃ t, exec (.lpuEnd i) s = .next t ∧ (t.lpu i).run = none ∧ (t.servo n).doneAt = some s.dt ∧
      (s.lpu i).cyc + 1 - c0 ≤ (t.rd (LPU_RUN_MAX i)).toNat)

/-- A load issues the word, or the pair, at the address register of its bus into its register with latency 1, a store writes the scaled register or accumulator to its local memory and to no other byte, MOD and every move advance the address register by its modifier; P_FETCH reads a word pair of the P region into PL0 and PL1. In a rotating loop the moves that its depth suppresses only advance the address, wherever it points. A load from outside the region of its bus is program fault 3, an odd pair of P_FETCH program fault 4; neither changes the LPU or its memory. Where the rules leave a point open, the clauses follow the choice of the model (log 56). -/
def Obligations.LpuBusMoves : Prop :=
  ∀ (i : Fin 9) (y last : Bool) (k : Fin 8) (d : Fin 64) (a : Nat) (s : State), s.memOk → (s.lpu i).a.getD k 0 = a →
    (inBus y a = true → (s.lpu i).suppressed false = false → ∃ t, exec (.lpuLd i y k d last) s = .next t ∧
      s.lpuGives t i last (({ (s.lpu i) with pend := (s.lpu i).pend ++ [⟨(s.lpu i).cyc + 1, (s.lpu i).cyc, busPri y, .d ((s.lpu i).phys d), s.lpuWord i a⟩] } : Lpu).bump k)) ∧
    (a % 2 = 0 → d.val % 2 = 0 → inBus y a = true → inBus y ((s.lpu i).wrapA k (a + 1)) = true → (s.lpu i).suppressed false = false → ∃ t, exec (.lpuLdp i y k d last) s = .next t ∧
      s.lpuGives t i last (({ (s.lpu i) with pend := (s.lpu i).pend ++ [⟨(s.lpu i).cyc + 1, (s.lpu i).cyc, busPri y, .d ((s.lpu i).phys d), s.lpuWord i a⟩, ⟨(s.lpu i).cyc + 1, (s.lpu i).cyc, busPri y, .d ((s.lpu i).phys (d + 1)), s.lpuWord i ((s.lpu i).wrapA k (a + 1))⟩] } : Lpu).bump k)) ∧
    ((s.lpu i).suppressed false = true → ∃ t, exec (.lpuLd i y k d last) s = .next t ∧ s.lpuGives t i last ((s.lpu i).bump k)) ∧
    (inBus y a = true → (s.lpu i).suppressed true = false →
      (∃ t, exec (.lpuSt i y k d last) s = .next t ∧ t.lpuWord i a = moved ((s.lpu i).q d) ((s.lpu i).scale (s.lpu i).msh) 0 ∧ (∀ x : Nat, x < lpuMem i + 4 * a ∨ lpuMem i + 4 * a + 4 ≤ x → t.byteAt x = s.byteAt x) ∧
        t = { s with mem := t.mem, lpus := t.lpus } ∧ (last = false → (t.lpu i).a = ((s.lpu i).bump k).a ∧ (t.lpu i).v = ((s.lpu i).v || over31 (roundShift ((s.lpu i).q d) ((s.lpu i).scale (s.lpu i).msh) 0)))) ∧
      (d.val < 2 → ∃ t, exec (.lpuSta i y k d last) s = .next t ∧ t.lpuWord i a = moved ((s.lpu i).accOf (d.val == 1)) ((s.lpu i).scale (s.lpu i).msh) 32 ∧
        (∀ x : Nat, x < lpuMem i + 4 * a ∨ lpuMem i + 4 * a + 4 ≤ x → t.byteAt x = s.byteAt x) ∧ t = { s with mem := t.mem, lpus := t.lpus }) ∧
      (a % 2 = 0 → inBus y (a + 1) = true → (s.lpu i).wrapA k (a + 1) = a + 1 → (d.val % 2 = 0 → ∃ t, exec (.lpuStp i y k d last) s = .next t ∧ t.lpuWord i a = moved ((s.lpu i).q d) ((s.lpu i).scale (s.lpu i).msh) 0 ∧
          t.lpuWord i (a + 1) = moved ((s.lpu i).q (d + 1)) ((s.lpu i).scale (s.lpu i).msh) 0 ∧ (∀ x : Nat, x < lpuMem i + 4 * a ∨ lpuMem i + 4 * a + 8 ≤ x → t.byteAt x = s.byteAt x)) ∧
        (∃ t, exec (.lpuStap i y k last) s = .next t ∧ t.lpuWord i a = moved (s.lpu i).acc0 ((s.lpu i).scale (s.lpu i).msh) 32 ∧ t.lpuWord i (a + 1) = moved (s.lpu i).acc1 ((s.lpu i).scale (s.lpu i).msh) 32 ∧
          (∀ x : Nat, x < lpuMem i + 4 * a ∨ lpuMem i + 4 * a + 8 ≤ x → t.byteAt x = s.byteAt x)))) ∧
    ((s.lpu i).suppressed true = true → ∃ t, exec (.lpuSt i y k d last) s = .next t ∧ s.lpuGives t i last ((s.lpu i).bump k)) ∧
    (∃ t, exec (.lpuMod i k last) s = .next t ∧ s.lpuGives t i last ((s.lpu i).bump k)) ∧
    (a % 2 = 0 → 4 * a < 0x8000 → 4 * (s.lpu i).wrapA k (a + 1) < 0x8000 → ∃ t, exec (.lpuPFetch i k last) s = .next t ∧ s.lpuGives t i last (({ (s.lpu i) with
      pend := (s.lpu i).pend ++ [⟨(s.lpu i).cyc + 1, (s.lpu i).cyc, 0, .pl false, s.lpuWord i a⟩, ⟨(s.lpu i).cyc + 1, (s.lpu i).cyc, 0, .pl true, s.lpuWord i ((s.lpu i).wrapA k (a + 1))⟩], stall := (s.lpu i).stall || !(s.lpu i).cached } : Lpu).bump k)) ∧
    ((s.lpu i).run = none → (inBus y a = false → (s.lpu i).suppressed false = false → ∃ t, exec (.lpuLd i y k d last) s = .next t ∧ t.fld (LPU_PFAULT i) 3 0 = 3 ∧ t.lpus = s.lpus ∧ t.mem = s.mem) ∧
      (a % 2 = 1 → ∃ t, exec (.lpuPFetch i k last) s = .next t ∧ t.fld (LPU_PFAULT i) 3 0 = 4 ∧ t.lpus = s.lpus ∧ t.mem = s.mem))

/-- LIB_LOAD of an image that passes its checks, with no loop in motion and no rotation, makes its directory the library; else it is refused. A rotation that may start gives the group of its target LPU to the spare, and one whose interval has not elapsed does not start. A migration moves the next position with its assignment to the target LPU, a late one is counted and postponed. A fallow ends as the spare or, failed, retired. A request of an LPU other than the spare waits in the queue; that of the spare is served at once where a rotation may start. A debug halt is refused in PRODUCE. A requester that has waited past its limit is promoted and counted. Where the rules leave a point open, the clauses follow the choice of the model (logs 44, 46, 59). -/
def Obligations.LpuScheduler : Prop :=
  ∀ (sig : Bool) (i sp : Fin 9) (v : BitVec 9) (unit : Fin 8) (slack : BitVec 16) (s : State),
    (s.loopsMove = false → s.rotating = false → s.libOk (s.rd (LPU_LIB_ADDR 0)).toNat sig = true → ∃ t, exec (.libLoad sig) s = .next t ∧
      t.sched.lib = ((List.range (s.memNat ((s.rd (LPU_LIB_ADDR 0)).toNat + 6) 2)).map fun k => s.dirEntry ((s.rd (LPU_LIB_ADDR 0)).toNat + 64 + 32 * k)) ∧
      t.rd (LPU_LIB_INFO 0) = BitVec.ofNat 32 (s.memNat ((s.rd (LPU_LIB_ADDR 0)).toNat + 8) 4 + s.memNat ((s.rd (LPU_LIB_ADDR 0)).toNat + 6) 2 * 65536)) ∧
    (s.loopsMove = true ∨ s.rotating = true → ∃ t, exec (.libLoad sig) s = .next t ∧ t.sched = s.sched ∧ t.mem = s.mem ∧ t.rd (lpuPage 0 + 0x1C) = errCapNext (s.rd (lpuPage 0 + 0x1C)) .state 129) ∧
    (s.rotEnabled = true → s.mayRotate = true → s.rotTarget = some i.val → s.spareLpu = some sp.val → i ≠ sp → s.usedPositions i ≠ [] →
      (∃ t, exec .rotNow s = .next t ∧ t.roleOf i = 2 ∧ t.roleOf sp = 3 ∧ t.sched.move = some (i.val, sp.val, s.usedPositions i, false) ∧ t.sched.lastRot = s.dt) ∧
      (s.sched.lastRot + s.rotInterval ≤ s.dt → ∃ t, exec .rotationStart s = .next t ∧ t.roleOf i = 2 ∧ t.roleOf sp = 3 ∧ t.sched.move = some (i.val, sp.val, s.usedPositions i, false))) ∧
    (s.bit (LPU_SCHED_STAT 0) 17 = false → s.dt < s.sched.lastRot + s.rotInterval → exec .rotationStart s = .next s) ∧
    (∀ (p : Fin 8) (q : Nat) (rest : List Nat) (fo : Bool), i ≠ sp → s.sched.move = some (i.val, sp.val, p.val :: q :: rest, fo) →
      ((s.servo (s.actFld (LPU_ASSIGN i p) 5 0)).inProgress s.dt = false → s.sched.unreadable = [] → ∃ t, exec (.slotMigration false) s = .next t ∧ t.sched.move = some (i.val, sp.val, q :: rest, fo) ∧
        t.act (LPU_ASSIGN sp p) = s.act (LPU_ASSIGN i p) ∧ t.actBit (LPU_ASSIGN i p) 7 = false) ∧
      (∃ t, exec (.slotMigration true) s = .next t ∧ t.sched = s.sched ∧ t.mem = s.mem ∧ t.fld (LPU_MIG_CNT 0) 31 16 = min 65535 (s.fld (LPU_MIG_CNT 0) 31 16 + 1))) ∧
    (s.roleOf i = 4 → (∃ t, exec (.fallowEnd i 0 slack) s = .next t ∧ t.roleOf i = 1 ∧ t.lpu i = Lpu.reset ∧ t.rd64 (LPU_TEST_T_LO i) = s.dt % 2 ^ 64) ∧
      (unit ≠ 0 → ∃ t, exec (.fallowEnd i unit slack) s = .next t ∧ t.roleOf i = 5 ∧ t.lpuRetired i = true)) ∧
    (s.roleOf i ≠ 4 → exec (.fallowEnd i unit slack) s = .next s) ∧
    (v.getLsbD i = true → s.lpuRetired i = false → s.roleOf i ≠ 1 → (∃ t, exec (.testReqWrite v) s = .next t ∧ (i.val, false) ∈ t.sched.queue ∧ t.bit (LPU_TEST_REQ 0) i = true) ∧
      (∃ t, exec (.calReqWrite v) s = .next t ∧ (i.val, true) ∈ t.sched.queue ∧ t.bit (LPU_CAL_REQ 0) i = true)) ∧
    (s.lpuRetired i = false → s.roleOf i = 1 → s.mayRotate = true → (∃ t, exec (.testReqWrite (BitVec.ofNat 9 (2 ^ i.val))) s = .next t ∧ t.roleOf i = 4 ∧ t.bit (LPU_TEST_REQ 0) i = false) ∧
      (∃ t, exec (.calReqWrite (BitVec.ofNat 9 (2 ^ i.val))) s = .next t ∧ t.roleOf i = 4 ∧ t.bit (LPU_CAL_REQ 0) i = false)) ∧
    (∀ bad : List (Fin 8), s.roleOf i = 0 → s.spareLpu = some sp.val → (∀ n ∈ s.lpuSlots i, (s.servo n).inProgress s.dt = false) → s.usedPositions i ≠ [] → ∃ u : State, u.roleOf i = 5 ∧ u.lpuRetired i = true ∧
      u.roleOf sp = 3 ∧ u.sched.move = some (i.val, sp.val, s.usedPositions i, true) ∧ u.sched.unreadable = bad.map Fin.val ∧
      exec (.lpuFailure i bad) s = .next (u.each (s.lpuSlots i) fun n st => st.faultFrom n (st.lpuClass 2 0) none).refreshReq) ∧
    (s.inProduce = false → ∃ t, exec (.lpuDebugHalt i) s = .next t ∧ t.lpu i = { s.lpu i with halted := true }) ∧
    (s.inProduce = true → ∃ t, exec (.lpuDebugHalt i) s = .next t ∧ t.lpus = s.lpus ∧ t.rd (lpuPage i + 0x1C) = errCapNext (s.rd (lpuPage i + 0x1C)) .access 16) ∧
    (∀ (arb : Fin 4) (r : Fin 8) (w : W32), s.fld (trumpRegs arb i r).2.1 31 16 ≠ 0 → s.fld (trumpRegs arb i r).2.1 31 16 * 4000 < w.toNat → ∃ t, exec (.trumpPromotion arb i r w) s = .next t ∧
      t.fld (trumpRegs arb i r).1 15 0 = min 65535 (s.fld (trumpRegs arb i r).1 15 0 + 1) ∧ (arb.val, i.val, r.val) ∈ t.promoted)

/-- A write of LINK_CTL with EN 0 silences the link, with EN 1 starts one that is OFF in DOWN, and a limit written 0 stores 1. Sync takes a link from DOWN to ALIGN with no delay and a message channel at its start, the complete messages received waiting as before; its loss keeps the frame schedule, a retraining ends it. A link that sends and owes no repetition for a lost crosslink, at the instant of a frame, sends the frame that its state gives, with the CRC of its bytes, and advances SEQ and the frame count by one; one that does not send, or whose frame is not due, sends nothing. CLR goes with the next frame, IDENT_REQ joins the messages to send. Where the rules leave a point open, the clauses follow the choice of the model (logs 8, 46, 54). -/
def Obligations.LinkCommandsChangeState : Prop :=
  ∀ (k : Fin 32) (inv : Bool) (v : W32) (s : State),
    (∃ t, exec (.linkCtlWrite k v) s = .next t ∧ t.fld (SLK_LINK_CTL k) 2 0 = fldOf v 2 0 ∧ t.fld (SLK_LINK_CTL k) 11 8 = max 1 (fldOf v 11 8) ∧ t.fld (SLK_LINK_CTL k) 15 12 = max 1 (fldOf v 15 12) ∧
      (bitOf v 0 = false → t.linkState k = 0 ∧ (t.link k).waiting = [] ∧ (t.link k).ulSeq = none ∧ (t.link k).dlSeq = (s.link k).dlSeq) ∧
      (bitOf v 0 = true → t.linkState k = if s.linkState k = 0 then 1 else s.linkState k)) ∧
    (s.linkState k = 1 → ∃ t, exec (.syncAcquired ⟨k.val, by omega⟩ inv) s = .next t ∧ t.linkState k = 2 ∧ t.bit (SLK_LINK_STAT k) 3 = inv ∧ t.rd (SLK_DELAY k) = 0xFFFF ∧
      (t.link k).txSent = 0 ∧ (t.link k).txCredit = 0 ∧ (t.link k).rxMsg = [] ∧ (t.link k).rxDone = (s.link k).rxDone ∧ (t.link k).delays = []) ∧
    (2 ≤ s.linkState k → (∃ t, exec (.syncLost ⟨k.val, by omega⟩) s = .next t ∧ t.linkState k = 1 ∧ (t.link k).schedule = true ∧ (t.link k).waiting = (s.link k).waiting) ∧
      (∃ t, exec (.linkRetrain k) s = .next t ∧ t.linkState k = 1 ∧ (t.link k).schedule = false ∧ (t.link k).waiting = [])) ∧
    (s.linkState k < 2 → exec (.syncLost ⟨k.val, by omega⟩) s = .next s ∧ exec (.linkRetrain k) s = .next s) ∧
    (s.sends k = true → s.dlDue k = true → (s.link k).resend = false → s.bit (slkPage k + 0x02C) 3 = true → ∃ t, exec (.dlFrameSend k) s = .next t ∧ (t.link k).lastDl = s.dlFrame k ∧ (t.link k).dlSeq = ((s.link k).dlSeq + 1) % 65536 ∧
      (t.link k).clear = false ∧ t.fld (SLK_CNT_FRM k) 31 16 = (s.fld (SLK_CNT_FRM k) 31 16 + 1) % 65536 ∧ ∃ body, s.dlFrame k = body ++ leBytes 4 (crc32 body)) ∧
    (s.sends k = false ∨ (s.dlDue k = false ∧ (s.link k).resend = false) → exec (.dlFrameSend k) s = .next s) ∧
    (∃ t, exec (.linkClear k) s = .next t ∧ t = s.setLink k { s.link k with clear := true }) ∧
    (∃ t, exec (.linkIdentReq k) s = .next t ∧ t = s.setLink k { s.link k with txQueue := (s.link k).txQueue ++ [(false, [2, 0, 0, 0])] })

/-- With no injection on the uplink, a frame of the right length and kind with a bad CRC is counted and dropped, a valid one whose SEQ is not newer is counted and dropped after its delay measurement, and an accepted one gives its SEQ, its bus voltage and its temperature, is counted and ends a run of misses, before the units behind the link take it. A missing frame leaves the list of those expected and counts; the first of a run with LOSS_LIM or more takes the torque of the bound slots and the link to ALIGN. A message of 4 to 512 bytes is queued with BUSY; a received one is pushed as entries where its silo has room. A write of INJ outside the lock arms. Where the rules leave a point open, the clauses follow the choice of the model (logs 8, 54). -/
def Obligations.LinkFramesAndMessages : Prop :=
  ∀ (k : Fin 32) (t4 v : W32) (d : List Byte) (s : State),
    (s.bit (slkPage k + 0x02C) 3 = false → 2 ≤ s.linkState k → d.length = (if (d.getD 0 0).toNat / 32 % 2 = 1 then 78 else 62) → (d.getD 0 0).toNat % 16 = 1 →
      (leNat (d.drop (d.length - 4)) ≠ crc32 (d.take (d.length - 4)) → ∃ t, exec (.ulFrameReceived k t4 d) s = .next t ∧ t.fld (SLK_CNT_ERR k) 7 0 = min 255 (s.fld (SLK_CNT_ERR k) 7 0 + 1) ∧ t.links = s.links) ∧
      (leNat (d.drop (d.length - 4)) = crc32 (d.take (d.length - 4)) →
        (∀ l, (s.link k).ulSeq = some l → newer16 (leNat (cutAt d 1 2)) l = false → exec (.ulFrameReceived k t4 d) s = .next (((s.ulValid k t4.toNat true d).linkErr k 31 24).linkAdvance k) ∧
          (s.linkState k = 4 → leNat (cutAt d 4 3) = 0xFFFFFF → ∃ t, exec (.ulFrameReceived k t4 d) s = .next t ∧ t.fld (SLK_CNT_ERR k) 31 24 = min 255 (s.fld (SLK_CNT_ERR k) 31 24 + 1) ∧ t.links = s.links)) ∧
        ((s.link k).ulSeq = none ∨ (∃ l, (s.link k).ulSeq = some l ∧ newer16 (leNat (cutAt d 1 2)) l = true) → ∃ u : State,
          (u.link k).ulSeq = some (leNat (cutAt d 1 2)) ∧ u.fld (SLK_CNT_FRM k) 15 0 = (s.fld (SLK_CNT_FRM k) 15 0 + 1) % 65536 ∧ u.fld (SLK_LINK_STAT k) 27 24 = 0 ∧
          u.rd (SLK_VBUS k) = BitVec.ofNat 32 (leNat (cutAt d 7 2) * (s.rd (SLK_STAGE_VFS k)).toNat / 1000) ∧ u.fld (SLK_TEMP k) 15 0 = leNat (cutAt d 9 2) ∧ u.mem = s.mem ∧
          exec (.ulFrameReceived k t4 d) s = .next (u.ulFurther k (s.ulInstant k d).2 (s.ulInstant k d).1 d)))) ∧
    (∀ (w0 : Nat × Nat × Bool) (b t0 : Nat) (m : Bool) (rest : List (Nat × Nat × Bool)), (s.link k).waiting = w0 :: (b, t0, m) :: rest → t0 ≤ s.dt → ∃ u : State,
      (u.link k).waiting = (b, t0, m) :: rest ∧ u.fld (SLK_LINK_STAT k) 27 24 = min 15 (s.fld (SLK_LINK_STAT k) 27 24 + 1) ∧ u.fld (SLK_CNT_ERR k) 15 8 = min 255 (s.fld (SLK_CNT_ERR k) 15 8 + 1) ∧ u.linkState k = s.linkState k ∧
      (s.fld (SLK_LINK_STAT k) 27 24 + 1 < max 1 (s.fld (SLK_LINK_CTL k) 11 8) ∨ (s.link k).lossHit = true → exec (.ulFrameMissing k) s = .next u) ∧
      (max 1 (s.fld (SLK_LINK_CTL k) 11 8) ≤ s.fld (SLK_LINK_STAT k) 27 24 + 1 → (s.link k).lossHit = false → ∃ w : State, w = ((u.setLink k { u.link k with lossHit := true }).raise (slkPage k) 2).each (s.linkSlots k) (fun n st => st.faultFrom n .torqueOff (some .frameLoss)) ∧
        exec (.ulFrameMissing k) s = .next (if 3 ≤ w.linkState k then w.setLinkState k 2 else w))) ∧
    (∀ len : BitVec 10, s.bit (SLK_MSG_TX k) 17 = false → 4 ≤ len.toNat → len.toNat ≤ 512 → ∃ (t : State) (bytes : List Byte), exec (.slkMsgSend k len) s = .next t ∧ bytes.length = len.toNat ∧
      (∀ i : Fin 512, i.val < len.toNat → bytes.getD i 0 = (s.rd (SLK_MSG_TX_BUF k (i / 4))).extractLsb' (8 * (i % 4)) 8) ∧ (t.link k).txQueue = (s.link k).txQueue ++ [(true, bytes)] ∧ t.bit (SLK_MSG_TX k) 17 = true) ∧
    (∀ len : BitVec 10, s.bit (SLK_MSG_TX k) 17 = true → ∃ t, exec (.slkMsgSend k len) s = .next t ∧ t.links = s.links ∧ t.rd (slkPage k + 0x1C) = errCapNext (s.rd (slkPage k + 0x1C)) .busy 38) ∧
    (∀ (m : List Byte) (rest : List (List Byte)) (u : State), (s.link k).rxDone = m :: rest → s.bit (SLK_MSG_CTL k) 8 = true → s.pushMsg (s.fld (SLK_MSG_CTL k) 2 0) k 0 m = some u →
      ∃ t, exec (.slkMsgPush k) s = .next t ∧ t.silos = u.silos ∧ t.mem = u.mem ∧ (t.link k).rxDone = rest ∧ t.bit (evtPendAt (slkPage k)) 7 = true) ∧
    (s.bit (slkPage k + 4) 2 = false → fldOf v 2 0 < 5 → s.fld (SLK_INJ_ARG k) 15 8 ≤ 77 → ∃ t, exec (.slkInjArm k v) s = .next t ∧ t.fld (slkPage k + 0x2C) 2 0 = fldOf v 2 0 ∧
      t.fld (slkPage k + 0x2C) 23 16 = max 1 (fldOf v 23 16) ∧ (bitOf v 31 = true → (t.link k).injSkip = fldOf v 15 8 ∧ (t.link k).injLeft = max 1 (fldOf v 23 16))) ∧
    (s.bit (slkPage k + 4) 2 = true → ∃ t, exec (.slkInjArm k v) s = .next t ∧ t.links = s.links ∧ t.rd (slkPage k + 0x1C) = errCapNext (s.rd (slkPage k + 0x1C)) .locked 11)

/-- A frozen channel does nothing at a reload. A running timer reloads at the middle of its period, PERIOD × 2 ticks after its start or at the next point of its synchronous grid at the boundary, where PSTART moves on and the current samples are taken; a set that applies there leaves the queue (stated where no commutation is scheduled, which could follow it in the same field clock). A timer that is not enabled stops with its gates off, and a stopped timer starts at its instant. A commit whose PERIOD is out of range is refused; an accepted one waits as the pending set, applies at once on a stopped timer, or gives it its start. A leg that may not switch has both gates off, and one whose high side is due turns it on after its dead time. Where the rules leave a point open, the clauses follow the choice of the model (logs 46, 53, 62). -/
def Obligations.PwmReloadsAndLegs : Prop :=
  ∀ (c : Fin 6) (leg : Fin 3) (codes : List (BitVec 12)) (bemf : Option (BitVec 16)) (meas : Option (BitVec 8)) (bst : BitVec 16) (at_ : Option (BitVec 64)) (s : State),
    (s.bit (GDV_FLT_STAT c) 12 = true → exec (.pwmReload c codes bemf) s = .next s ∧ exec (.bstPreEnd c) s = .next s) ∧
    (s.bit (GDV_FLT_STAT c) 12 = false →
      (s.actBit (LDC_PWM_CTL c) 4 = false → 0 < s.pwmPeriod c → s.nextReload c = if (s.ldc c).midDone then (false, s.pstart c + 2 * s.pwmPeriod c) else (true, s.pstart c + s.pwmPeriod c)) ∧
      (∀ t1, (s.ldc c).running = true → s.nextReload c = (true, t1) → t1 ≤ s.dt → (s.ldc c).comAt = none →
        (s.commitOf (ldcPage c) = none → ∃ t, exec (.pwmReload c codes bemf) s = .next t ∧ t.rd64 (LDC_PSTART_LO c) = s.rd64 (LDC_PSTART_LO c) ∧
          (s.actBit (LDC_PWM_CTL c) 0 = true → (t.ldc c).running = true ∧ (t.ldc c).midDone = true) ∧ (s.actBit (LDC_PWM_CTL c) 0 = false → (t.ldc c).running = false ∧ (t.ldc c).gates % 64 = 0)) ∧
        (∀ k, s.commitOf (ldcPage c) = some k → s.setApplies c true t1 k = true → ∃ t, exec (.pwmReload c codes bemf) s = .next t ∧ t.commitOf (ldcPage c) = none ∧
          t.inForce = (s.putInForce (ldcPage c) k.vals).inForce)) ∧
      (∀ t1, (s.ldc c).running = true → s.nextReload c = (false, t1) → t1 ≤ s.dt → s.commitOf (ldcPage c) = none → (s.ldc c).cbcFired = false → (s.ldc c).comAt = none → s.actBit (LDC_PWM_CTL c) 0 = true →
        ∃ t, exec (.pwmReload c codes none) s = .next t ∧ (t.ldc c).running = true ∧ (t.ldc c).midDone = false ∧ (t.ldc c).duties0 = (t.ldc c).duties ∧
          t.rd64 (LDC_PSTART_LO c) = t1 % 2 ^ 64 ∧ t.rd (LDC_I_SMP0 c) = w32 (satTo 32 (s.takeSample c 0 (codes.map BitVec.toNat)[0]?).val)) ∧
      (∀ t0, (s.ldc c).running = false → (s.ldc c).startAt = some t0 → t0 ≤ s.dt → s.commitOf (ldcPage c) = none → s.actBit (LDC_PWM_CTL c) 0 = true → ∃ t, exec (.pwmReload c codes bemf) s = .next t ∧
        (t.ldc c).running = true ∧ (t.ldc c).startAt = none ∧ t.rd64 (LDC_PSTART_LO c) = t0 % 2 ^ 64) ∧
      (∀ t0, (s.ldc c).preEnd = some t0 → t0 ≤ s.dt → ∃ t, exec (.bstPreEnd c) s = .next t ∧ (t.ldc c).preEnd = none) ∧
      (s.permits c = false → ∃ t, exec (.pwmLegChange c leg none bst false) s = .next t ∧ (t.ldc c).gates / 4 ^ leg.val % 4 = 0) ∧
      (s.legWant c leg = (true, false) → (s.ldc c).active (2 * leg) = false → (s.ldc c).held / 2 ^ (2 * leg.val) % 2 = 0 → s.gateLatched c (2 * leg) = false → s.bstOk c leg (some bst.toNat) = true →
        ∃ t, exec (.pwmLegChange c leg none bst false) s = .next t ∧ (2 * leg.val, s.dt + 16 * (s.ldc c).dead.getD (2 * leg + 1) 0) ∈ (t.ldc c).due ∧ (t.ldc c).gates / 2 ^ (2 * leg.val + 1) % 2 = 0)) ∧
    (∀ m : BitVec 8, meas = some m → (s.ldc c).gates / 2 ^ (2 * leg.val) % 2 = 1 → (s.legWant c leg).1 = false → m.toNat ≤ s.fld (LDC_DT_CTL c) 15 8 →
      ∃ t, exec (.pwmLegChange c leg meas bst false) s = .next t ∧ t.fld (LDC_DT_ACT c leg) 23 16 = m.toNat) ∧
    (∃ u : State, u.fld (GDV_CNT_PROT c) 7 0 = min 255 (s.fld (GDV_CNT_PROT c) 7 0 + 1) ∧ (u.ldc c).gates / 4 ^ leg.val % 4 = 0 ∧ exec (.pwmLegChange c leg meas bst true) s = .next (u.protClass c (gdvPage c) 4 2 0)) ∧
    (fldOf (setVal (s.shadowVals (ldcPage c)) (LDC_PERIOD c)) 17 0 < 20000 ∨ 250000 < fldOf (setVal (s.shadowVals (ldcPage c)) (LDC_PERIOD c)) 17 0 → ∃ t, exec (.ldcCommitArrival c at_) s = .next t ∧
      t.commits = s.commits ∧ t.ldcs = s.ldcs ∧ t.rd (ldcPage c + 0x1C) = errCapNext (s.rd (ldcPage c + 0x1C)) .commit 17) ∧
    (20000 ≤ fldOf (setVal (s.shadowVals (ldcPage c)) (LDC_PERIOD c)) 17 0 → fldOf (setVal (s.shadowVals (ldcPage c)) (LDC_PERIOD c)) 17 0 ≤ 250000 → fldOf (setVal (s.shadowVals (ldcPage c)) (LDC_PWM_CTL c)) 3 2 ≠ 3 →
      ∃ t, exec (.ldcCommitArrival c at_) s = .next t ∧
      ((s.ldc c).running = true → (t.commitOf (ldcPage c)).isSome = true ∧ (t.ldc c).arrived.isSome = true ∧ t.inForce = s.inForce) ∧
      ((s.ldc c).running = false → bitOf (setVal (s.shadowVals (ldcPage c)) (LDC_PWM_CTL c)) 0 = true → (t.commitOf (ldcPage c)).isSome = true ∧ (t.ldc c).startAt.isSome = true) ∧
      ((s.ldc c).running = false → bitOf (setVal (s.shadowVals (ldcPage c)) (LDC_PWM_CTL c)) 0 = false → t.commitOf (ldcPage c) = none ∧ t.inForce = (s.putInForce (ldcPage c) (s.shadowVals (ldcPage c))).inForce))

/-- A desaturation after the blanking, or a hard short, of a switch that is judged latches the switch and its cause, counts, turns the channel off softly and takes its torque; a switch that is off is not judged. A trip input acts once on the channels that enable it, until it is released. A gate supply below 8.5 V latches all six switches with cause GATE_UV; above 9 V the flag ends. FLT_CLR clears the latches whose causes have gone and the records, or else is refused. A current limit that fires turns the high sides off and counts once a period. Where the rules leave a point open, the clauses follow the choice of the model (logs 46, 53, 62). -/
def Obligations.GateProtection : Prop :=
  ∀ (c sw : Fin 6) (k : Fin 8) (mv : BitVec 16) (s : State),
    (s.judges c sw = true →
      ((s.ldc c).onAt.getD sw 0 + (s.fld (GDV_DESAT_CFG c) 4 0 + 1) * 400 ≤ s.dt → ∃ u : State, u.bit (GDV_FLT_STAT c) sw = true ∧ u.bit (GDV_FLT_CAUSE c) sw = true ∧ u.fld (GDV_CNT_PROT c) 31 24 = min 255 (s.fld (GDV_CNT_PROT c) 31 24 + 1) ∧
        (u.ldc c).gates = (s.ldc c).gates ∧ exec (.desat c sw) s = .next (((u.softOff c).raise (gdvPage c) 0).ldcFault c .torqueOff (some .localProt))) ∧
      (s.dt < (s.ldc c).onAt.getD sw 0 + (s.fld (GDV_DESAT_CFG c) 4 0 + 1) * 400 → exec (.desat c sw) s = .next s) ∧
      (∃ u : State, u.bit (GDV_FLT_STAT c) sw = true ∧ u.bit (GDV_FLT_CAUSE c) (8 + sw) = true ∧ (u.ldc c).gates = (s.ldc c).gates ∧ exec (.hardShort c sw) s = .next (((u.softOff c).raise (gdvPage c) 1).ldcFault c .torqueOff (some .localProt)))) ∧
    (s.judges c sw = false → exec (.desat c sw) s = .next s ∧ exec (.hardShort c sw) s = .next s) ∧
    (s.bit (GDV_TRIP_CFG 0 k) 11 = true → exec (.tripInput k) s = .next s) ∧
    (s.bit (GDV_TRIP_CFG 0 k) 11 = false → ∃ u : State, u.bit (GDV_TRIP_CFG 0 k) 11 = true ∧ u.ldcs = s.ldcs ∧ exec (.tripInput k) s = .next (u.each (List.range 6) fun n st => st.tripOn n (2 ^ k.val)) ∧
      ((∀ n : Fin 6, s.fld (GDV_TRIP_EN n) 7 0 &&& 2 ^ k.val = 0) → exec (.tripInput k) s = .next u)) ∧
    (∃ t, exec (.tripInputRelease k) s = .next t ∧ t.bit (GDV_TRIP_CFG 0 k) 11 = false ∧ t.ldcs = s.ldcs ∧ t.mem = s.mem) ∧
    (8500 ≤ mv.toNat ∨ s.bit (GDV_FLT_STAT c) 6 = true → ∃ t, exec (.gateUv c mv) s = .next t ∧ t.fld (GDV_VGATE c) 15 0 = mv.toNat ∧ t.ldcs = s.ldcs) ∧
    (mv.toNat < 8500 → s.bit (GDV_FLT_STAT c) 6 = false → ∃ u : State, u.fld (GDV_VGATE c) 15 0 = mv.toNat ∧ u.bit (GDV_FLT_STAT c) 6 = true ∧ u.fld (GDV_FLT_STAT c) 5 0 = 63 ∧ u.bit (GDV_FLT_CAUSE c) 17 = true ∧
      exec (.gateUv c mv) s = .next (((u.softOff c).raise (gdvPage c) 3).ldcFault c .torqueOff (some .localProt))) ∧
    (∃ t, exec (.gateSupplyRecovery c mv) s = .next t ∧ t.fld (GDV_VGATE c) 15 0 = mv.toNat ∧ (9000 < mv.toNat → t.bit (GDV_FLT_STAT c) 6 = false) ∧ (mv.toNat ≤ 9000 → t.bit (GDV_FLT_STAT c) 6 = s.bit (GDV_FLT_STAT c) 6)) ∧
    (∀ t0, (s.ldc c).softEnd = some t0 → (t0 ≤ s.dt → ∃ t, exec (.softOffEnd c) s = .next t ∧ (t.ldc c).softEnd = none ∧ (t.ldc c).softMask = 0 ∧ t.bit (GDV_FLT_STAT c) 11 = false) ∧ (s.dt < t0 → exec (.softOffEnd c) s = .next s)) ∧
    ((∀ n : Fin 6, s.gateLatched c n = true → s.causesGone c n = true) → ∃ t, exec (.fltClr c) s = .next t ∧ t.fld (GDV_FLT_STAT c) 5 0 = 0 ∧ t.rd (GDV_FLT_NREC c) = 0 ∧ t.rd (GDV_FLT_REC c 0) = 0 ∧ (t.ldc c).detAt = none) ∧
    (s.gateLatched c sw = true → s.causesGone c sw = false → ∃ t, exec (.fltClr c) s = .next t ∧ t.gateLatched c sw = true ∧ t.bit (GDV_FLT_STAT c) 10 = true ∧ t.rd (GDV_FLT_NREC c) = s.rd (GDV_FLT_NREC c)) ∧
    (s.fld (LDC_CBC_CTL c) 7 0 * s.fld (LDC_THR_FRAC c) 16 0 / 2 ^ 16 ≠ 0 → (∀ n : Fin 6, (s.ldc c).gates / 2 ^ n.val % 2 = 1 → (s.ldc c).onAt.getD n 0 + 16 * s.fld (LDC_CBC_CTL c) 15 8 ≤ s.dt) → s.bit (GDV_FLT_STAT c) 12 = false →
      ∃ t, exec (.cbc c) s = .next t ∧ (t.ldc c).cbcFired = true ∧ (t.ldc c).gates &&& 21 = 0 ∧ t.bit (evtPendAt (ldcPage c)) 1 = true ∧
      t.fld (LDC_CBC_CNT c) 15 0 = (if (s.ldc c).cbcFired then s.fld (LDC_CBC_CNT c) 15 0 else min 65535 (s.fld (LDC_CBC_CNT c) 15 0 + 1))) ∧
    (s.fld (LDC_CBC_CTL c) 7 0 = 0 → exec (.cbc c) s = .next s)

/-- On a channel without a servo slot START in OFF or COASTING begins sensing, or Hall running with a valid code; STOP of a moving channel coasts with all gates off; ACK leaves FAULT when no gate latch stands; else each is refused. Sensing catches a rotor in the commanded direction, waits for one that turns back, and else aligns. A test pulse records its rise time and gives the next pulse, and the last one the angle of the start. The alignment vector, a re-catch wait and a still rotor end in STARTING, SENSING and OFF. Where the rules leave a point open, the clauses follow the choice of the model (logs 46, 53, 62). -/
def Obligations.SixStepEntersItsStates : Prop :=
  ∀ (c : Fin 6) (codes : List (BitVec 12)) (s : State),
    ((s.slotOfLdc c).isSome = true → ∀ x ∈ [Instr.comStart c codes, .comStop c, .comAck c], ∃ t, exec x s = .next t ∧ t.ldcs = s.ldcs ∧ t.rd (ldcPage c + 0x1C) = errCapNext (s.rd (ldcPage c + 0x1C)) .state 65) ∧
    (s.slotOfLdc c = none →
      (s.comState c = 0 ∨ s.comState c = 5 → s.bit (LDC_COM_CTL c) 0 = false → ∃ t, exec (.comStart c codes) s = .next t ∧ t.comState c = 1 ∧ (t.ldc c).gates % 64 = 0 ∧ (t.ldc c).modes = [3, 3, 3]) ∧
      (s.comState c = 0 ∨ s.comState c = 5 → ∀ k : Fin 6, s.bit (LDC_COM_CTL c) 0 = true → s.hallNow c = some k.val → s16 (s.rd (LDC_COM_FREQ c)) = 0 → ∃ t, exec (.comStart c codes) s = .next t ∧ t.comState c = 4 ∧ t.comStep c = k ∧
        (t.ldc c).modes = stepModes k) ∧
      (s.comState c ≠ 0 → s.comState c ≠ 5 → ∃ t, exec (.comStart c codes) s = .next t ∧ t.ldcs = s.ldcs ∧ t.comState c = s.comState c) ∧
      (1 ≤ s.comState c → s.comState c ≤ 4 → ∃ t, exec (.comStop c) s = .next t ∧ t.comState c = 5 ∧ (t.ldc c).gates % 64 = 0 ∧ (t.ldc c).recatchAt = none ∧ (t.ldc c).comAt = none) ∧
      (s.comState c = 6 → s.fld (GDV_FLT_STAT c) 5 0 = 0 → ∃ t, exec (.comAck c) s = .next t ∧ t.comState c = 0 ∧ t.fld (LDC_COM_STAT c) 10 9 = 0)) ∧
    (s.comState c = 1 → s.bit (LDC_COM_STAT c) 8 = false →
      (∀ (int : BitVec 32) (k : Fin 6), u16 (s.rd (LDC_CATCH_F c)) ≤ freqOfInt int.toNat → ∃ t, exec (.sensingDecision c (some (s.comRev c, int, k))) s = .next t ∧ t.comState c = 4 ∧ (t.ldc c).crossAt = some (s.dt - s.delayTicks c int.toNat) ∧ t.rd (LDC_ZC_INT c) = int ∧
        t.comStep c = nextStep (s.comRev c) k ∧ t.bit (evtPendAt (ldcPage c)) 22 = true) ∧
      (∀ (int : BitVec 32) (k : Fin 6), u16 (s.rd (LDC_REV_F c)) ≤ freqOfInt int.toNat → ∃ t, exec (.sensingDecision c (some (!s.comRev c, int, k))) s = .next t ∧ t.comState c = 1 ∧ t.bit (LDC_COM_STAT c) 8 = true ∧
        t.bit (LDC_COM_STAT c) 6 = !s.comRev c) ∧
      (s.dt < (s.ldc c).since + msTicks (min 50 (max 1 (s.fld (LDC_LISTEN c) 7 0))) → exec (.sensingDecision c none) s = .next s) ∧
      ((s.ldc c).since + msTicks (min 50 (max 1 (s.fld (LDC_LISTEN c) 7 0))) ≤ s.dt →
        (s.bit (LDC_COM_CTL c) 2 = true → ∃ t, exec (.sensingDecision c none) s = .next t ∧ t.comState c = 2 ∧ (t.ldc c).ipd = some 0 ∧ (t.ldc c).rises = []) ∧
        (s.bit (LDC_COM_CTL c) 2 = false → s.bit (LDC_COM_CTL c) 4 = true → ∃ t, exec (.sensingDecision c none) s = .next t ∧ t.comState c = 2 ∧ t.bit (LDC_COM_STAT c) 8 = true ∧ (t.ldc c).modes = [0, 2, 2]))) ∧
    (s.comState c = 1 → s.bit (LDC_COM_STAT c) 8 = true → ∀ int : BitVec 32, u16 (s.rd (LDC_REV_F c)) ≤ freqOfInt int.toNat → ∃ t, exec (.reverseWaitEnd c (some int)) s = .next t ∧ t.comState c = 1 ∧ t.rd (LDC_ZC_INT c) = int ∧
      (t.ldc c).crossAt = some s.dt) ∧
    (s.comState c = 1 → s.bit (LDC_COM_STAT c) 8 = true → s.bit (LDC_COM_CTL c) 0 = false → s.bit (LDC_COM_CTL c) 2 = true → ∀ int : BitVec 32, freqOfInt int.toNat < u16 (s.rd (LDC_REV_F c)) →
      ∃ t, exec (.reverseWaitEnd c (some int)) s = .next t ∧ t.comState c = 2 ∧ (t.ldc c).ipd = some 0) ∧
    (s.bit (GDV_FLT_STAT c) 12 = false → s.comState c = 2 →
      (∀ (k : Nat) (r : BitVec 16), (s.ldc c).ipd = some k → (s.ldc c).ipdAt + 16 * r.toNat ≤ s.dt → r.toNat < 250 * min 200 (max 5 (s.fld (LDC_IPD_CFG c) 7 0)) →
        ((s.ldc c).rises.length + 1 < (if s.bit (LDC_COM_CTL c) 3 then 12 else 6) → ∃ t, exec (.ipdPulseEnd c (some r)) s = .next t ∧ (t.ldc c).rises = (s.ldc c).rises ++ [r.toNat] ∧
          (t.ldc c).ipd = some (if s.bit (LDC_COM_CTL c) 3 then k + 1 else k + 2) ∧ (t.ldc c).ipdAt = s.dt + 40000 * max 1 (s.fld (LDC_IPD_CFG c) 15 8)) ∧
        (∀ a : Fin 12, (s.ldc c).rises.length + 1 = (if s.bit (LDC_COM_CTL c) 3 then 12 else 6) → ipdResult (s.bit (LDC_COM_CTL c) 3) (s.fld (LDC_IPD_CFG c) 23 16) ((s.ldc c).rises ++ [r.toNat]) = (true, a.val) →
          ∃ t, exec (.ipdPulseEnd c (some r)) s = .next t ∧ t.comState c = 3 ∧ t.fld (LDC_COM_STAT c) 15 12 = a ∧ t.comStep c = stepOfAngle (s.comRev c) a)) ∧
      (s.bit (LDC_COM_STAT c) 8 = true → (s.ldc c).since + msTicks (s.fld (LDC_ALIGN_CFG c) 15 0) ≤ s.dt → ∃ t, exec (.alignEnd c) s = .next t ∧ t.comState c = 3 ∧ t.comStep c = stepOfAngle (s.comRev c) 0)) ∧
    (s.comState c = 5 →
      (∀ t0, (s.ldc c).recatchAt = some t0 → t0 ≤ s.dt → s.bit (GDV_FLT_STAT c) 12 = false → ∃ t, exec (.recatchWaitEnd c) s = .next t ∧ t.comState c = 1 ∧ (t.ldc c).recatchAt = none) ∧
      ((s.ldc c).recatchAt = none → (s.ldc c).since + msTicks (s.fld (LDC_STILL_T c) 15 0) ≤ s.dt → (∀ t0, (s.ldc c).crossAt = some t0 → t0 + msTicks (s.fld (LDC_STILL_T c) 15 0) ≤ s.dt) → ∃ t, exec (.coastStill c) s = .next t ∧ t.comState c = 0 ∧ t.rd (LDC_COM_FREQ c) = 0)) ∧
    (s.bit (GDV_FLT_STAT c) 12 = false → s.comState c = 4 → (s.ldc c).since + msTicks 1000 ≤ s.dt → ∃ t, exec (.recatchReset c) s = .next t ∧ t.fld (LDC_COM_STAT c) 10 9 = 0 ∧ t.comState c = 4 ∧ t.ldcs = s.ldcs)

/-- A commutation that is due, a reload point of its field clock passed, goes to the next step in the commanded direction and counts it; a forced one of a running channel counts as a miss, and the one that reaches the limit loses sync with cause 2. In Hall mode a valid code sets the step; of a running channel a code that is no neighbour loses sync with cause 4. A start that takes too long loses sync with cause 5, a reverse rotation that does not end with cause 6. A loss of sync takes a re-catch that is left, or else the channel is in FAULT and its torque goes. Where the rules leave a point open, the clauses follow the choice of the model (logs 46, 53, 62). -/
def Obligations.SixStepRunsAndLosesSync : Prop :=
  ∀ (c : Fin 6) (code : Fin 8) (s : State),
    (s.bit (GDV_FLT_STAT c) 12 = true → exec (.commutation c) s = .next s ∧ exec (.startTimeout c) s = .next s ∧ exec (.reverseWaitTimeout c) s = .next s) ∧
    (s.bit (GDV_FLT_STAT c) 12 = false →
      (∀ t0, (s.ldc c).comAt = some t0 → s.dt < t0 ∨ s.reloadFirst c t0 = true → exec (.commutation c) s = .next s) ∧
      (∀ t0, (s.ldc c).comAt = some t0 → t0 ≤ s.dt → s.reloadFirst c t0 = false → s.comState c = 3 ∨ s.comState c = 4 ∧ ((s.ldc c).forced = false ∨ (s.ldc c).missRun + 1 < max 1 (s.fld (LDC_PLAUS c) 19 16)) → ∃ t, exec (.commutation c) s = .next t ∧
        t.comStep c = nextStep (s.comRev c) (s.comStep c) ∧ (t.ldc c).modes = stepModes (nextStep (s.comRev c) (s.comStep c)) ∧ (t.ldc c).comLast = t0 ∧
        t.rd (LDC_STEP_CNT c) = (if s.comRev c then s.rd (LDC_STEP_CNT c) - 1 else s.rd (LDC_STEP_CNT c) + 1) ∧ (s.comState c = 4 → (t.ldc c).missRun = (s.ldc c).missRun + if (s.ldc c).forced then 1 else 0)) ∧
      (∀ t0, (s.ldc c).comAt = some t0 → t0 ≤ s.dt → s.reloadFirst c t0 = false → s.comState c = 4 → (s.ldc c).forced = true → max 1 (s.fld (LDC_PLAUS c) 19 16) ≤ (s.ldc c).missRun + 1 → s.syncLost c 2 (exec (.commutation c) s)) ∧
      (s.comState c = 3 → (s.ldc c).since + msTicks (s.fld (LDC_START_HO c) 31 16) ≤ s.dt → s.syncLost c 5 (exec (.startTimeout c) s)) ∧
      (s.comState c = 1 → s.bit (LDC_COM_STAT c) 8 = true → (s.ldc c).since + msTicks (10 * s.fld (LDC_LISTEN c) 31 16) ≤ s.dt → s.syncLost c 6 (exec (.reverseWaitTimeout c) s))) ∧
    (s.bit (LDC_COM_CTL c) 0 = false → exec (.hallCommutation c code) s = .next s) ∧
    (s.bit (LDC_COM_CTL c) 0 = true →
      (∀ k : Fin 6, s.hallStepOf c code = some k.val → s.comState c ≠ 4 → ∃ t, exec (.hallCommutation c code) s = .next t ∧ t.comStep c = k ∧ (t.ldc c).crossAt = some s.dt) ∧
      (∀ k : Fin 6, s.hallStepOf c code = some k.val → s.comState c = 4 → k.val = nextStep true (s.comStep c) ∨ k.val = nextStep false (s.comStep c) → (s.ldc c).crossAt = none → ∃ t, exec (.hallCommutation c code) s = .next t ∧
        t.comStep c = k ∧ (t.ldc c).modes = stepModes k ∧ (t.ldc c).crossAt = some s.dt) ∧
      (s.comState c = 4 → (∀ k : Fin 6, s.hallStepOf c code = some k.val → k.val ≠ nextStep true (s.comStep c) ∧ k.val ≠ nextStep false (s.comStep c)) → s.syncLost c 4 (exec (.hallCommutation c code) s)) ∧
      (s.comState c ≠ 4 → s.hallStepOf c code = none → ∃ t, exec (.hallCommutation c code) s = .next t ∧ t.fld (LDC_COM_CNT c) 31 24 = min 255 (s.fld (LDC_COM_CNT c) 31 24 + 1) ∧ t.ldcs = s.ldcs))

/-- An index pulse sets both counters; on a valid port the first one sets IDX_REF, a later one is checked against it and corrects the count where that is enabled. A serial transaction that is due stamps its reading, one that is not starts nothing; a reading ends the transaction no sooner than it can last; a good word moves the count, a bad one is counted. A first Hall code is taken, a neighbour moves the count by one, any other change counts as bad. CLEAR gives VALID back when the cause has gone. A resolver calibration ends with its phase. RESET seeks the reference again. An emulated edge that is due moves its count by one. Where the rules leave a point open, the clauses follow the choice of the model (logs 27, 46). -/
def Obligations.FeedbackReadings : Prop :=
  ∀ (p : Fin 12) (d dB : Int) (start : Bool) (bits : List Bool) (s : State),
    (s.hasIdx p = false → exec (.indexPulse p d dB) s = .next s) ∧
    (s.hasIdx p = true →
      (s.portValid p = false → ∃ t, exec (.indexPulse p d dB) s = .next t ∧ (t.port p).count = (s.port p).count + s.dirSign p * d ∧ (t.port p).countB = (s.port p).countB + dB ∧
        t.rd (FBP_COUNT p) = w32 ((s.port p).count + s.dirSign p * d) ∧ t.rd (FBP_POSB p) = w32 ((s.port p).countB + dB) ∧ t.mem = s.mem) ∧
      (s.portValid p = true → s.slotOfPort p = none → (s.port p).seekRef = true → ∃ t, exec (.indexPulse p d dB) s = .next t ∧ (t.port p).idxRef = (s.port p).count + s.dirSign p * d ∧ (t.port p).seekRef = false ∧
        t.bit (FBP_FB_STAT p) 6 = true ∧ t.fld (FBP_IDX_CNT p) 31 16 = (s.fld (FBP_IDX_CNT p) 31 16 + 1) % 65536) ∧
      (∀ e : Int, s.portValid p = true → s.slotOfPort p = none → (s.port p).seekRef = false →
        e = reduceMod ((s.port p).count + s.dirSign p * d - (s.port p).idxRef) (if s.rd (FBP_INDEX_PER p) = 0 then s.cpt p else (s.rd (FBP_INDEX_PER p)).toNat) → ∃ t, exec (.indexPulse p d dB) s = .next t ∧
        t.rd (FBP_IDX_ERR p) = w32 e ∧ (t.port p).count = (s.port p).count + s.dirSign p * d - (if s.bit (FBP_IDX_CFG p) 12 then e else 0) ∧ (e.natAbs ≤ s.fld (FBP_IDX_CFG p) 7 0 → t.fld (FBP_FB_STAT p) 11 8 = 0) ∧
        (s.fld (FBP_IDX_CFG p) 7 0 < e.natAbs → t.fld (FBP_FB_STAT p) 11 8 = min 15 (s.fld (FBP_FB_STAT p) 11 8 + 1))) ∧
      (∀ n, s.portValid p = true → s.slotOfPort p = some n → ∃ u : State, (u.port p).count = (s.port p).count + s.dirSign p * d ∧ (u.port p).countB = (s.port p).countB + dB ∧ u.axes = s.axes ∧ ∃ w : State,
        w = u.homeCapture n true u.dt (u.posOfCount p ((s.port p).count + s.dirSign p * d) + (u.axis n).posOfs) ∧ exec (.indexPulse p d dB) s = .next (if (w.port p).seekRef then
          (w.setPort p { w.port p with seekRef := false, idxRef := (s.port p).count + s.dirSign p * d }).wrBit (FBP_FB_STAT p) 6 true else w.indexCheck p ((s.port p).count + s.dirSign p * d)))) ∧
    (s.portMode p = 2 ∨ s.portMode p = 3 → s.serDue p = true → (∃ u : State, (u.port p).serAt = some s.dt ∧ (u.port p).serial = some (s.dt + s.fld (FBP_SER_TLAT p) 15 0) ∧ u.regs = s.regs ∧ exec (.serialTransaction p false) s = .next u.emusCheck) ∧
      ((s.port p).serErr + 1 < s.serLim p → ∃ u : State, (u.port p).serial = none ∧ (u.port p).serErr = (s.port p).serErr + 1 ∧ u.fld (FBP_SER_CNT p) 15 0 = min 65535 (s.fld (FBP_SER_CNT p) 15 0 + 1) ∧
        exec (.serialTransaction p true) s = .next u.emusCheck)) ∧
    (∀ busy : Bool, s.serDue p = false ∨ s.portMode p ≠ 2 ∧ s.portMode p ≠ 3 → exec (.serialTransaction p busy) s = .next s.emusCheck) ∧
    (s.serOver p = false ∨ (s.port p).serial = none → exec (.serialReading p start bits) s = .next s.emusCheck) ∧
    (∀ (t0 : Nat) (r : SerRead), s.serOver p = true → (s.port p).serial = some t0 → r = (if s.portMode p = 3 then s.readBiss p bits else s.readSsi p bits) →
      (r.ok = true → start = true ∨ s.portMode p ≠ 3 → ∃ u : State, (u.port p).raw = some r.word ∧ (u.port p).serErr = 0 ∧ (u.port p).serial = none ∧ u.rd (FBP_SER_RAW_LO p) = BitVec.ofNat 32 (bitsNat bits) ∧
        ((s.port p).raw = none → (u.port p).count = r.word) ∧ (s.fld (FBP_FB_STAT p) 18 16 = 0 → u.portValid p = true) ∧ exec (.serialReading p start bits) s = .next u.emusCheck) ∧
      (r.ok = false ∨ start = false ∧ s.portMode p = 3 → (s.port p).serErr + 1 < s.serLim p → ∃ u : State, (u.port p).serErr = (s.port p).serErr + 1 ∧ (u.port p).count = (s.port p).count ∧ exec (.serialReading p start bits) s = .next u.emusCheck)) ∧
    (∀ code : Fin 8, s.portMode p = 4 → code.val ≠ (s.port p).hall →
      ((s.port p).hall = 8 → code.val ≠ 0 → code.val ≠ 7 → ∃ u : State, (u.port p).hall = code ∧ (u.port p).count = (s.port p).count ∧ exec (.hallCodeChange p code) s = .next u.emusCheck) ∧
      ((s.port p).hall ≠ 8 → code.val ≠ 0 → code.val ≠ 7 → hallNext (s.port p).hall = code ∨ hallNext code = (s.port p).hall → ∃ u : State, (u.port p).hall = code ∧ (u.port p).hallRun = 0 ∧
        (u.port p).count = (s.port p).count + s.dirSign p * (if hallNext (s.port p).hall = code then 1 else -1) ∧ exec (.hallCodeChange p code) s = .next u.emusCheck) ∧
      (code.val = 0 ∨ code.val = 7 ∨ (s.port p).hall ≠ 8 ∧ hallNext (s.port p).hall ≠ code ∧ hallNext code ≠ (s.port p).hall → (s.port p).hallRun + 1 < s.serLim p → ∃ u : State, (u.port p).hallRun = (s.port p).hallRun + 1 ∧ (u.port p).count = (s.port p).count ∧ u.bit (evtPendAt (fbpPage p)) 6 = true ∧
        exec (.hallCodeChange p code) s = .next u.emusCheck)) ∧
    (∀ (wires : Fin 8) (bad : Bool), (s.portValid p = false → s.fld (FBP_FB_STAT p) 18 16 ≠ 0 → s.posBad p wires bad = false → ∃ u : State, u.portValid p = true ∧ u.fld (FBP_FB_STAT p) 18 16 = 0 ∧ (u.port p).quadRun = 0 ∧
        exec (.fbClear p wires bad) s = .next u.emusCheck) ∧
      (s.portValid p = true ∨ s.posBad p wires bad = true → ∃ u : State, u.portValid p = s.portValid p ∧ u.fld (FBP_FB_STAT p) 14 12 = (wires.val &&& s.pairsUsed p) ∧ u.ports = s.ports ∧ exec (.fbClear p wires bad) s = .next u.emusCheck)) ∧
    (s.portMode p = 6 → ∃ t, exec (.fbResCal p) s = .next t ∧ (t.port p).calRun = true) ∧ (s.portMode p ≠ 6 → exec (.fbResCal p) s = .next s) ∧
    (∀ phase : W32, (s.port p).calRun = true → ∃ u : State, (u.port p).calRun = false ∧ u.rd (FBP_RES_PHASE p) = phase ∧ (s.portMode p = 6 → s.fld (FBP_FB_STAT p) 18 16 = 0 → u.portValid p = true) ∧
      exec (.resCalDone p phase) s = .next u.emusCheck) ∧
    (∃ t, exec (.fbRefReset p) s = .next t ∧ (t.port p).seekRef = true ∧ t.bit (FBP_FB_STAT p) 6 = false ∧ (t.port p).count = (s.port p).count) ∧
    (∀ (m : Fin 4) (t0 : Nat) (up : Bool), s.emuOn m = true → s.emuValid m = true → s.emuActive m = true → (s.emu m).next = some (t0, up) → t0 ≤ s.dt → ∃ t, exec (.emuEdge m) s = .next t ∧
      (t.emu m).count = (s.emu m).count + (if up then 1 else -1) ∧ (t.emu m).last = some s.dt ∧ t.rd (EMU_EMU_CNT m) = w32 ((s.emu m).count + (if up then 1 else -1)))

/-- A wire break of a pair in use, quadrature errors in SER_LIM consecutive LTB steps, an invalid serial reading or Hall code at the limit, an amplitude loss and a tracking error take VALID from a valid port with causes 1 to 6, and the units that used the position take their part. A port whose position is already lost keeps its cause; a pair not in use changes nothing. Where the rules leave a point open, the clauses follow the choice of the model (log 27). -/
def Obligations.FeedbackLosses : Prop :=
  ∀ (p : Fin 12) (k : Fin 3) (mv : BitVec 16) (s : State),
    (s.pairsUsed p / 2 ^ k.val % 2 = 0 → exec (.wireBreak p k) s = .next s.emusCheck) ∧
    (s.pairsUsed p / 2 ^ k.val % 2 = 1 → (s.portValid p = true → ∃ u : State, u.bit (FBP_FB_STAT p) (12 + k) = true ∧ u.posGone p 1 (exec (.wireBreak p k) s)) ∧
      (s.portValid p = false → ∃ u : State, u.bit (FBP_FB_STAT p) (12 + k) = true ∧ u.fld (FBP_FB_STAT p) 18 16 = s.fld (FBP_FB_STAT p) 18 16 ∧ exec (.wireBreak p k) s = .next u.emusCheck)) ∧
    (s.portMode p = 1 →
      ((s.port p).quadRun ≠ 0 → (s.port p).quadAt + 1 = s.dt / 4096 → (s.port p).quadRun + 1 < s.serLim p → ∃ u : State, (u.port p).quadRun = (s.port p).quadRun + 1 ∧ (u.port p).count = (s.port p).count ∧ u.bit (evtPendAt (fbpPage p)) 5 = true ∧
        u.portValid p = s.portValid p ∧ exec (.quadErr p) s = .next u.emusCheck) ∧
      ((s.port p).quadRun ≠ 0 → (s.port p).quadAt = s.dt / 4096 → (s.port p).quadRun < s.serLim p → ∃ u : State, (u.port p).quadRun = (s.port p).quadRun ∧ exec (.quadErr p) s = .next u.emusCheck) ∧
      (s.portValid p = true → (s.port p).quadRun ≠ 0 → (s.port p).quadAt + 1 = s.dt / 4096 → s.serLim p ≤ (s.port p).quadRun + 1 → ∃ u : State, (u.port p).count = (s.port p).count ∧ u.posGone p 2 (exec (.quadErr p) s))) ∧
    (s.portMode p = 4 → s.portValid p = true → s.serLim p ≤ (s.port p).hallRun + 1 → (s.port p).hall ≠ 7 → ∃ u : State, (u.port p).hall = 7 ∧ (u.port p).count = (s.port p).count ∧ u.posGone p 5 (exec (.hallCodeChange p 7) s)) ∧
    (s.portMode p = 2 ∨ s.portMode p = 3 → s.portValid p = true → s.serDue p = true → s.serLim p ≤ (s.port p).serErr + 1 → ∃ u : State, (u.port p).serErr = (s.port p).serErr + 1 ∧ u.posGone p 4 (exec (.serialTransaction p true) s)) ∧
    (s.portMode p = 6 → s.portValid p = true → ∃ u : State, u.posGone p 6 (exec (.resolverTrackingError p) s)) ∧
    (s.portMode p ≠ 6 → exec (.resolverTrackingError p) s = .next s.emusCheck) ∧
    (s.portMode p = 5 ∨ s.portMode p = 6 → s.portValid p = true → ∃ u : State, u.fld (FBP_SC_AMP p) 15 0 = mv.toNat ∧
      u.fld (FBP_SC_AMP p) 31 16 = (if (s.port p).ampSeen then min (s.fld (FBP_SC_AMP p) 31 16) mv.toNat else mv.toNat) ∧ u.posGone p 3 (exec (.analogAmplitudeLoss p mv) s)) ∧
    (s.portMode p ≠ 5 → s.portMode p ≠ 6 → exec (.analogAmplitudeLoss p mv) s = .next s.emusCheck)

/-- Sync of a lane is kept; a DLY that is due is stamped, the sixteenth measurement gives HOP_DLY as the mean and takes a port in ALIGN up, and silence takes it down. UNWRAP opens a wrapped port that is up; a credit return moves the credit of its channel. The cycle master, and no one else, sends its frame at the cycle instant and steps the cycle. Where nothing is injected, a cycle frame with a bad CRC or an abort is counted, one of another type or length is discarded, a good one is counted, timed and served. Two cycles without a frame set CYC_LOST, once. Where the rules leave a point open, the clauses follow the choice of the model (logs 28, 29, 46). -/
def Obligations.RingLanesAndCycles : Prop :=
  ∀ (p : Fin 2) (q : Fin 3) (c : Fin 8) (n : BitVec 16) (frac : BitVec 8) (tOut tIn : W32) (inv abt : Bool) (f : List Byte) (s : State),
    (s.portState q ≠ 0 → ∃ t, exec (.syncAcquired ⟨32 + q.val, by omega⟩ inv) s = .next t ∧ (t.rport q).sync = true ∧ (s.portState q = 1 → (s.rport q).delays.length = 16 → t.portState q = 2)) ∧
    (s.portState q = 0 → exec (.syncAcquired ⟨32 + q.val, by omega⟩ inv) s = .next s ∧ exec (.dlySend q frac) s = .next s ∧ exec (.dlyReceived q tOut tIn frac) s = .next s) ∧
    (s.dlyOut q = true → ∃ t, exec (.dlySend q frac) s = .next t ∧ (t.rport q).outAt = some (s.dt * 256 + frac.toNat)) ∧ (s.dlyOut q = false → exec (.dlySend q frac) s = .next s) ∧
    (s.portState q ≠ 0 → (s.rport q).sync = true → (s.rport q).outAt = none → ∃ t, exec (.dlyReceived q tOut tIn frac) s = .next t ∧ (t.rport q).inAt = some (s.dt * 256 + frac.toNat) ∧ (t.rport q).dlyAt = some s.dt) ∧
    (∀ t1, s.portState p ≠ 0 → (s.rport p).sync = true → (s.rport p).outAt = some t1 → (s.rport p).delays.length = 15 → ∃ (t : State) (d : Int), exec (.dlyReceived ⟨p.val, by omega⟩ tOut tIn frac) s = .next t ∧
      d = (signedOf 40 (wrapTo 40 ((s.dt * 256 + frac.toNat : Nat) - (t1 : Int))) - signedOf 32 (wrapTo 32 ((tOut.toNat : Int) - tIn.toNat)) * 256) * 250 / 512 + signedOf 16 (s.fld (FRB_HOP_ASYM p) 15 0) ∧
      (t.rport p).delays = d :: (s.rport p).delays ∧ t.rd (FRB_HOP_DLY p) = w32 ((d :: (s.rport p).delays).sum / 16) ∧ (s.portState p = 1 → t.portState p = 2)) ∧
    (∀ t1, (s.rport p).dlyAt = some t1 → s.portUp p = true → t1 + (if s.isMember then s.ring.cycT + 4000 else 80000) < s.dt → ∃ t, exec (.dlyTimeout p) s = .next t ∧ t.portState p = 1 ∧ t.rd (FRB_HOP_DLY p) = 0xFFFFFFFF ∧
      t.fld (FRB_CNT_ERR p) 31 24 = min 255 (s.fld (FRB_CNT_ERR p) 31 24 + 1) ∧ (s.isMember = true → t.wrapping p = true ∧ t.ringState = 3)) ∧
    ((s.rport p).dlyAt = none → exec (.dlyTimeout p) s = .next s) ∧
    (s.wrapping p = true → s.portUp p = true → ∃ t, exec (.unwrap p) s = .next t ∧ t.wrapping p = false ∧ t.bit (evtPendAt 0x260000) 13 = true) ∧ (s.wrapping p = false → exec (.unwrap p) s = .next s) ∧
    (s.portUp p = true → (s.rport p).credit.length = 8 → ∃ t, exec (.crdReceived p c n) s = .next t ∧ (t.rport p).credit.getD c 0 % 65536 = n.toNat ∧ (s.rport p).credit.getD c 0 ≤ (t.rport p).credit.getD c 0 ∧
      (t.rport p).credit.getD c 0 < (s.rport p).credit.getD c 0 + 65536) ∧
    (s.isCm = false ∨ s.isMember = false ∨ s.dt < s.ring.nextT → exec .cycleFrameSend s = .next s) ∧
    (s.isCm = true → s.isMember = true → s.ring.nextT ≤ s.dt → s.pairWrites = true → ∃ u : State, u.ring.nextT = (s.memberWrites s.dt s.newFrame).2.ring.nextT + (s.memberWrites s.dt s.newFrame).2.ring.cycT ∧
      u.ring.nextN = ((s.memberWrites s.dt s.newFrame).2.ring.nextN + 1) % 2 ^ 32 ∧ exec .cycleFrameSend s = .next (u.ringSend (u.outPort 1) (.cycle (sealFrame (s.memberWrites s.dt s.newFrame).1)) false)) ∧
    (s.laneOpen 0 = true → s.laneOpen 1 = true → s.ringEn = true → s.portUp p = true →
      (∃ t, exec (.cycleFramePass p frac f true) s = .next t ∧ t.fld (FRB_CNT_ERR p) 15 8 = min 255 (s.fld (FRB_CNT_ERR p) 15 8 + 1) ∧ t.ring = s.ring) ∧
      (crcGood f = false → ∃ t, exec (.cycleFramePass p frac f false) s = .next t ∧ t.fld (FRB_CNT_ERR p) 7 0 = min 255 (s.fld (FRB_CNT_ERR p) 7 0 + 1) ∧ t.ring = s.ring) ∧
      (crcGood f = true → byteOf f 0 % 128 ≠ 1 ∨ f.length ≠ frameLen (byteOf f 3) (byteOf f 4) (byteOf f 5) ∨ 4096 < f.length → ∃ t, exec (.cycleFramePass p frac f false) s = .next t ∧ t.regs = s.regs ∧ t.ring = s.ring) ∧
      (crcGood f = true → f.length = frameLen (byteOf f 3) (byteOf f 4) (byteOf f 5) → f.length ≤ 4096 → byteOf f 0 % 128 = 1 → ∃ u : State, u.ring.frameAt = s.dt ∧ u.ring.cycT = natOf f 29 3 ∧ (u.rport p).cycAt = some s.dt ∧
        u.fld (FRB_CNT_FRM p) 15 0 = (s.fld (FRB_CNT_FRM p) 15 0 + 1) % 65536 ∧ u.bit (FRB_RING_STAT 0) 10 = false ∧ exec (.cycleFramePass p frac f false) s = .next (u.cycleServe p (some (s.dt * 256 + frac.toNat)) f))) ∧
    (s.ringEn = false ∨ s.portUp p = false → s.laneOpen p = true → exec (.cycleFramePass p frac f abt) s = .next s) ∧
    (s.isMember = true → s.bit (FRB_RING_STAT 0) 10 = false → s.ring.frameAt + 2 * s.ring.cycT ≤ s.dt → ∃ t, exec .cycLost s = .next t ∧ t.bit (FRB_RING_STAT 0) 10 = true ∧ t.fld (FRB_CNT_RING 0) 15 0 = min 65535 (s.fld (FRB_CNT_RING 0) 15 0 + 1) ∧ t.ring = s.ring) ∧
    (s.isMember = false ∨ s.bit (FRB_RING_STAT 0) 10 = true ∨ s.dt < s.ring.frameAt + 2 * s.ring.cycT → exec .cycLost s = .next s)

/-- A message frame with a bad CRC is counted; one for this node that is complete joins the messages received, one in transit joins the queue of the port it leaves by. The message that may go leaves with its credit; MSG_TX queues the segments of a message; a received one is pushed where its silo has room. A node without frames begins to form, offers its own entry, and yields to a higher rank; its own frame come back makes it the master, which sends START with T_0; a START makes a node that may step a member at T_0, and a joining node steps to the ring, waits or is refused. Where frames pass, nothing is injected on the lane. Where the rules leave a point open, the clauses follow the choice of the model (logs 28, 29, 46). -/
def Obligations.RingMessagesAndForming : Prop :=
  ∀ (p : Fin 2) (q : Fin 3) (v : W32) (west : Bool) (f : List Byte) (g : FormFrame) (s : State),
    (s.laneOpen p = true → s.portUp p = true →
      (crcGood f = false ∨ byteOf f 0 ≠ 0x21 ∨ f.length ≠ 13 + byteOf f 7 → ∃ t, exec (.ringMsgReceived p f) s = .next t ∧ t.fld (FRB_CNT_ERR p) 7 0 = min 255 (s.fld (FRB_CNT_ERR p) 7 0 + 1) ∧ t.ring = s.ring) ∧
      (crcGood f = true → byteOf f 0 = 0x21 → f.length = 13 + byteOf f 7 →
        (byteOf f 2 = s.nodeAddr → byteOf f 4 % 4 = 3 → ∃ t, exec (.ringMsgReceived p f) s = .next t ∧ t.ring.rxDone = s.ring.rxDone ++ [(p.val, byteOf f 3, byteOf f 1 % 8, cutAt f 8 (byteOf f 7 + 1))] ∧
          t.fld (FRB_CNT_FRM p) 31 16 = (s.fld (FRB_CNT_FRM p) 31 16 + 1) % 65536) ∧
        (byteOf f 2 ≠ s.nodeAddr → byteOf f 4 / 4 + 1 ≤ 2 * s.ring.nslot → ∃ t, exec (.ringMsgReceived p f) s = .next t ∧ t.ring = s.ring ∧
          (t.rport (s.outPort p)).txq = (s.rport (s.outPort p)).txq ++ [(byteOf f 1 % 8, s.dt, sealFrame (putAt (f.take (f.length - 4)) 4 (leBytes 1 (byteOf f 4 % 4 + (byteOf f 4 / 4 + 1) % 64 * 4))))]))) ∧
    ((s.rport p).txq = [] → exec (.ringMsgSend p) s = .next s) ∧
    (∀ (c : Fin 8) (t0 : Nat), (s.rport p).txq = [(c.val, t0, f)] → s.mayMsg p c f = true → s.portUp p = true → s.laneOpen p = true → (s.rport p).sent.length = 8 →
      ∃ t, exec (.ringMsgSend p) s = .next t ∧ (t.rport p).out = f ∧ (t.rport p).txq = [] ∧ (t.rport p).sent.getD c 0 = (s.rport p).sent.getD c 0 + unitsOf f.length ∧
      (byteOf f 3 = s.nodeAddr → s.ring.softLeft = 1 → t.bit (FRB_MSG_TX 0) 29 = false)) ∧
    (∀ (a src c : Nat) (m : List Byte) (rest : List (Nat × Nat × Nat × List Byte)) (u : State), s.ring.rxDone = (a, src, c, m) :: rest → s.bit (FRB_MSG_CTL 0) 8 = true → s.pushMsg (s.fld (FRB_MSG_CTL 0) 2 0) src c m = some u →
      ∃ t, exec .ringMsgPush s = .next t ∧ t.silos = u.silos ∧ t.mem = u.mem ∧ t.ring.rxDone = rest ∧ t.bit (evtPendAt 0x260000) 18 = true) ∧
    (s.bit (FRB_MSG_TX 0) 29 = false → 4 ≤ fldOf v 9 0 → fldOf v 9 0 ≤ 512 → s.bit (FRB_MEMBERS 0) (fldOf v 20 16) = true → ∃ (t : State) (a : Nat), exec (.ringMsgTx v west) s = .next t ∧ t.bit (FRB_MSG_TX 0) 29 = true ∧
      a = (if west && s.portUp 1 then 1 else if s.portUp 0 then 0 else 1) ∧ t.ring.softLeft = (fldOf v 9 0 + 255) / 256 ∧ (t.rport a).txq.length = (s.rport a).txq.length + (fldOf v 9 0 + 255) / 256) ∧
    (s.bit (FRB_MSG_TX 0) 29 = true → ∃ t, exec (.ringMsgTx v west) s = .next t ∧ t.ring = s.ring ∧ t.rd 0x26001C = errCapNext (s.rd 0x26001C) .busy 76) ∧
    (s.ringEn = true → s.portUp 0 = true ∨ s.portUp 1 = true → s.ringState ≠ 1 → s.ring.frameAt + 16000000 ≤ s.dt → ∃ t, exec .formingEntry s = .next t ∧ t.ringState = 1 ∧ t.isCm = false ∧ t.ring.formSince = s.dt) ∧
    (s.ringEn = false ∨ s.ringState = 1 ∨ s.dt < s.ring.frameAt + 16000000 → exec .formingEntry s = .next s) ∧
    (s.ringState = 1 → s.ring.formAt ≤ s.dt → s.ring.startAt = none → s.laneOpen 0 = true → s.laneOpen 1 = true → s.portUp 0 = true ∨ s.portUp 1 = true → ∃ (t : State) (o : FormFrame), exec .formFrameSend s = .next t ∧ t.ring.formAt = s.dt + 400000 ∧ t.ring.formOut = some o ∧ o.start = false ∧ o.rank = BitVec.ofNat 16 s.rank ∧ o.cyc = s.rd (FRB_CYC_CFG 0) ∧
      o.frame = s.rd (FRB_FRAME_CFG 0) ∧ t.ring.myEntry = some (s.formEntry 0)) ∧
    (s.ringState ≠ 1 ∨ s.dt < s.ring.formAt ∨ s.ring.startAt.isSome = true → exec .formFrameSend s = .next s) ∧
    (s.laneOpen 0 = true → s.laneOpen 1 = true → s.ringEn = true → s.ringState = 1 → g.start = false →
      (g.rank.toNat < s.rank → exec (.formFrameReceived p g) s = .next s) ∧
      (g.rank.toNat = s.rank → some (g.entries.getD s.nodeAddr ⟨false, false, false, false, 0, 0⟩) = s.ring.ownEntry → ∃ t, exec (.formFrameReceived p g) s = .next t ∧ (t.ring.formBack.map fun o => (o.rank, o.entries)) = some (g.rank, g.entries) ∧ t.regs = s.regs) ∧
      (s.rank < g.rank.toNat → (g.entries.getD s.nodeAddr ⟨false, false, false, false, 0, 0⟩).present = false → s.portUp (s.outPort p) = true → ∃ t, exec (.formFrameReceived p g) s = .next t ∧ t.ring.formBack = none ∧ t.ring.formSince = s.dt ∧
        (t.ring.formOut.map fun o => (o.rank, o.cyc, o.frame)) = some (g.rank, g.cyc, g.frame)) ∧
      (∀ e : FormEntry, s.rank ≤ g.rank.toNat → e = g.entries.getD s.nodeAddr ⟨false, false, false, false, 0, 0⟩ → e.present = true → some e ≠ s.ring.ownEntry → some e ≠ s.ring.myEntry → s.bit XLK_XLK_CTL 1 = false →
        ∃ t, exec (.formFrameReceived p g) s = .next t ∧ t.bit (FRB_RING_STAT 0) 6 = true ∧ t.ringState = 4)) ∧
    (∀ h, s.ring.formBack = some h → s.ringState = 1 → s.ring.startAt = none → s.ring.formSince + 1200000 ≤ s.dt →
      (s.cfgBad h = true → ∃ t, exec .cmElection s = .next t ∧ t.bit (FRB_RING_STAT 0) 7 = true ∧ t.ring.formAt = s.dt + 40000000 ∧ t.ringState = 1) ∧
      (s.cfgBad h = false → s.mayStep = true → s.laneOpen 0 = true → s.laneOpen 1 = true → s.portUp 0 = true ∨ s.portUp 1 = true → ∃ (u : State) (t0 : Nat), s.dt ≤ u.dt ∧ u.dt < t0 ∧ u.isCm = true ∧ u.ring.startAt = some t0 ∧ u.ring.nextT = t0 ∧ u.ring.nextN = 0 ∧
        (u.ring.formOut.map fun o => (o.start, o.rank, o.t0)) = some (true, h.rank, BitVec.ofNat 64 t0) ∧ exec .cmElection s = .next (u.afterStep s.dt))) ∧
    (s.ring.formBack = none → exec .cmElection s = .next s) ∧
    (s.ringState = 1 → s.ring.startAt = none → s.laneOpen 0 = true → s.laneOpen 1 = true → g.start = true → g.members.getLsbD s.nodeAddr = true → ∃ u : State, exec (.startFrameReceived g) s = .next (u.afterStep s.dt) ∧ u.rd (FRB_MEMBERS 0) = g.members ∧
      (s.mayStep = true → u.dt = s.dt + (g.tmax.toNat - (g.entries.getD s.nodeAddr ⟨false, false, false, false, 0, 0⟩).time.toNat) ∧ (u.dt < g.t0.toNat → u.ring.startAt = some g.t0.toNat ∧ u.ringState = 1) ∧ (g.t0.toNat ≤ u.dt → u.isMember = true)) ∧
      (s.mayStep = false → u.dt = s.dt ∧ u.ringState = 4 ∧ u.bit LTB_STATUS 13 = true)) ∧
    (∀ o, s.ring.lastOfs = some o → s.ringState = 4 → s.bit LTB_STATUS 14 = false →
      (s.ring.nslot ≤ s.nodeAddr ∨ s.ring.seen / 2 ^ s.nodeAddr % 2 = 1 → ∃ t, exec .ringJoin s = .next t ∧ t.bit (FRB_RING_STAT 0) 8 = true ∧ t.ringState = 4) ∧
      (s.nodeAddr < s.ring.nslot → s.ring.seen / 2 ^ s.nodeAddr % 2 = 0 → (4000 * 256 < o → ∃ t, exec .ringJoin s = .next t ∧ t.bit LTB_STATUS 14 = true ∧ t.ringState = 4) ∧
        (0 ≤ o → o ≤ 4000 * 256 → ∃ t, exec .ringJoin s = .next t ∧ t.isMember = true ∧ t.dt = s.dt) ∧
        (o < 0 → s.mayStep = false → ∃ t, exec .ringJoin s = .next t ∧ t.bit LTB_STATUS 13 = true ∧ t.ltb.joinTo = some (-o / 256).toNat ∧ t.ringState = 4 ∧ t.dt = s.dt) ∧
        (o < 0 → s.mayStep = true → ∃ u : State, u.dt = s.dt + (-o / 256).toNat ∧ u.isMember = true ∧ exec .ringJoin s = .next (u.afterStep s.dt)))) ∧
    (s.ring.lastOfs = none ∨ s.ringState ≠ 4 ∨ s.bit LTB_STATUS 14 = true → exec .ringJoin s = .next s) ∧
    (s.bit (frbPage q + 4) 2 = false → fldOf v 2 0 < 6 → fldOf v 6 5 ≠ 3 → ∃ t, exec (.ringInjArm q v) s = .next t ∧ t.fld (frbPage q + 0x2C) 2 0 = fldOf v 2 0 ∧ t.fld (frbPage q + 0x2C) 23 16 = max 1 (fldOf v 23 16) ∧
      (bitOf v 31 = true → (t.rport q).injSkip = fldOf v 15 8 ∧ (t.rport q).injLeft = max 1 (fldOf v 23 16))) ∧
    (s.bit (frbPage q + 4) 2 = true → ∃ t, exec (.ringInjArm q v) s = .next t ∧ t.ringPorts = s.ringPorts ∧ t.rd (frbPage q + 0x1C) = errCapNext (s.rd (frbPage q + 0x1C)) .locked 11)

/-- When the crosslink of two PAIR devices comes up, the claim to the token makes this device ACTIVE, STANDBY or, on equal claims, ORPHAN, and a copy begins. The copy ends with the bytes it took. Nothing is injected on the crosslink. HANDOVER of a fit pair names the switch time, and at that time the roles pass with the new epoch; TAKE makes an ORPHAN ACTIVE, RESYNC begins a copy; each is refused elsewhere. The loss of the crosslink makes a fit standby ACTIVE, an unfit one ORPHAN, a fit active ORPHAN, and leaves an unfit active its token. Where the rules leave a point open, the clauses follow the choice of the model (logs 46, 49). -/
def Obligations.PairRolesAndSwitchover : Prop :=
  ∀ (peer : XlkPeer) (kib : BitVec 16) (e : BitVec 8) (tsw : BitVec 64) (sums : List (XlkSum × Bool)) (s : State), s.laneOpen 2 = true →
    (s.xlkUp = false ∨ s.bit XLK_XLK_CTL 1 = false ∨ peer.pair = false → exec (.xlkLaneUp peer) s = .next s) ∧
    (s.xlkUp = true → s.bit XLK_XLK_CTL 1 = true → peer.pair = true →
      (s.claim peer = .mine → ∃ t, exec (.xlkLaneUp peer) s = .next t ∧ t.role = 1 ∧ t.epoch = (if s.role = 1 then s.epoch else (s.epoch + 1) % 256) ∧ t.xlk.copying = true ∧ t.bit XLK_XLK_STAT 5 = false ∧ t.bit XLK_XLK_STAT 6 = false) ∧
      (s.claim peer = .theirs → ∃ t, exec (.xlkLaneUp peer) s = .next t ∧ t.role = 2 ∧ t.epoch = (peer.epoch.toNat + if peer.active then 0 else 1) % 256 ∧ t.xlk.copying = true ∧ t.isCm = false) ∧
      (s.claim peer = .equal → ∃ t, exec (.xlkLaneUp peer) s = .next t ∧ t.role = 3 ∧ t.epoch = s.epoch ∧ t.xlk.copying = false ∧ t.bit (evtPendAt xlkPage) 10 = true)) ∧
    (s.paired = true → s.xlk.copying = true →
      (s.role = 1 → ∃ t, exec (.initialCopyDone kib [] sums) s = .next t ∧ t.xlk.copying = false ∧ t.xlk.late = [] ∧ t.rd XLK_SYNC_PROG = BitVec.ofNat 32 kib.toNat ∧ t.role = 1) ∧
      (s.role = 2 → ∃ u : State, u.xlk.copying = false ∧ u.rd XLK_SYNC_PROG = BitVec.ofNat 32 kib.toNat ∧ u.mem = s.mem ∧ exec (.initialCopyDone kib [] sums) s = .next (u.compareAll sums))) ∧
    (s.xlk.copying = false → exec (.initialCopyDone kib [] sums) s = .next s) ∧
    (s.role = 1 → s.xlk.gotFit = true → s.xlkUp = true → ∃ t, exec .xlkHandover s = .next t ∧ t.xlk.token = some ((s.epoch + 1) % 256, s.dt + s.fld XLK_HO_LEAD 23 0) ∧
      t.xlk.out = s.xlk.out ++ [.token ((s.epoch + 1) % 256) (s.dt + s.fld XLK_HO_LEAD 23 0)] ∧ t.regs = s.regs) ∧
    (s.role ≠ 1 ∨ s.xlk.gotFit = false ∨ s.xlkUp = false → ∃ t, exec .xlkHandover s = .next t ∧ t.xlk = s.xlk ∧ t.rd (xlkPage + 0x1C) = errCapNext (s.rd (xlkPage + 0x1C)) .state 18) ∧
    (s.shadows = true → ∃ t, exec (.xlkTokenRecord e tsw) s = .next t ∧ t.xlk.token = some (e.toNat, tsw.toNat) ∧ t.xlk.rxAt = s.dt) ∧ (s.shadows = false → exec (.xlkTokenRecord e tsw) s = .next s) ∧
    (∀ t0, s.xlk.token = some (e.toNat, t0) → s.paired = true → t0 ≤ s.dt → ∃ t, exec .tokenSwitch s = .next t ∧ t.role = (if s.role = 1 then 2 else 1) ∧ t.epoch = e.toNat ∧ t.xlk.token = none ∧ t.rd64 XLK_SW_T_LO = s.dt % 2 ^ 64 ∧
      t.fld XLK_CNT_XLK 15 8 = min 255 (s.fld XLK_CNT_XLK 15 8 + 1)) ∧
    (s.xlk.token = none → exec .tokenSwitch s = .next s) ∧
    (s.role = 3 → s.xlkUp = false → ∃ t, exec .xlkTake s = .next t ∧ t.role = 1 ∧ t.epoch = (s.epoch + 1) % 256) ∧
    (s.role ≠ 3 ∨ s.xlkUp = true → ∃ t, exec .xlkTake s = .next t ∧ t.role = s.role ∧ t.rd (xlkPage + 0x1C) = errCapNext (s.rd (xlkPage + 0x1C)) .state 18) ∧
    (s.role = 1 ∨ s.role = 2 → s.xlkUp = true → ∃ t, exec .xlkResync s = .next t ∧ t.xlk.copying = true ∧ t.xlk.agreed = [] ∧ t.bit XLK_XLK_STAT 5 = false ∧ t.bit XLK_XLK_STAT 6 = false ∧ t.rd XLK_SYNC_PROG = 0) ∧
    (s.xlkUp = false ∨ s.role ≠ 1 ∧ s.role ≠ 2 → ∃ t, exec .xlkResync s = .next t ∧ t.xlk = s.xlk ∧ t.rd (xlkPage + 0x1C) = errCapNext (s.rd (xlkPage + 0x1C)) .state 18) ∧
    (s.xlkUp = true → s.xlk.rxAt + max 4 (s.fld XLK_XLK_CTL 11 8) * 1000 ≤ s.dt → ∃ t, exec .crosslinkLoss s = .next t ∧ t.xlkUp = false ∧ t.xlk.copying = false ∧
      t.role = (if s.role = 2 then (if s.xlk.sentFit then 1 else 3) else if s.role = 1 then (if s.xlk.gotFit then 3 else 1) else s.role) ∧
      t.epoch = (if s.role = 2 ∧ s.xlk.sentFit = true then (s.epoch + 1) % 256 else s.epoch)) ∧
    (s.xlkUp = false ∨ s.dt < s.xlk.rxAt + max 4 (s.fld XLK_XLK_CTL 11 8) * 1000 → exec .crosslinkLoss s = .next s)

/-- Where nothing is injected on the crosslink: the active device sends one MIRROR frame with the line, the summaries and the state blocks in rotation; the standby takes it. A forwarded write of a mirrored register or memory takes effect on the standby, a commit is staged with its sequence and instant and acknowledged, a reaction waits for the next sample of its slot. An acknowledge gives the active device LAST_SEQ, SYNCED and FIT. At the instant of a mirrored commit the device applies it; without the acknowledge the active device counts it as late. Where the rules leave a point open, the clauses follow the choice of the model (logs 46, 49). -/
def Obligations.PairRecords : Prop :=
  ∀ (nb : Fin 65) (m : MirrorIn) (a : BitVec 33) (bytes : List Byte) (pg : BitVec 12) (seq : BitVec 31) (due : CommitDue) (instant : BitVec 64) (n : Fin 64) (cls : Fin 6) (synced fit : Bool) (s : State), s.laneOpen 2 = true →
    (s.role = 1 → s.xlkUp = true → ∃ t, exec (.mirrorFrameSend nb) s = .next t ∧ t.xlk.out = s.xlk.out ++ [.mirror (s.rd (FRB_CYC_CNT 0)).toNat (if s.isMember then s.ring.nextT else s.dt)
      ((s.lineAt s.dt).p, (s.lineAt s.dt).v, (s.lineAt s.dt).a) (s.mirroredSlots.map fun k => s.summaryOf k) (s.rotation.take nb)] ∧ t.regs = s.regs ∧ t.mem = s.mem) ∧
    (s.role ≠ 1 ∨ s.xlkUp = false → exec (.mirrorFrameSend nb) s = .next s) ∧
    (s.shadows = false → exec (.xlkMirrorFrame m) s = .next s ∧ exec (.xlkWriteRecord a bytes) s = .next s ∧ exec (.xlkCommitRecord pg seq due instant) s = .next s) ∧
    (s.shadows = true → s.fld LTB_DISC_CTL 1 0 ≠ 1 → ∃ u : State, u.xlk.rxAt = s.dt ∧ u.xlk.cycle = (m.cycle.toNat, m.t.toNat) ∧ (s.ltb.plan = none → u.ltb.line = ⟨m.t.toNat, ⟨m.line.1, m.line.2.1, m.line.2.2⟩, 0⟩) ∧
      u.regs = s.regs ∧ u.mem = s.mem ∧ exec (.xlkMirrorFrame m) s = .next ((u.compareAll m.sums).each m.blocks fun b st => st.takeBlock m.sums b)) ∧
    (s.shadows = true → s.mirrorsAddr a.toNat = true → ∃ u : State, u = { s with xlk := { s.xlk with rxAt := s.dt, applying := true } } ∧
      (0x01000000 ≤ a.toNat → ∃ t, exec (.xlkWriteRecord a bytes) s = .next t ∧ t.mem = (u.memWrite a.toNat bytes).2.mem ∧ t.xlk.applying = false) ∧
      (a.toNat < 0x01000000 → bytes.length = 4 → pushWindow a.toNat 4 = false → ∃ w : State, w = u.regApply xlkReq a.toNat (BitVec.ofNat 32 (leNat bytes)) none ∧
        exec (.xlkWriteRecord a bytes) s = .next { w with xlk := { w.xlk with applying := false } })) ∧
    (s.shadows = true → s.mirrorsAddr a.toNat = false → exec (.xlkWriteRecord a bytes) s = .next s) ∧
    (∀ p, s.shadows = true → pageOf (pg.toNat * 0x1000) = some p → s.mirrorsKind p = true → ∃ t, exec (.xlkCommitRecord pg seq due instant) s = .next t ∧ t.rd XLK_LAST_SEQ = BitVec.ofNat 32 seq.toNat ∧
      (⟨p.base, seq.toNat, instant.toNat, true⟩ : XlkWait) ∈ t.xlk.waiting ∧ t.xlk.out.getLast? = some (.ack seq.toNat (t.bit XLK_XLK_STAT 5) (t.bit XLK_XLK_STAT 6))) ∧
    (s.xlkUp = true → s.bit XLK_XLK_CTL 1 = true → s.role = 2 → s.mirrored n = true → ∃ t, exec (.xlkReactRecord n cls) s = .next t ∧ t.xlk.reacts = s.xlk.reacts ++ [(n.val, classOf cls)] ∧ t.xlk.rxAt = s.dt ∧ t.axes = s.axes) ∧
    (s.xlkUp = false → exec (.xlkReactRecord n cls) s = .next s) ∧
    (s.paired = true → s.role = 1 → ∃ t, exec (.xlkAckRecord pg seq synced fit) s = .next t ∧ t.xlk.gotFit = (fit && s.xlk.late.isEmpty && !s.xlk.copying) ∧ t.bit XLK_XLK_STAT 6 = (fit && s.xlk.late.isEmpty && !s.xlk.copying) ∧
      t.bit XLK_XLK_STAT 5 = (synced && !s.xlk.copying) ∧ t.xlk.waiting = ackUpTo (pg.toNat * 0x1000) seq.toNat s.xlk.waiting) ∧
    (s.paired = true → ∃ t, exec .xlkAckSend s = .next t ∧ t.xlk.sentFit = t.bit XLK_XLK_STAT 6 ∧ t.xlk.out = s.xlk.out ++ [.ack (s.rd XLK_LAST_SEQ).toNat (t.bit XLK_XLK_STAT 5) (t.bit XLK_XLK_STAT 6)] ∧
      (s.role = 2 → t.bit XLK_XLK_STAT 6 = s.fitNow)) ∧
    (s.paired = false → exec (.xlkAckRecord pg seq synced fit) s = .next s ∧ exec .xlkAckSend s = .next s) ∧
    ((s.xlk.waiting.all fun w => decide (s.dt < w.instant)) = true → exec .mirrorCommitDeadline s = .next s) ∧
    (∀ w : XlkWait, s.xlk.waiting = [w] → w.instant ≤ s.dt → ∃ u : State, u.xlk.waiting = [] ∧ u.commits = s.commits ∧
      (w.acked = false → s.role = 1 → u.xlk.late = s.xlk.late ++ [w.page] ∧ u.xlk.gotFit = false ∧ u.bit XLK_XLK_STAT 6 = false ∧ u.fld XLK_CNT_XLK 31 24 = min 255 (s.fld XLK_CNT_XLK 31 24 + 1)) ∧
      (w.acked = true → u.xlk.late = s.xlk.late ∧ u.regs = s.regs) ∧ exec .mirrorCommitDeadline s = .next (match pageOf w.page with
        | none => u
        | some p => u.applyNow p))

/-- Between the boundaries of 250 us the safety cycle does nothing; at one, channel A refreshes its keep-alive, and with RUN the channels judge, consume the fields received, settle the groups and show the state. A container whose WD has lapsed is in error once. A test pulse that is due on an energised output takes note of its time, and one that does not read low is an output fault; on any other output, or when none is due, it does nothing. STO_A falls without a keep-alive for 500 us. ACTIVATE with the right key, signature and values makes the shadow set the active one; else its code is shown. DEACTIVATE ends RUN. Where the rules leave a point open, the clauses follow the choice of the model (logs 31, 46). -/
def Obligations.SafetyChannelsAndActivation : Prop :=
  ∀ (inA inB : BitVec 16) (ex : BitVec 2) (rdA rdB : BitVec 4) (v : W32) (s : State),
    (s.dt % 1000000 ≠ 0 → exec (.safetyCycle inA inB ex rdA rdB) s = .next s) ∧
    (s.dt % 1000000 = 0 → s.safRun = false → ∃ u : State, u = (if s.chanRuns 0 then { s with keepA := s.dt, dropA := false } else s) ∧ exec (.safetyCycle inA inB ex rdA rdB) s = .next u.latchClaims.refreshGates) ∧
    (s.dt % 1000000 = 0 → s.safRun = true → ∃ u : State, u.safPeer = 0 ∧ u.ss1Line = false ∧ (∀ e ∈ u.links, e.2.fresh = false) ∧
      exec (.safetyCycle inA inB ex rdA rdB) s = .next (((u.each (List.range 4) fun k st => st.settleGroup k).dropStops).refreshGates.showSaf)) ∧
    (∀ k : Fin 32, s.blocksOfLink k ≠ [] → (s.link k).cont.lapsed s.dt = true → (s.link k).cont.error = false → ∃ u : State, (u.link k).cont.error = true ∧ u.regs = s.regs ∧
      exec (.containerLapse ⟨k.val, by omega⟩) s = .next (u.containerError k)) ∧
    (∀ k : Fin 32, s.blocksOfLink k = [] ∨ (s.link k).cont.lapsed s.dt = false ∨ (s.link k).cont.error = true → exec (.containerLapse ⟨k.val, by omega⟩) s = .next s) ∧
    (∀ e : Fin 64, s.entryUsed e = true → (tabGet ⟨ContIn.reset, 0⟩ e.val s.ring.entries).cont.lapsed s.dt = true → (tabGet ⟨ContIn.reset, 0⟩ e.val s.ring.entries).cont.error = false → ∃ t, exec (.containerLapse ⟨32 + e.val, by omega⟩) s = .next t ∧
      (tabGet ⟨ContIn.reset, 0⟩ e.val t.ring.entries).cont.error = true ∧ t.fld SAF0_CNT_SAF 7 0 = min 255 (s.fld SAF0_CNT_SAF 7 0 + 1) ∧ t.axes = s.axes) ∧
    (∀ (g : Fin 4) (ch : Fin 2),
      (s.safRun = true → s.actBit (SAF0_GRP_CFG g) 6 = true → s.lost = false → (if ch = 0 then (s.group g).offA || s.dropA else (s.group g).offB) = false → s.pulseDue g ch = true →
        exec (.testPulse g ch true) s = .next (s.setGroup g (if ch = 0 then { s.group g with pulseA := some s.dt } else { s.group g with pulseB := some s.dt })) ∧
        ∃ u : State, (u.group g).outBad = true ∧ u.rd SAF0_LAST_ERR = BitVec.ofNat 32 (4 + g.val * 16 + ch.val * 4096) ∧ exec (.testPulse g ch false) s = .next (u.safeGroup g .output)) ∧
      (∀ low : Bool, s.safRun = false ∨ s.actBit (SAF0_GRP_CFG g) 6 = false ∨ s.lost = true ∨ (if ch = 0 then (s.group g).offA || s.dropA else (s.group g).offB) = true ∨ s.pulseDue g ch = false → exec (.testPulse g ch low) s = .next s)) ∧
    (s.keepA + 2000000 ≤ s.dt → ∃ t, exec .stoAKeepaliveTimeout s = .next t ∧ t.dropA = true ∧ t.fld SAF1_B_OUT 11 8 = 0 ∧ t.groups = s.groups) ∧ (s.dt < s.keepA + 2000000 → exec .stoAKeepaliveTimeout s = .next s) ∧
    (∃ t, exec .lockstepMismatch s = .next t ∧ t.chanAStop = true ∧ t.chanRuns 0 = false ∧ t.regs = s.regs) ∧
    (∀ (stored : Bool) (code : Fin 16), s.activateCode (fldOf v 31 16) stored = code.val → code ≠ 0 → ∃ t, exec (.safActivate v stored) s = .next t ∧ t.fld SAF0_SAF_STAT 19 16 = code ∧ t.inForce = s.inForce ∧ t.groups = s.groups ∧
      (code = 1 → t.rd (saf0Page + 0x1C) = errCapNext (s.rd (saf0Page + 0x1C)) .key 18)) ∧
    (∀ stored : Bool, fldOf v 31 16 ≠ 0xC3A5 → s.activateCode (fldOf v 31 16) stored = 1) ∧
    (∀ stored : Bool, s.activateCode (fldOf v 31 16) stored = 0 → ∃ t, exec (.safActivate v stored) s = .next t ∧ t.safRun = true ∧ t.safStore = some (safRegs.map (fun a => (a, s.rd a)), s.sigShadow) ∧ t.safAxes = [] ∧ t.disagree = []) ∧
    (fldOf v 31 16 = 0xC3A5 → (∀ n : Fin 64, s.slotBusy n = false) → ∃ t, exec (.safDeactivate v) s = .next t ∧ t.safRun = false ∧ t.safAxes = [] ∧ t.safStore = s.safStore) ∧
    (fldOf v 31 16 ≠ 0xC3A5 → ∃ t, exec (.safDeactivate v) s = .next t ∧ t.safRun = s.safRun ∧ t.fld SAF0_SAF_STAT 19 16 = 1)

/-- A safety reset, by SAF_CMD with its key where it is enabled or by a falling edge on its input after a high level of 100 ms to 3 s, energises every group that is off without a live cause and counts; without one it raises RESET_REFUSED. A changed input shows its level, and after INV its debounced one; a pair that disagrees is latched, and counted where it was not latched yet. An overload takes an output off and an EDM fault latches, each counted, until OUT_CLR. The field supply shows LOW below 18 V until above 19 V, MISSING below 9 V until above 10 V, and a missing supply takes all inputs to 0. Where the rules leave a point open, the clauses follow the choice of the model (logs 31, 46). -/
def Obligations.SafetyResetsAndFieldIo : Prop :=
  ∀ (k : Fin 16) (us v : W32) (lvl a b : Bool) (p o : Fin 8) (mv : BitVec 16) (s : State),
    (fldOf v 31 16 ≠ 0xC3A5 → ∃ t, exec (.safReset v) s = .next t ∧ t.groups = s.groups ∧ t.rd (saf0Page + 0x1C) = errCapNext (s.rd (saf0Page + 0x1C)) .key 18) ∧
    (fldOf v 31 16 = 0xC3A5 → s.safRun = false ∨ s.actBit SAF0_SAF_CTL 4 = false → ∃ t, exec (.safReset v) s = .next t ∧ t.groups = s.groups ∧ t.rd (saf0Page + 0x1C) = errCapNext (s.rd (saf0Page + 0x1C)) .state 18) ∧
    (∀ x ∈ [Instr.safReset v, .safetyResetInput k us], fldOf v 31 16 = 0xC3A5 → s.safRun = true → s.actBit SAF0_SAF_CTL 4 = true → s.actBit SAF0_SAF_CTL 12 = true → s.actFld SAF0_SAF_CTL 11 8 = k → 100000 ≤ us.toNat → us.toNat ≤ 3000000 →
      (∀ g : Fin 4, (s.group g).off = true → s.liveCauses g = [] → ∃ t, exec x s = .next t ∧ (t.group g).off = false ∧ (t.group g).causes = [] ∧ t.fld SAF0_CNT_SAF 31 24 = min 255 (s.fld SAF0_CNT_SAF 31 24 + 1)) ∧
      ((∀ g : Fin 4, (s.group g).off = false ∨ s.liveCauses g ≠ []) → ∃ t, exec x s = .next t ∧ t.groups = s.groups ∧ t.bit (evtPendAt saf0Page) 13 = true)) ∧
    (us.toNat < 100000 ∨ 3000000 < us.toNat → exec (.safetyResetInput k us) s = .next s) ∧
    (∃ t, exec (.inChg k lvl) s = .next t ∧ t.bit FIO_IN_LVL k = ((lvl && !s.bit FIO_SUP_STAT 17) != s.bit (FIO_IN_CFG k) 2) ∧ t.bit FIO_IN_LVL (16 + k) = (lvl && !s.bit FIO_SUP_STAT 17) ∧ t.mem = s.mem) ∧
    (s.safRun = true → s.actBit (SAF0_PAIR_CFG p) 11 = true → ∃ t, exec (.discrepancy p a b) s = .next t ∧ t.bit SAF0_PAIR_STAT p = (a || s.bit SAF0_PAIR_STAT p) ∧ t.bit SAF0_PAIR_STAT (8 + p) = (a || s.bit SAF0_PAIR_STAT (8 + p)) ∧
      t.bit SAF1_B_PAIR p = (b || s.bit SAF1_B_PAIR p) ∧ t.fld FIO_CNT_FIO 7 0 = (if (a && !s.bit SAF0_PAIR_STAT (8 + p)) || (b && !s.bit SAF1_B_PAIR (8 + p)) then min 255 (s.fld FIO_CNT_FIO 7 0 + 1) else s.fld FIO_CNT_FIO 7 0)) ∧
    (s.safRun = false → exec (.discrepancy p a b) s = .next s) ∧
    (s.outOn o = true → ∃ t, exec (.outputOverload o) s = .next t ∧ t.bit FIO_OUT_STAT (8 + o) = true ∧ t.outOn o = false ∧ t.bit FIO_OUT_STAT o = false ∧ t.fld FIO_CNT_FIO 23 16 = min 255 (s.fld FIO_CNT_FIO 23 16 + 1)) ∧
    (s.outOn o = false → exec (.outputOverload o) s = .next s) ∧
    (s.bit (FIO_OUT_CFG o) 0 = true → s.bit FIO_OUT_STAT (16 + o) = false → ∃ t, exec (.edmFault o) s = .next t ∧ t.bit FIO_OUT_STAT (16 + o) = true ∧ t.outOn o = false ∧ t.fld FIO_CNT_FIO 15 8 = min 255 (s.fld FIO_CNT_FIO 15 8 + 1)) ∧
    (s.bit (FIO_OUT_CFG o) 0 = false → exec (.edmFault o) s = .next s) ∧
    (bitOf v o = true → ∃ t, exec (.outClr v) s = .next t ∧ t.bit FIO_OUT_STAT (8 + o) = false ∧ (s.contactorOpen o = true → t.bit FIO_OUT_STAT (16 + o) = false) ∧ t.bit FIO_OUT_STAT o = t.outOn o) ∧
    (∃ t, exec (.fieldSupply mv) s = .next t ∧ t.fld FIO_SUP_STAT 15 0 = mv.toNat ∧ (mv.toNat < 18000 → t.bit FIO_SUP_STAT 16 = true) ∧ (19000 < mv.toNat → t.bit FIO_SUP_STAT 16 = false) ∧ (mv.toNat < 9000 → t.bit FIO_SUP_STAT 17 = true) ∧
      (10000 < mv.toNat → t.bit FIO_SUP_STAT 17 = false) ∧ (18000 ≤ mv.toNat → mv.toNat ≤ 19000 → t.bit FIO_SUP_STAT 16 = s.bit FIO_SUP_STAT 16) ∧ (9000 ≤ mv.toNat → mv.toNat ≤ 10000 → t.bit FIO_SUP_STAT 17 = s.bit FIO_SUP_STAT 17) ∧
      (mv.toNat < 9000 → s.bit FIO_SUP_STAT 17 = false → t.bit FIO_IN_LVL k = s.bit (FIO_IN_CFG k) 2))

/-- ARM of a unit outside the group waits for the next LTB step and is refused in another state than IDLE or DONE or with a bad setting; the dealer arms the whole group, or asks the ring, and another unit of the group is refused. At the LTB step a unit that waits enters FILL, READY when its PRE is 0, or RUN. FIRE of a READY unit latches its times; before READY it sets MISSED and is counted. STOP ends with reason 2, RESET empties the unit. A sample at its instant writes a row, or starts a gap when none can be written; at any other time it does nothing. RD_OFS frees rows up to the write position. A group action of the ring acts at its instant. Where the rules leave a point open, the clauses follow the choice of the model (logs 32, 46). -/
def Obligations.AcquisitionUnits : Prop :=
  ∀ (u : Fin 4) (j : Int) (v : W32) (s : State),
    (u.val ∉ s.acqGroup →
      (s.armRefusal u = none → ∃ t, exec (.acqCmdArm u) s = .next t ∧ t.acq u = { s.acq u with armWait := true } ∧ t.regs = s.regs) ∧
      (∀ e, s.armRefusal u = some e → ∃ t, exec (.acqCmdArm u) s = .next t ∧ t.acqs = s.acqs ∧ t.rd (acqPage u + 0x1C) = errCapNext (s.rd (acqPage u + 0x1C)) e 17)) ∧
    (u.val ∈ s.acqGroup → u.val ≠ s.dealer → ∃ t, exec (.acqCmdArm u) s = .next t ∧ t.acqs = s.acqs ∧ t.rd (acqPage u + 0x1C) = errCapNext (s.rd (acqPage u + 0x1C)) .state 17) ∧
    (u.val ∈ s.acqGroup → u.val = s.dealer → s.bit (ACQ_DEAL_CTL 0) 8 = false → (∀ m ∈ s.acqGroup, s.armRefusal m = none) → ∃ t, exec (.acqCmdArm u) s = .next t ∧ ∀ m ∈ s.acqGroup, (t.acq m).armWait = true) ∧
    (u.val ∈ s.acqGroup → u.val = s.dealer → s.bit (ACQ_DEAL_CTL 0) 8 = true → s.armRefusal u = none → s.acqActs = [] → ∃ t, exec (.acqCmdArm u) s = .next t ∧ t.acqs = s.acqs ∧
      t.acqActs = [⟨true, (s.acqGroup.map fun m => 2 ^ m).sum, s.dt + max (s.rd (ACQ_RING_LEAD s.dealer)).toNat (4 * s.ring.cycT), u, s.dt⟩]) ∧
    (s.dt % 4096 ≠ 0 → exec .acqArmEffect s = .next s) ∧
    (s.dt % 4096 = 0 → (s.acq u).armWait = true → ∃ t, exec .acqArmEffect s = .next t ∧ (t.acq u).armWait = false ∧ (t.acq u).rows = [] ∧ (t.acq u).idx = 0 ∧ t.rd (ACQ_ROWS u) = 0 ∧
      t.acqState u = (if s.acqStream u = true ∧ s.rd (ACQ_POST u) = 0 then 5 else if s.rd (ACQ_PRE u) = 0 then 2 else 1)) ∧
    (u.val ∉ s.acqGroup →
      (s.acqState u = 2 → ∃ t, exec (.acqCmdFire u) s = .next t ∧ t.acqState u = 3 ∧ t.rd64 (ACQ_TRIG_T_LO u) = s.dt % 2 ^ 64 ∧ t.rd64 (ACQ_ORIG_T_LO u) = s.dt % 2 ^ 64 ∧ t.fld (ACQ_ACQ_STAT u) 10 8 = 4 ∧ (t.acq u).fired = some s.dt ∧ (t.acq u).post = 0) ∧
      (s.acqState u = 1 → ∃ t, exec (.acqCmdFire u) s = .next t ∧ t.acqState u = 1 ∧ t.bit (ACQ_ACQ_STAT u) 3 = true ∧ t.fld (ACQ_CNT_EV u) 31 16 = min 65535 (s.fld (ACQ_CNT_EV u) 31 16 + 1) ∧ t.acqs = s.acqs) ∧
      (s.acqState u = 0 ∨ s.acqState u = 3 ∨ s.acqState u = 4 → exec (.acqCmdFire u) s = .next s)) ∧
    (s.acqState u = 1 ∨ s.acqState u = 2 ∨ s.acqState u = 3 ∨ s.acqState u = 5 → ∃ t, exec (.acqCmdStop u) s = .next t ∧ t.acqState u = 4 ∧ (t.acq u).fired = none ∧ (t.acq u).gap = none ∧ (s.acq u).wr < (t.acq u).wr ∧ t.bit (evtPendAt (acqPage u)) 2 = true) ∧
    (s.acqState u = 0 ∨ s.acqState u = 4 → ∃ t, exec (.acqCmdStop u) s = .next t ∧ t.acq u = { s.acq u with armWait := false } ∧ t.regs = s.regs) ∧
    (∃ t, exec (.acqCmdReset u) s = .next t ∧ t.acqState u = 0 ∧ t.acq u = AcqUnit.reset ∧ t.rd (ACQ_WR_OFS u) = 0 ∧ t.rd (ACQ_RD_OFS u) = 0 ∧ t.mem = s.mem) ∧
    (s.acqState u = 0 ∨ s.acqState u = 4 ∨ s.acqInstant u (s.acqNow u) j = false → ∀ full : Bool, exec (.acqSample u j full) s = .next s) ∧
    (s.acqState u = 1 ∨ s.acqState u = 2 → s.acqInstant u (s.acqNow u) j = true → s.bit (ACQ_TRIG_CFG u) 7 = false → (∀ m : Fin 4, s.bit (ACQ_MASK_CFG u m) 0 = false) → (s.acq u).fired = none → (s.acq u).gap = none → s.acqStream u = false →
      (∃ w : State, (w.acq u).idx = ((s.acq u).idx + 1) % 2 ^ 32 ∧ (w.acq u).gap = some ((s.acq u).idx, 1) ∧ w.rd (ACQ_GAP_CNT u) = BitVec.ofNat 32 (min 4294967295 ((s.rd (ACQ_GAP_CNT u)).toNat + 1)) ∧ w.mem = s.mem ∧
        exec (.acqSample u j true) s = .next (w.acqAdvance u (s.acq u).idx 1 (s.acqNow u))) ∧
      ((∀ l, (s.acq u).lastT = some l → l + 4000 ≤ s.acqNow u) → ∃ w : State, (w.acq u).idx = ((s.acq u).idx + 1) % 2 ^ 32 ∧ (w.acq u).lastT = some (s.acqNow u) ∧ w.rd (ACQ_ROWS u) = s.rd (ACQ_ROWS u) + 1 ∧
        (w.acq u).wr = (s.acq u).wr + 4 * (s.sampleRow u (s.acq u).idx (s.acqNow u)).length ∧
        w.mem = (s.regionPut u (s.acq u).wr ((s.sampleRow u (s.acq u).idx (s.acqNow u)).flatMap fun x => leBytes 4 x.toNat)).mem ∧
        exec (.acqSample u j false) s = .next (w.acqAdvance u (s.acq u).idx 1 (s.acqNow u)))) ∧
    (v.toNat < s.regionSize u → (v.toNat + s.regionSize u - (s.acq u).rdp % s.regionSize u) % s.regionSize u ≤ (s.acq u).wr - (s.acq u).rdp → ∃ t, exec (.rdOfsWrite u v) s = .next t ∧ t.rd (ACQ_RD_OFS u) = v ∧
      (t.acq u).rdp % s.regionSize u = v.toNat ∧ (s.acq u).rdp ≤ (t.acq u).rdp) ∧
    (s.regionSize u ≤ v.toNat → s.regionSize u ≠ 0 → ∃ t, exec (.rdOfsWrite u v) s = .next t ∧ t.acqs = s.acqs ∧ t.rd (acqPage u + 0x1C) = errCapNext (s.rd (acqPage u + 0x1C)) .value 37) ∧
    (s.acqActs = [] → s.ring.bcast = none → exec .acqRingAct s = .next s) ∧
    (∀ mask, s.acqActs = [] → s.ring.bcast = some (false, true, mask, s.dt) → mask / 2 ^ u.val % 2 = 1 → s.bit (ACQ_DEAL_CTL 0) (4 + u) = true → s.bit (ACQ_DEAL_CTL 0) 9 = true → s.acqState u = 2 → ∃ t, exec .acqRingAct s = .next t ∧ t.ring.bcast = none ∧
      t.acqState u = 3 ∧ t.fld (ACQ_ACQ_STAT u) 10 8 = 6 ∧ (t.acq u).fired = some s.dt)

/-- A sheaf trigger of an enabled sheaf joins the queue at its place, or is dropped and counted when 16 wait; the oldest is written as a record with the next sequence. A flush trigger waits for the sheaves triggered before it or in its tick; else it writes its record and starts, or waits as the pending cause. What has waited follows the sheaf, or the router action, that it waited for. FLUSH_DONE closes the block in the granary with its header and moves the fill; CLEAR with its key empties the granary. PFAIL flushes where enabled and writes the summary. A released router action acts on its target. EVR_EN delivers what has been waiting, and a route takes a good value only, SAFETY routes only from the safety processor. Where the rules leave a point open, the clauses follow the choice of the model (logs 46, 55). -/
def Obligations.RecorderAndRouter : Prop :=
  ∀ (sheaf : Fin 16) (key : BitVec 16) (r : Requester) (e : Fin 512) (v : W32) (s : State),
    (s.bit REC_REC_CTL 0 = false ∨ s.bit REC_REC_STAT 3 = true → exec (.recCmdSheaf sheaf) s = .next s ∧ exec .recCmdFlush s = .next s) ∧
    (s.bit REC_REC_CTL 0 = true → s.bit REC_REC_STAT 3 = false →
      (s.bit (REC_SHEAF_CFG sheaf) 6 = true → s.recorder.queue.length < 16 → ∃ t, exec (.recCmdSheaf sheaf) s = .next t ∧ t.recorder.queue = insertTrig (s.recTrig sheaf 2 0 s.dt) s.recorder.queue ∧ t.fld REC_REC_STAT 12 8 = s.recorder.queue.length + 1) ∧
      (s.bit (REC_SHEAF_CFG sheaf) 6 = true → 16 ≤ s.recorder.queue.length → ∃ t, exec (.recCmdSheaf sheaf) s = .next t ∧ t.recorder = s.recorder ∧ t.fld REC_CNT_REC 15 0 = min 65535 (s.fld REC_CNT_REC 15 0 + 1)) ∧
      (s.sheafAhead s.dt = true → ∃ t, exec .recCmdFlush s = .next t ∧ t.recorder = { s.recorder with late := s.recorder.late ++ [s.recTrig 0xFF 5 0 s.dt] } ∧ t.mem = s.mem) ∧
      (s.sheafAhead s.dt = false → s.recorder.clearing = true ∨ s.recorder.flush.isSome = true → ∃ t, exec .recCmdFlush s = .next t ∧ t.recorder.pendCause = 5 ∧ t.recorder.pendSeq = (s.rd REC_SEQ).toNat ∧ t.bit REC_REC_STAT 1 = true ∧ t.rd REC_SEQ = s.rd REC_SEQ + 1 ∧ t.fld REC_WR_OFS 18 0 = (s.fld REC_WR_OFS 18 0 + 36) % ringSize) ∧
      (s.sheafAhead s.dt = false → s.recorder.clearing = false → s.recorder.flush = none → ∃ u : State, u.rd REC_SEQ = s.rd REC_SEQ + 1 ∧ u.fld REC_WR_OFS 18 0 = (s.fld REC_WR_OFS 18 0 + 36) % ringSize ∧ exec .recCmdFlush s = .next (u.flushStart 5 (s.rd REC_SEQ).toNat))) ∧
    (s.recorder.queue = [] ∨ s.bit REC_REC_STAT 3 = true → exec .sheafTaken s = .next s) ∧
    (∀ (x : RecTrig) (rest : List RecTrig), s.recorder.queue = x :: rest → s.bit REC_REC_STAT 3 = false → ∃ u : State, u.recorder.queue = rest ∧ u.rd REC_SEQ = s.rd REC_SEQ + 1 ∧
      u.recorder.log = newestWithin ringSize (s.recorder.log ++ [⟨(s.rd REC_SEQ).toNat, s.fld REC_WR_OFS 18 0, 36 + 4 * (s.sheafWords x.sheaf 0 (s.fld (REC_SHEAF_CFG x.sheaf) 5 0)).length⟩]) ∧
      exec .sheafTaken s = .next (u.when (s.bit (REC_SHEAF_CFG x.sheaf) 7) fun st => st.flushTrigger 7 0).flushLate) ∧
    (key ≠ 0xC3A5 → ∃ t, exec (.recCmdClear key) s = .next t ∧ t.recorder = s.recorder ∧ t.rd (recPage + 0x1C) = errCapNext (s.rd (recPage + 0x1C)) .key 18) ∧
    (s.recorder.flush = none → s.recorder.clearing = false → ∃ t, exec (.recCmdClear 0xC3A5) s = .next t ∧ t.recorder.clearing = true ∧ t.bit REC_REC_STAT 4 = true ∧ t.mem = s.mem) ∧
    (s.recorder.flush.isSome = true ∨ s.recorder.clearing = true → ∃ t, exec (.recCmdClear 0xC3A5) s = .next t ∧ t.recorder = s.recorder ∧ t.rd (recPage + 0x1C) = errCapNext (s.rd (recPage + 0x1C)) .busy 18) ∧
    (∀ f, s.recorder.flush = some f → s.bit REC_REC_STAT 1 = false → ∃ t, exec .flushDone s = .next t ∧ t.recorder.flush = none ∧ t.bit REC_REC_STAT 0 = false ∧ t.fld REC_GR_FILL 22 0 = (f.at0 + 64 + recsLen f.recs) % 2 ^ 23 ∧
      t.fld REC_GR_BLOCKS 15 0 = (s.fld REC_GR_BLOCKS 15 0 + 1) % 65536 ∧ t.mem = (s.putBytes (granaryBase + f.at0) (s.blockHeader f true)).mem ∧ (f.cause = 4 ∨ f.pfail = true → t.bit REC_REC_STAT 3 = true)) ∧
    (s.recorder.flush = none → exec .flushDone s = .next s) ∧
    (∃ u : State, u.bit (evtPendAt recPage) 4 = true ∧ u.recorder = s.recorder ∧ u.mem = s.mem ∧ exec .pfail s = .next ((u.when (s.bit REC_FLUSH_CFG 12) fun st => st.flushTrigger 4 0).summaryWrite)) ∧
    (∃ t, exec .pfailRecovery s = .next t ∧ t.bit REC_REC_STAT 3 = false ∧ t.recorder = s.recorder) ∧
    (s.recorder.clearing = false → exec .clearDone s = .next s) ∧
    (s.recorder.clearing = true → s.bit REC_REC_STAT 1 = false → ∃ t, exec .clearDone s = .next t ∧ t.recorder.clearing = false ∧ t.fld REC_GR_FILL 22 0 = 0 ∧ t.fld REC_GR_BLOCKS 15 0 = 0 ∧ t.bit REC_REC_STAT 4 = false ∧
      t.mem = (s.wipe granaryBase (granaryBase + s.grFill)).mem) ∧
    (∃ t, exec .opSecTick s = .next t ∧ t = s.wr REC_OP_SEC (s.rd REC_OP_SEC + 1)) ∧
    (s.actions = [] → exec .routerAction s = .next s) ∧
    (∀ (a : RouterAct) (rest : List RouterAct), s.actions = a :: rest →
      (a.target = 2 → a.arg < 32 → s.fcoLock / 2 ^ a.arg % 2 = 0 → ∃ u : State, u.actions = rest ∧ u.bit ASC_FCO_LVL a.arg = true ∧ u.recorder = s.recorder ∧ exec .routerAction s = .next u.flushLate) ∧
      (a.target = 1 → a.arg < 16 → s.bit REC_REC_CTL 0 = true → s.bit REC_REC_STAT 3 = false → s.bit (REC_SHEAF_CFG a.arg) 6 = true → s.recorder.queue.length < 16 → ∃ u : State, u.actions = rest ∧
        u.recorder.queue = insertTrig (s.recTrig a.arg 0 a.src a.time) s.recorder.queue ∧ exec .routerAction s = .next u.flushLate)) ∧
    (∃ t, exec (.evrEnWrite v) s = .next t ∧ t.rd EVR_EVR_CTL = v &&& 1 ∧ t.mem = s.mem ∧ t.actions = s.actions ∧ (bitOf v 0 = false ∨ s.bit EVR_EVR_CTL 0 = true → t.msix = s.msix) ∧
      (bitOf v 0 = true → s.bit EVR_EVR_CTL 0 = false → routeKind (s.route e) = 1 → s.srcPending e = true → s.bit (PCI_MSIX_TABLE (4 * routeTarget (s.route e) + 3)) 0 = false →
        tabGet 0 (routeTarget (s.route e)) s.msix < tabGet 0 (routeTarget (s.route e)) t.msix)) ∧
    (s.locked evrPage = true → ∃ t, exec (.routeWrite r e v) s = .next t ∧ t.rd (EVR_ROUTE e) = s.rd (EVR_ROUTE e) ∧ t.rd (evrPage + 0x1C) = errCapNext (s.rd (evrPage + 0x1C)) .locked (512 + e.val)) ∧
    (s.locked evrPage = false → routeKind v = 3 ∨ routeKind (s.route e) = 3 → r ≠ .safety → ∃ t, exec (.routeWrite r e v) s = .next t ∧ t.rd (EVR_ROUTE e) = s.rd (EVR_ROUTE e) ∧ t.rd (evrPage + 0x1C) = errCapNext (s.rd (evrPage + 0x1C)) .access (512 + e.val)) ∧
    (s.locked evrPage = false → routeKind v ≠ 3 ∧ routeKind (s.route e) ≠ 3 ∨ r = .safety → routeBad v = false → ∃ t, exec (.routeWrite r e v) s = .next t ∧ t = s.wr (EVR_ROUTE e) (v &&& 0xFF077F07))

/-- A conversion of a channel that is off does nothing; a bad one marks the channel faulty; a good one of a good channel below its shut-down threshold writes the reading and the highest reading, then the thresholds and the bands follow. A shut-down holds the core die in reset, records the sensor and counts; the third within 60 minutes is final. The restart needs every permitting sensor cool. CLR_MAX sets each highest reading to the present one. A measurement with AGE_EN 0 does nothing; the slack, the oscillator, the transitions and the eyes are written before the margins follow. The summary and the daily record write the ledger; a scrub adds the corrected blocks and may shorten the interval; REF_LDC clears the raise of its channel. Where the rules leave a point open, the clauses follow the choice of the model (logs 33, 46). -/
def Obligations.ThermalAndAgeing : Prop :=
  ∀ (k : Fin 14) (v1 v2 : W32) (bad : Bool) (n : BitVec 17) (c : Fin 8) (slack : BitVec 16) (path : Fin 33) (s : State),
    (s.fld (THM_SNS_CFG k) 1 0 = 0 → exec (.sensorConversion k v1 v2 bad) s = .next s) ∧
    (s.fld (THM_SNS_CFG k) 1 0 ≠ 0 → s.convert k v1.toNat v2.toNat bad = none →
      ((s.sensor k).faulty = true → ∃ t, exec (.sensorConversion k v1 v2 bad) s = .next t ∧ (t.sensor k).faulty = true ∧ (t.sensor k).valid = 0 ∧ (t.sensor k).below = none ∧ t.mem = s.mem) ∧
      ((s.sensor k).faulty = false → ∃ u : State, (u.sensor k).faulty = true ∧ u.bit THM_SNS_FAULT k = true ∧ u.bit (evtPendAt thmPage) 2 = true ∧ u.mem = s.mem ∧
        exec (.sensorConversion k v1 v2 bad) s = .next (u.setOver k false false).bandCheck)) ∧
    (∀ x : Int, s.fld (THM_SNS_CFG k) 1 0 ≠ 0 → s.convert k v1.toNat v2.toNat bad = some x → -32768 ≤ x → x ≤ 32767 → (s.sensor k).faulty = false →
      x < ((s.fld (THM_SNS_THR k) 23 16 : Int) - 64) * 256 →
      ∃ u : State, signedOf 16 (u.fld (THM_SNS_TEMP k) 15 0) = x ∧ ((s.sensor k).seen = true → signedOf 16 (u.fld (THM_SNS_TEMP k) 31 16) = max (signedOf 16 (s.fld (THM_SNS_TEMP k) 31 16)) x) ∧
        ((s.sensor k).seen = false → signedOf 16 (u.fld (THM_SNS_TEMP k) 31 16) = x) ∧ (u.sensor k).atSd = 0 ∧ u.mem = s.mem ∧
        exec (.sensorConversion k v1 v2 bad) s = .next (u.setOver k (s.overAfter k THM_WARN 7 0 x) (s.overAfter k THM_THROT 15 8 x)).bandCheck) ∧
    (∀ x : Int, (s.thermalShutdown k x).core = (if 2 ≤ (s.shutdowns.filter fun a => decide (s.fieldTime < a + 14400000000000)).length then .locked else .thermal) ∧
      (s.thermalShutdown k x).rd THM_SD_CNT = s.rd THM_SD_CNT + 1 ∧ (s.thermalShutdown k x).fld THM_SD_REC 3 0 = k ∧ (-64 ≤ x / 256 → x / 256 < 192 → ((s.thermalShutdown k x).fld THM_SD_REC 15 8 : Int) = x / 256 + 64) ∧ (s.thermalShutdown k x).rd GLB_RST_CAUSE = 4 ∧ (s.thermalShutdown k x).dt = 0 ∧ (s.thermalShutdown k x).sensor k = { s.sensor k with atSd := 0 }) ∧
    (s.core = .thermal → (∀ j : Fin 14, s.sensorCool j = true) → (s.memNat granaryBase 64 = 0) → ∃ t, exec .thermalRestart s = .next t ∧ t.core = .running ∧ t.bit THM_THM_STAT 5 = true ∧ t.dt = 0 ∧ t.fieldTime = s.fieldTime ∧ t.bit CLK_REF_STAT 0 = true) ∧
    (s.core ≠ .thermal ∨ s.sensorCool k = false → exec .thermalRestart s = .next s) ∧
    (∃ t, exec .thmClrMax s = .next t ∧ t.fld (THM_SNS_TEMP k) 31 16 = s.fld (THM_SNS_TEMP k) 15 0 ∧ t.fld (THM_SNS_TEMP k) 15 0 = s.fld (THM_SNS_TEMP k) 15 0 ∧ t.mem = s.mem) ∧
    (s.bit AGE_AGE_CTL 0 = false → ∀ m, exec (.ageMeasurement m) s = .next s) ∧
    (s.bit AGE_AGE_CTL 0 = true →
      (∃ u : State, u.fld AGE_SLACK 15 0 = slack.toNat ∧ u.fld AGE_SLACK 21 16 = path ∧ u.age = (if s.firstDay then { s.age with slackRef := slack.toNat } else s.age) ∧ exec (.ageMeasurement (.timing slack path)) s = .next u.replanSlack.marginsUpdate) ∧
      (s.bit LTB_STATUS 12 = true → ∃ t, exec (.ageMeasurement .oscillator) s = .next t ∧ t.age.refErr = signedOf 32 (s.rd LTB_DISC_RATE).toNat) ∧
      (s.bit LTB_STATUS 12 = false → ∃ t, exec (.ageMeasurement .oscillator) s = .next t ∧ t.age.refErr = s.age.refErr) ∧
      (∀ ch : Fin 6, ∃ t, exec (.ageMeasurement (.transition ch)) s = .next t ∧ s.fld AGE_DT_RAISE (4 * ch + 3) (4 * ch) ≤ t.fld AGE_DT_RAISE (4 * ch + 3) (4 * ch) ∧ (t.ldc ch).sums = List.replicate 6 (0, 0)) ∧
      (∀ (kind : Fin 3) (lane : BitVec 6) (w : BitVec 8), ∃ t, exec (.ageMeasurement (.eye kind lane w)) s = .next t ∧ tabGet 0 (kind.val * 64 + lane.toNat) t.age.eyes = w.toNat ∧ t.fld AGE_EYE_MIN 7 0 ≤ w.toNat)) ∧
    (∃ t, exec .ledgerSummary s = .next t ∧ t.age.summary = s.margins ++ [s.vReq, s.fld AGE_CLK_APC 10 0, s.fld AGE_SCRUB 10 8, s.fld AGE_DT_RAISE 23 0] ∧ t.regs = s.regs ∧ t.mem = s.mem ∧ exec .ageSnapshot s = .next t) ∧
    (∃ t, exec .dailyRecord s = .next t ∧ t.age.daily = (((worstMargin s.margins).1, (s.rd REC_OP_SEC).toNat / 3600) :: s.age.daily).take 90 ∧ t.age.corrected = 0 ∧ t.age.shuntLo = [] ∧ t.age.shuntHi = [] ∧ (s.age.daily.length < 6 → t.rd AGE_FORECAST = 0xFFFFFFFF)) ∧
    (∃ t, exec (.mramScrub n) s = .next t ∧ t.age.corrected = s.age.corrected + n.toNat ∧ (16 < n.toNat → t.fld AGE_SCRUB 10 8 = min 4 (s.fld AGE_SCRUB 10 8 + 1)) ∧
      (s.fld AGE_SCRUB 10 8 ≤ 4 → s.fld AGE_SCRUB 10 8 ≤ t.fld AGE_SCRUB 10 8)) ∧
    (6 ≤ c.val → ∃ t, exec (.ageRefLdc c) s = .next t ∧ t.age = s.age ∧ t.rd (agePage + 0x1C) = errCapNext (s.rd (agePage + 0x1C)) .value 30) ∧
    (c.val < 6 → ∃ t, exec (.ageRefLdc c) s = .next t ∧ t.fld AGE_DT_RAISE (4 * c.val + 3) (4 * c.val) = 0 ∧ tabGet 0 c.val t.age.transRef = tabGet 0 c.val t.age.transNow)

/-- A reset of the endpoint returns the PCI and DMA pages and touches nothing else; the link going down returns the DMA page. START of a channel with EN 0 is refused; an idle one takes up the descriptor at DESC_ADDR, or fails with code 2 or 1; a running one sets PEND, or drops the start. A descriptor that moves between mapped memory, to its end, is counted; an error stops the channel with its code. ABORT clears PEND and ends the chain. A good frame that fits goes to the descriptor that HEAD points at; without a descriptor it is dropped and counted. A transmit returns its descriptor. TAIL, the link, the PTP measurement and MDIO show in their registers. Where the rules leave a point open, the clauses follow the choice of the model (logs 34, 46, 50). -/
def Obligations.HostPortCommands : Prop :=
  ∀ (c : Fin 8) (p : Fin 2) (m : BitVec 10) (v : W32) (d16 : BitVec 16) (f data : List Byte) (e : Fin 6) (n : BitVec 24) (speed : Fin 4) (width : Fin 16) (link an : Bool) (sp : Fin 3) (s : State),
    (∃ t, exec .perst s = .next t ∧ t.rd PCI_LINK_STAT = 0 ∧ t.dmaState c = 0 ∧ t.mem = s.mem ∧ t.axes = s.axes ∧ t.rd GLB_BOOT_STAT = s.rd GLB_BOOT_STAT ∧ t.rd PCI_PCI_ID = s.rd PCI_PCI_ID) ∧
    (∃ t, exec .flr s = .next t ∧ t.dmaState c = 0 ∧ t.rd PCI_LINK_STAT = s.rd PCI_LINK_STAT ∧ t.bit (evtPendAt pciPage) 5 = true ∧ t.mem = s.mem ∧ t.axes = s.axes) ∧
    (s.bit PCI_LINK_STAT 8 = false → exec .pcieLinkDown s = .next s) ∧
    (s.bit PCI_LINK_STAT 8 = true → ∃ t, exec .pcieLinkDown s = .next t ∧ t.bit PCI_LINK_STAT 8 = false ∧ t.dmaState c = 0 ∧ t.bit (evtPendAt pciPage) 0 = true ∧ t.mem = s.mem) ∧
    (speed.val ≠ 0 → width.val = 1 ∨ width.val = 2 ∨ width.val = 4 → ∃ t, exec (.pcieLinkUp speed width) s = .next t ∧ t.fld PCI_LINK_STAT 3 0 = speed ∧ t.fld PCI_LINK_STAT 7 4 = width ∧ t.bit PCI_LINK_STAT 8 = true ∧ t.bit (evtPendAt pciPage) 3 = true) ∧
    (speed.val = 0 ∨ width.val = 0 ∨ width.val = 3 ∨ 4 < width.val → exec (.pcieLinkUp speed width) s = .next s) ∧
    (s.bit (DMA_CH_CTL c) 0 = false → ∃ t, exec (.dmaStart c) s = .next t ∧ t.rd (DMA_CH_STAT c) = s.rd (DMA_CH_STAT c) ∧ t.rd (dmaPage + 0x1C) = errCapNext (s.rd (dmaPage + 0x1C)) .state ((0x104 + 32 * c.val) / 4)) ∧
    (s.bit (DMA_CH_CTL c) 0 = true → s.dmaState c ≠ 1 →
      (s.ringMem (s.fld (DMA_DESC_ADDR c) 27 0 * 32) = true → s.dmaInvalid (dmaDescOf (s.bytesAt (s.fld (DMA_DESC_ADDR c) 27 0 * 32) 32)) = false → ∃ t, exec (.dmaStart c) s = .next t ∧ t.rd (DMA_CH_STAT c) = 1 ∧
        t.fld (DMA_CUR_DESC c) 27 0 = s.fld (DMA_DESC_ADDR c) 27 0 ∧ tabGet [] c.val t.dmaDesc = s.bytesAt (s.fld (DMA_DESC_ADDR c) 27 0 * 32) 32 ∧ t.mem = s.mem) ∧
      (s.ringMem (s.fld (DMA_DESC_ADDR c) 27 0 * 32) = false → ∃ t, exec (.dmaStart c) s = .next t ∧ t.dmaState c = 2 ∧ t.fld (DMA_CH_STAT c) 7 4 = 2 ∧ t.fld (DMA_CNT c) 31 24 = min 255 (s.fld (DMA_CNT c) 31 24 + 1)) ∧
      (s.ringMem (s.fld (DMA_DESC_ADDR c) 27 0 * 32) = true → s.dmaInvalid (dmaDescOf (s.bytesAt (s.fld (DMA_DESC_ADDR c) 27 0 * 32) 32)) = true → ∃ t, exec (.dmaStart c) s = .next t ∧ t.dmaState c = 2 ∧ t.fld (DMA_CH_STAT c) 7 4 = 1)) ∧
    (s.bit (DMA_CH_CTL c) 0 = true → s.dmaState c = 1 → s.bit (DMA_CH_STAT c) 2 = false → ∃ t, exec (.dmaStart c) s = .next t ∧ t = s.wrBit (DMA_CH_STAT c) 2 true) ∧
    (s.bit (DMA_CH_CTL c) 0 = true → s.dmaState c = 1 → s.bit (DMA_CH_STAT c) 2 = true → ∃ t, exec (.dmaStart c) s = .next t ∧ t.rd (DMA_CH_STAT c) = s.rd (DMA_CH_STAT c) ∧ t.fld (DMA_CNT c) 23 16 = min 255 (s.fld (DMA_CNT c) 23 16 + 1)) ∧
    (s.dmaState c ≠ 1 → exec (.dmaDescriptorDone c data e n) s = .next s) ∧
    (∀ d : DmaDesc, dmaDescOf (tabGet [] c.val s.dmaDesc) = d → s.dmaState c = 1 → d.srcHost = false ∨ d.len ≤ data.length → ((s.granted 2 0 c).dmaMove c d data d.len).err = 0 → ∃ u : State,
      u.fld (DMA_CNT c) 15 0 = (((s.granted 2 0 c).dmaMove c d data d.len).st.fld (DMA_CNT c) 15 0 + 1) % 65536 ∧ (d.evt = true → u.bit (evtPendAt dmaPage) c = true) ∧ u.mem = ((s.granted 2 0 c).dmaMove c d data d.len).st.mem ∧
      exec (.dmaDescriptorDone c data 0 n) s = .next (if d.last then u.dmaChainEnd c else u.dmaFetch c d.next)) ∧
    (∀ d : DmaDesc, dmaDescOf (tabGet [] c.val s.dmaDesc) = d → s.dmaState c = 1 → d.srcHost = true → min n.toNat d.len ≤ data.length → ((s.granted 2 0 c).dmaMove c d data (min n.toNat d.len)).err = 0 →
      ∃ t, exec (.dmaDescriptorDone c data 3 n) s = .next t ∧ t.dmaState c = 2 ∧ t.fld (DMA_CH_STAT c) 7 4 = 3 ∧ t.bit (evtPendAt pciPage) 1 = true) ∧
    (s.dmaState c ≠ 1 → ∃ t, exec (.dmaAbort c m data) s = .next t ∧ t = s.wrBit (DMA_CH_STAT c) 2 false) ∧
    (∀ d : DmaDesc, dmaDescOf (tabGet [] c.val s.dmaDesc) = d → s.dmaState c = 1 → (s.dmaMove c d data (min (min m.toNat 512) (if d.srcHost = true then min d.len data.length else d.len))).err = 0 →
      ∃ u : State, u = (s.dmaMove c d data (min (min m.toNat 512) (if d.srcHost = true then min d.len data.length else d.len))).st ∧ exec (.dmaAbort c m data) s = .next (u.dmaStop c)) ∧
    (s.bit (ETH_ETH_CTL p) 0 = false ∨ f.length < 60 → ∀ ok, exec (.ethRxFrame p f ok) s = .next s) ∧
    (s.bit (ETH_ETH_CTL p) 0 = true → 60 ≤ f.length → (s.ethFilter p f).1 = true → isPause f = false → f.length + 4 ≤ s.fld (ETH_ETH_CTL p) 31 16 → f.length ≤ s.fld (ETH_RX_BUF p) 13 0 →
      (s.ringOwn (ringAt (s.fld (ETH_RX_BASE p) 27 0) (s.fld (ETH_HEAD p) 27 16)) (s.fld (ETH_HEAD p) 27 16) (s.fld (ETH_TAIL p) 27 16) = true → ∃ t, exec (.ethRxFrame p f true) s = .next t ∧
        t.fld (ETH_HEAD p) 27 16 = (s.fld (ETH_HEAD p) 27 16 + 1) % max 1 (s.fld (ETH_RING_LEN p) 27 16) ∧ t.bit (evtPendAt (ethPage p)) 3 = true) ∧
      (s.ringOwn (ringAt (s.fld (ETH_RX_BASE p) 27 0) (s.fld (ETH_HEAD p) 27 16)) (s.fld (ETH_HEAD p) 27 16) (s.fld (ETH_TAIL p) 27 16) = false → ∃ t, exec (.ethRxFrame p f true) s = .next t ∧
        t.fld (ETH_HEAD p) 27 16 = s.fld (ETH_HEAD p) 27 16 ∧ t.bit (evtPendAt (ethPage p)) 1 = true ∧ t.fld (ETH_CNT_ERR p) 15 8 = min 255 (s.fld (ETH_CNT_ERR p) 15 8 + 1) ∧ t.mem = s.mem)) ∧
    (s.bit (ETH_ETH_CTL p) 0 = true → 60 ≤ f.length → (s.ethFilter p f).1 = true → s.bit (ETH_PTP_CTL p) 0 = false → ∃ t, exec (.ethRxFrame p f false) s = .next t ∧ t.fld (ETH_CNT_ERR p) 7 0 = min 255 (s.fld (ETH_CNT_ERR p) 7 0 + 1) ∧ t.mem = s.mem) ∧
    (s.bit (ETH_ETH_CTL p) 0 = true → 60 ≤ f.length → isPause f = true → s.bit (ETH_ETH_CTL p) 3 = true → ∃ t, exec (.ethRxFrame p f true) s = .next t ∧ tabGet 0 p.val t.ethPause = s.dt + beAt f 16 2 * 512 * s.ethBit p ∧ t.mem = s.mem ∧ t.regs = s.regs) ∧
    (s.bit (ETH_ETH_CTL p) 0 = false ∨ s.dt < tabGet 0 p.val s.ethPause ∨ s.fld (ETH_HEAD p) 11 0 = s.fld (ETH_TAIL p) 11 0 → exec (.ethTxDone p) s = .next s) ∧
    (s.bit (ETH_ETH_CTL p) 0 = true → tabGet 0 p.val s.ethPause ≤ s.dt → s.bit (ETH_PTP_CTL p) 4 = false → s.ringOwn (ringAt (s.fld (ETH_TX_BASE p) 27 0) (s.fld (ETH_HEAD p) 11 0)) (s.fld (ETH_HEAD p) 11 0) (s.fld (ETH_TAIL p) 11 0) = true →
      ∃ t, exec (.ethTxDone p) s = .next t ∧ t.fld (ETH_HEAD p) 11 0 = (s.fld (ETH_HEAD p) 11 0 + 1) % max 1 (s.fld (ETH_RING_LEN p) 11 0) ∧ t.bit (evtPendAt (ethPage p)) 4 = true ∧
        tabGet [] p.val t.ethOut = s.bytesAt (s.memNat (ringAt (s.fld (ETH_TX_BASE p) 27 0) (s.fld (ETH_HEAD p) 11 0)) 8 % 2 ^ 33) (s.memNat (ringAt (s.fld (ETH_TX_BASE p) 27 0) (s.fld (ETH_HEAD p) 11 0) + 8) 4 % 2 ^ 14)) ∧
    (∃ t, exec (.ethTailWrite p v) s = .next t ∧ t = s.wr (ETH_TAIL p) (v &&& 0x0FFF0FFF)) ∧
    (∃ t, exec (.ethLinkChg p link sp an) s = .next t ∧ t.bit (ETH_ETH_STAT p) 0 = link ∧ t.fld (ETH_ETH_STAT p) 2 1 = (if s.bit (ETH_ETH_CTL p) 1 = true then sp.val else 2) ∧
      t.bit (ETH_ETH_STAT p) 3 = (an && s.bit (ETH_ETH_CTL p) 2) ∧ (t.rd (ETH_ETH_STAT p) ≠ s.rd (ETH_ETH_STAT p) → t.bit (evtPendAt (ethPage p)) 0 = true)) ∧
    (∃ t, exec (.ptpCommit p v) s = .next t ∧ t.rd (ETH_PTP_T_HI p) = v ∧ (s.fld LTB_DISC_CTL 1 0 ≠ 2 ∨ s.bit (ETH_PTP_CTL p) 5 = false → t.ltb = s.ltb) ∧
      (s.fld LTB_DISC_CTL 1 0 = 2 → s.bit (ETH_PTP_CTL p) 5 = true → t.ltb.ptpSeen = true ∧ (s.ltb.ptpSeen = false → t.bit LTB_STATUS 11 = true ∧ t.bit LTB_STATUS 15 = true))) ∧
    (s.bit (ETH_MDIO 0) 12 = false → ∃ t, exec (.mdioGo v) s = .next t ∧ t.bit (ETH_MDIO 0) 12 = true ∧ t.fld (ETH_MDIO 0) 31 16 = fldOf v 31 16 ∧ t.fld (ETH_MDIO 0) 10 0 = fldOf v 10 0) ∧
    (s.bit (ETH_MDIO 0) 12 = true → ∃ t, exec (.mdioGo v) s = .next t ∧ t.rd (ETH_MDIO 0) = s.rd (ETH_MDIO 0) ∧ t.rd (ethPage 0 + 0x1C) = errCapNext (s.rd (ethPage 0 + 0x1C)) .busy 40) ∧
    (s.bit (ETH_MDIO 0) 12 = false → exec (.mdioDone d16) s = .next s) ∧
    (s.bit (ETH_MDIO 0) 12 = true → ∃ t, exec (.mdioDone d16) s = .next t ∧ t.bit (ETH_MDIO 0) 12 = false ∧ (s.bit (ETH_MDIO 0) 10 = true → t.fld (ETH_MDIO 0) 31 16 = d16.toNat) ∧ (s.bit (ETH_MDIO 0) 10 = false → t.fld (ETH_MDIO 0) 31 16 = s.fld (ETH_MDIO 0) 31 16))

/-- A flash command of a good length starts; busy or a bad length is refused; READ gives the bytes, ERASE leaves its unit erased. A block of the user partition is written, another address is refused. BYPASS, IDCODE and SAMPLE are always open; EXTEST, CLAMP and HIGHZ need the life cycle and everything off. DBG_ACCESS is refused when locked, open to BLANK and RETURN, else it starts a challenge; a good response opens the session with its permissions, a bad one counts, the third locks. A halt needs its permission bit, and in PRODUCE one with the freeze option is refused; the end of the session takes them all back. Where the rules leave a point open, the clauses follow the choice of the model (logs 34, 46). -/
def Obligations.FlashMramJtagDebug : Prop :=
  ∀ (len : Fin 512) (bad : Bool) (mask : BitVec 7) (tg : Fin 14) (fz : Bool) (s : State),
    (s.bit MEM_MEM_STAT 1 = true → ∃ e : State, e = s.err memPage .busy 0x58 ∧ exec (.flRead len) s = .next e ∧ exec (.flProgram len) s = .next e ∧ exec (.flErase len) s = .next e) ∧
    (s.bit MEM_MEM_STAT 1 = false →
      (len.val = 0 ∨ 256 < len.val → ∃ t, exec (.flRead len) s = .next t ∧ exec (.flProgram len) s = .next t ∧ t.flashCmd = s.flashCmd ∧ t.rd (memPage + 0x1C) = errCapNext (s.rd (memPage + 0x1C)) .value 22) ∧
      (0 < len.val → len.val ≤ 256 → ∃ t, exec (.flRead len) s = .next t ∧ t.flashCmd = some ⟨1, s.fld MEM_FL_ADDR 28 0, len⟩ ∧ t.bit MEM_MEM_STAT 1 = true ∧ t.flash = s.flash) ∧
      (0 < len.val → len.val ≤ 256 → s.fld MEM_FL_ADDR 28 0 % s.flashGeo.page + len ≤ s.flashGeo.page → ∃ t, exec (.flProgram len) s = .next t ∧ t.flashCmd = some ⟨2, s.fld MEM_FL_ADDR 28 0, len⟩ ∧ t.bit MEM_MEM_STAT 1 = true) ∧
      (0 < len.val → len.val ≤ 256 → s.flashGeo.page < s.fld MEM_FL_ADDR 28 0 % s.flashGeo.page + len → ∃ t, exec (.flProgram len) s = .next t ∧ t.flashCmd = s.flashCmd ∧ t.rd (memPage + 0x1C) = errCapNext (s.rd (memPage + 0x1C)) .value 22) ∧
      (∃ t, exec (.flErase len) s = .next t ∧ t.flashCmd = some ⟨3, s.fld MEM_FL_ADDR 28 0, len⟩ ∧ t.bit MEM_MEM_STAT 1 = true ∧ t.flash = s.flash)) ∧
    (s.flashCmd = none → exec (.flDone bad) s = .next s) ∧
    (∀ c : FlashCmd, s.flashCmd = some c → ∃ t, exec (.flDone bad) s = .next t ∧ t.flashCmd = none ∧ t.bit MEM_MEM_STAT 1 = false ∧ t.bit (evtPendAt memPage) (if bad then 5 else 4) = true ∧ t.mem = s.mem ∧
      (c.kind = 1 → t.flash = s.flash) ∧
      (bad = false → c.kind = 1 → 4 ≤ c.len → c.len ≤ 256 → ∀ k : Fin 4, t.fld (MEM_FL_BUF 0) (8 * k + 7) (8 * k) = (s.flashByte (c.addr + k)).toNat) ∧
      (bad = false → c.kind = 3 → 0 < s.flashGeo.unit → ∀ a, a / s.flashGeo.unit = c.addr / s.flashGeo.unit → t.flashByte a = 0xFF)) ∧
    (s.bit MEM_MEM_STAT 0 = true → ∃ t, exec .mwWrite s = .next t ∧ t.mramCmd = s.mramCmd ∧ t.mem = s.mem ∧ t.rd (memPage + 0x1C) = errCapNext (s.rd (memPage + 0x1C)) .busy 20) ∧
    (s.bit MEM_MEM_STAT 0 = false → s.fld MEM_MW_ADDR 22 6 * 64 < 0x600000 → ∃ t, exec .mwWrite s = .next t ∧ t.mramCmd = s.mramCmd ∧ t.mem = s.mem ∧ t.rd (memPage + 0x1C) = errCapNext (s.rd (memPage + 0x1C)) .value 19) ∧
    (s.bit MEM_MEM_STAT 0 = false → 0x600000 ≤ s.fld MEM_MW_ADDR 22 6 * 64 → ∃ t, exec .mwWrite s = .next t ∧ t.bit MEM_MEM_STAT 0 = true ∧ t.mem = s.mem ∧
      t.mramCmd = some (0x03800000 + s.fld MEM_MW_ADDR 22 6 * 64, (List.range 16).flatMap fun k => leBytes 4 (s.rd (MEM_MW_BUF k)).toNat)) ∧
    (s.mramCmd = none → exec .mwDone s = .next s) ∧
    (∀ (a : Nat) (bs : List Byte), s.mramCmd = some (a, bs) → ∃ t, exec .mwDone s = .next t ∧ t.mramCmd = none ∧ t.bit MEM_MEM_STAT 0 = false ∧ t.mem = (s.putBytes a bs).mem ∧ t.bit (evtPendAt memPage) 3 = true) ∧
    exec .bypass s = .next { s with jtagIr := .bypass } ∧ exec .samplePreload s = .next { s with jtagIr := .sample } ∧
    (∃ t, exec .idcode s = .next t ∧ t.jtagIr = .idcode ∧ t.jtagDr.getLsbD 0 = true ∧ fldOf t.jtagDr 31 28 = 2 ∧ fldOf t.jtagDr 27 12 = 0x6480) ∧
    (s.boundaryOk = true → exec .extest s = .next { s with jtagIr := .extest } ∧ exec .highz s = .next { s with jtagIr := .highz } ∧ exec .jtagClamp s = .next { s with jtagIr := .clamp }) ∧
    ((∃ n : Fin 64, (s.axis n).st ≠ .off) ∨ (s.lifeCycle = 1 ∧ s.bit LCS_DBG_STAT 7 = false) ∨ s.lifeCycle = 2 → exec .extest s = .next s ∧ exec .highz s = .next s ∧ exec .jtagClamp s = .next s) ∧
    (s.bit LCS_DBG_STAT 10 = true → exec .dbgAccess s = .next s ∧ exec (.debugAuth mask true) s = .next s) ∧
    (s.bit LCS_DBG_STAT 10 = false → s.lifeCycle = 0 ∨ s.lifeCycle = 3 → ∃ t, exec .dbgAccess s = .next t ∧ t.jtagIr = .dbgAccess ∧ t.fld LCS_DBG_STAT 7 0 = 0xFF) ∧
    (s.bit LCS_DBG_STAT 10 = false → s.lifeCycle = 1 ∨ s.lifeCycle = 2 → ∃ t, exec .dbgAccess s = .next t ∧ t.jtagIr = .dbgAccess ∧ t.nonce.length = 12 ∧ t.rd LCS_DBG_STAT = s.rd LCS_DBG_STAT ∧ s.free < t.free) ∧
    (s.bit LCS_DBG_STAT 10 = false → s.jtagIr = .dbgAccess → s.nonce ≠ [] →
      (s.bit LCS_KEY_STAT 1 = true → ∃ t, exec (.debugAuth mask true) s = .next t ∧ t.nonce = [] ∧ t.bit LCS_DBG_STAT 7 = true ∧ t.fld LCS_DBG_STAT 6 0 = (if s.inProduce = true then mask.toNat &&& 5 else mask.toNat)) ∧
      (∃ t, exec (.debugAuth mask false) s = .next t ∧ t.nonce = [] ∧ t.fld LCS_DBG_STAT 9 8 = min 3 (s.fld LCS_DBG_STAT 9 8 + 1) ∧ (2 ≤ s.fld LCS_DBG_STAT 9 8 → t.bit LCS_DBG_STAT 10 = true) ∧ t.bit (evtPendAt lcsPage) 1 = true)) ∧
    (s.jtagIr ≠ .dbgAccess ∨ s.nonce = [] → exec (.debugAuth mask bad) s = .next s) ∧
    (tg.val < 4 → s.bit LCS_DBG_STAT 7 = false ∨ s.bit LCS_DBG_STAT 2 = false → exec (.debugHalt tg fz) s = .next s) ∧
    (tg.val < 4 → s.bit LCS_DBG_STAT 7 = true → s.bit LCS_DBG_STAT 2 = true → s.fld APC_CORE_STAT (2 * tg + 1) (2 * tg) ≠ 0 → ∃ t, exec (.debugHalt tg false) s = .next t ∧ t.fld APC_CORE_STAT (2 * tg + 1) (2 * tg) = 3 ∧ t.dbgHalt = s.dbgHalt ||| 2 ^ tg.val ∧ t.mem = s.mem) ∧
    (∀ i : Fin 9, tg.val = 4 + i.val → s.inProduce = false → s.bit LCS_DBG_STAT 7 = true → s.bit LCS_DBG_STAT 3 = true → ∃ t, exec (.debugHalt tg false) s = .next t ∧ (t.lpu i).halted = true ∧ t.regs = s.regs) ∧
    (s.inProduce = true → tg.val < 4 ∨ tg.val = 13 → exec (.debugHalt tg true) s = .next s) ∧
    (tg.val = 13 → s.inProduce = false → s.bit LCS_DBG_STAT 7 = true → s.bit LCS_DBG_STAT 4 = true → s.bit LCS_DBG_STAT 5 = true → ∃ t, exec (.debugHalt tg true) s = .next t ∧ t.dbgHalt = s.dbgHalt ||| 32 ∧ t.freezeAt.isSome = true ∧ (s.freezeAt = none → t.bit (GDV_FLT_STAT 5) 12 = true)) ∧
    (s.bit LCS_DBG_STAT 7 = false → exec .debugSessionEnd s = .next s) ∧
    (s.bit LCS_DBG_STAT 7 = true → ∃ t, exec .debugSessionEnd s = .next t ∧ t.fld LCS_DBG_STAT 7 0 = 0 ∧ t.dbgHalt = 0 ∧ t.freezeAt = none ∧ t.mem = s.mem ∧ (∀ cr : Fin 4, s.dbgHalt / 2 ^ cr.val % 2 = 1 → t.fld APC_CORE_STAT (2 * cr + 1) (2 * cr) = 1))

/-- READ of a receive object copies it to BUF and clears NEW and LOST; of another object it is refused. WRITE of a transmit object takes the flags and the data of BUF, over a pending one with LOST and a count, and at the end of its frame where it is on the bus. SEND sets TX_PEND and starts a frame when the controller has none on the bus and may send. ABORT clears TX_PEND. A write of OBJ_ID or OBJ_CTL is refused with DIR 3, with FDF and RTR together, in an enabled object that it would change, and where the identifier is taken. Where the rules leave a point open, the clauses follow the choice of the model (log 35). -/
def Obligations.CanObjects : Prop :=
  ∀ (c : Fin 2) (o : Fin 128) (v : W32) (s : State),
    (s.canDir c o ≠ 1 → ∃ t, exec (.canObjRead c o) s = .next t ∧ t.bit (CAN_OBJ_STAT c) 1 = true ∧ t.canNew c o = s.canNew c o ∧ t.rd (CAN_BUF_ID c) = s.rd (CAN_BUF_ID c) ∧ t.rd (canPage c + 0x1C) = errCapNext (s.rd (canPage c + 0x1C)) .state 25) ∧
    (s.canDir c o = 1 → ∃ t, exec (.canObjRead c o) s = .next t ∧ t.canNew c o = false ∧ t.canLost c o = false ∧ t.bit (CAN_OBJ_STAT c) 1 = false ∧ t.canObjs = s.canObjs ∧ t.cans = s.cans ∧
      t.fld (CAN_BUF_ID c) 28 0 = (s.canObj c o).frame.id.toNat ∧ t.bit (CAN_BUF_ID c) 29 = (s.canObj c o).frame.ide ∧ t.fld (CAN_BUF_FLAGS c) 3 0 = (s.canObj c o).frame.dlc.toNat ∧ t.bit (CAN_BUF_FLAGS c) 8 = s.canNew c o ∧
      t.bit (CAN_BUF_FLAGS c) 9 = s.canLost c o ∧ t.rd64 (CAN_BUF_T_LO c) = (s.canObj c o).time % 2 ^ 64 ∧ (∀ k : Fin 16, t.rd (CAN_BUF_DATA c k) = BitVec.ofNat 32 (leNat ((((s.canObj c o).frame.data ++ List.replicate 64 0).drop (4 * k)).take 4)))) ∧
    (s.canDir c o ≠ 2 → ∃ t, exec (.canObjWrite c o) s = .next t ∧ exec (.canObjSend c o) s = .next t ∧ exec (.canObjWriteSend c o) s = .next t ∧ t.bit (CAN_OBJ_STAT c) 1 = true ∧ t.canObjs = s.canObjs ∧ t.canPend c o = s.canPend c o) ∧
    (s.canDir c o = 2 →
      (s.canPend c o = false → (∀ f, (s.can c).cur ≠ some (o.val, f)) → ∃ t, exec (.canObjWrite c o) s = .next t ∧ (t.canObj c o).frame = s.canBuf c o ∧ t.canPend c o = false ∧ t.canLost c o = s.canLost c o ∧ t.bit (CAN_OBJ_STAT c) 1 = false ∧ t.cans = s.cans) ∧
      (s.canPend c o = true → (∀ f, (s.can c).cur ≠ some (o.val, f)) → ∃ t, exec (.canObjWrite c o) s = .next t ∧ (t.canObj c o).frame = s.canBuf c o ∧ t.canPend c o = true ∧ t.canLost c o = true ∧ t.fld (CAN_CNT_CAN c) 15 8 = min 255 (s.fld (CAN_CNT_CAN c) 15 8 + 1) ∧ t.bit (evtPendAt (canPage c)) 5 = true) ∧
      (∀ f, (s.can c).cur = some (o.val, f) → ∃ t, exec (.canObjWrite c o) s = .next t ∧ t.canObj c o = s.canObj c o ∧ (t.can c).cur = some (o.val, f) ∧ (t.can c).wait = some (s.canBuf c o)) ∧
      (∃ t, exec (.canObjSend c o) s = .next t ∧ t.canPend c o = true ∧ t.canObjs = s.canObjs ∧ ((s.can c).cur = none → s.canSends c = true → (t.can c).cur.isSome = true) ∧ (s.canSends c = false → t.cans = s.cans)) ∧
      (s.canPend c o = false → (∀ f, (s.can c).cur ≠ some (o.val, f)) → ∃ t, exec (.canObjWriteSend c o) s = .next t ∧ (t.canObj c o).frame = s.canBuf c o ∧ t.canPend c o = true)) ∧
    (∃ t, exec (.canObjAbort c o) s = .next t ∧ t.canPend c o = false ∧ t.canObjs = s.canObjs ∧ t.cans = s.cans ∧ t.bit (CAN_OBJ_STAT c) 1 = false) ∧
    (fldOf v 1 0 = 3 ∨ (bitOf v 3 = true ∧ bitOf v 5 = true) → ∃ t, exec (.canObjConfig c o true v) s = .next t ∧ t.rd (CAN_OBJ_CTL c o) = s.rd (CAN_OBJ_CTL c o) ∧ t.rd (canPage c + 0x1C) = errCapNext (s.rd (canPage c + 0x1C)) .value (257 + 2 * o.val)) ∧
    (fldOf v 1 0 ≠ 3 → bitOf v 3 = false ∨ bitOf v 5 = false →
      (s.canDir c o ≠ 0 → fldOf v 1 0 ≠ s.canDir c o → fldOf v 1 0 ≠ 0 → ∃ t, exec (.canObjConfig c o true v) s = .next t ∧ t.rd (CAN_OBJ_CTL c o) = s.rd (CAN_OBJ_CTL c o) ∧ t.rd (canPage c + 0x1C) = errCapNext (s.rd (canPage c + 0x1C)) .state (257 + 2 * o.val)) ∧
      (s.canDir c o = 0 → fldOf v 1 0 ≠ 0 → s.canClash c o (s.rd (CAN_OBJ_ID c o)) = true → ∃ t, exec (.canObjConfig c o true v) s = .next t ∧ t.rd (CAN_OBJ_CTL c o) = s.rd (CAN_OBJ_CTL c o) ∧ t.rd (canPage c + 0x1C) = errCapNext (s.rd (canPage c + 0x1C)) .value (257 + 2 * o.val)) ∧
      (s.canDir c o = 0 ∨ fldOf v 1 0 = s.canDir c o → fldOf v 1 0 ≠ 0 → s.canClash c o (s.rd (CAN_OBJ_ID c o)) = false → ∃ t, exec (.canObjConfig c o true v) s = .next t ∧ t = s.wr (CAN_OBJ_CTL c o) (v &&& 0x3F)) ∧
      (fldOf v 1 0 = 0 → (∀ f, (s.can c).cur = some (o.val, f) → ∃ t, exec (.canObjConfig c o true v) s = .next t ∧ t.regs = s.regs ∧ (t.can c).off = some (v &&& 0x3F)) ∧
        ((∀ f, (s.can c).cur ≠ some (o.val, f)) → ∃ t, exec (.canObjConfig c o true v) s = .next t ∧ t = s.wr (CAN_OBJ_CTL c o) (v &&& 0x3F)))) ∧
    (s.canDir c o = 0 → ∃ t, exec (.canObjConfig c o false v) s = .next t ∧ t = s.wr (CAN_OBJ_ID c o) (v &&& 0x3FFFFFFF)) ∧
    (s.canDir c o ≠ 0 → v &&& 0x3FFFFFFF ≠ s.rd (CAN_OBJ_ID c o) → ∃ t, exec (.canObjConfig c o false v) s = .next t ∧ t.rd (CAN_OBJ_ID c o) = s.rd (CAN_OBJ_ID c o) ∧ t.rd (canPage c + 0x1C) = errCapNext (s.rd (canPage c + 0x1C)) .state (256 + 2 * o.val))

/-- A frame of a controller that takes part is taken into the lowest matching receive object with its flag, or counted as unmatched; over an unread one LOST is set; a recessive res bit is a protocol exception, which ends on its command. A frame sent clears its request and lowers TEC. An error writes LEC and raises TEC by 8 or REC by 1 or 8; arbitration lost leaves both. Above 255 the controller is bus-off, its requests fail. RECOVER is refused unless bus-off; recovery clears the counters. Leaving INIT needs sound timing; a mode takes effect on its command but not while bus-off. The injector is refused when locked or with a bad mode, else armed. Where the rules leave a point open, the clauses follow the choice of the model (logs 35, 46). -/
def Obligations.CanTraffic : Prop :=
  ∀ (c : Fin 2) (f : CanFrame) (sof : BitVec 64) (r tx dom exc : Bool) (code : Fin 7) (tdcv : BitVec 8) (v : W32) (s : State),
    (s.canOn c = false → exec (.canFrameReceived c f sof r) s = .next s ∧ exec (.canBusError c code true tx dom exc) s = .next s) ∧
    (s.canOn c = true → f.fdf = true → s.bit (CAN_CAN_CTL c) 2 = true → ∃ t, exec (.canFrameReceived c f sof true) s = .next t ∧ t.bit (CAN_CAN_STAT c) 4 = true ∧ t.fld (CAN_CNT_CAN c) 31 24 = min 255 (s.fld (CAN_CNT_CAN c) 31 24 + 1) ∧ t.bit (evtPendAt (canPage c)) 3 = true ∧ t.canObjs = s.canObjs) ∧
    (s.canOn c = true → f.fdf = false ∨ (s.bit (CAN_CAN_CTL c) 2 = true ∧ r = false) → s.bit (canPage c + 0x02C) 31 = false →
      (∀ o : Fin 128, s.canMatch c f = some o.val → ∃ u : State, u.canObj c o = ⟨{ f with data := f.data.take (if f.rtr then 0 else dlcBytes f.fdf f.dlc.toNat) }, sof.toNat / 50 * 50⟩ ∧ u.canNew c o = true ∧
        (s.canNew c o = true → u.canLost c o = true ∧ u.fld (CAN_CNT_CAN c) 15 8 = min 255 (s.fld (CAN_CNT_CAN c) 15 8 + 1)) ∧ (s.bit (CAN_OBJ_CTL c o) 2 = true → u.bit (evtPendAt (canPage c)) 4 = true) ∧
        exec (.canFrameReceived c f sof r) s = .next (((u.canCounters c (s.tec c) (recAfter s.free (s.rec_ c))).canEnd c).canStart c)) ∧
      (s.canMatch c f = none → ∃ u : State, u.canObjs = s.canObjs ∧ u.fld (CAN_CNT_CAN c) 23 16 = min 255 (s.fld (CAN_CNT_CAN c) 23 16 + 1) ∧ u.bit (evtPendAt (canPage c)) 8 = true ∧
        exec (.canFrameReceived c f sof r) s = .next (((u.canCounters c (s.tec c) (recAfter s.free (s.rec_ c))).canEnd c).canStart c))) ∧
    (recAfter s.free 0 = 0 ∧ (∀ n, 0 < n → n ≤ 127 → recAfter s.free n = n - 1) ∧ ∀ n, 127 < n → 119 ≤ recAfter s.free n ∧ recAfter s.free n ≤ 127) ∧
    ((s.can c).cur = none → exec (.canTxComplete c tdcv) s = .next s) ∧
    (∀ (o : Fin 128) (g : CanFrame), (s.can c).cur = some (o.val, g) → s.canSends c = true → g.fdf = false ∨ s.bit (CAN_TDC c) 6 = false → s.bit (canPage c + 0x02C) 31 = false → ∃ u : State,
      (u.can c).out = some { g with data := g.data.take (if g.rtr then 0 else dlcBytes g.fdf g.dlc.toNat) } ∧ u.canPend c o = false ∧ (s.bit (CAN_OBJ_CTL c o) 2 = true → u.bit (evtPendAt (canPage c)) 6 = true) ∧
      exec (.canTxComplete c tdcv) s = .next (((u.canCounters c (s.tec c - 1) (s.rec_ c)).canEnd c).canStart c)) ∧
    (s.canOn c = true → code.val ≠ 0 → s.bit (canPage c + 0x02C) 31 = false → s.canMode c ≠ 2 → (s.can c).cur = none → s.tec c < 96 → s.rec_ c < 88 → s.fld (CAN_CAN_STAT c) 1 0 = 0 → s.bit (CAN_CAN_STAT c) 2 = false → ∃ t, exec (.canBusError c code true false dom exc) s = .next t ∧
      t.fld (CAN_LEC c) 2 0 = code ∧ t.bit (CAN_LEC c) 3 = true ∧ t.tec c = s.tec c ∧ t.rec_ c = s.rec_ c + (if dom then 8 else 1)) ∧
    (∀ (o : Fin 128) (g : CanFrame), s.canOn c = true → code.val ≠ 0 → s.bit (canPage c + 0x02C) 31 = false → s.canMode c ≠ 2 → (s.can c).cur = some (o.val, g) → s.bit (CAN_CAN_CTL c) 4 = false → s.tec c < 88 → s.rec_ c < 96 → s.fld (CAN_CAN_STAT c) 1 0 = 0 → s.bit (CAN_CAN_STAT c) 2 = false → ∃ t, exec (.canBusError c code true true dom false) s = .next t ∧
      t.fld (CAN_LEC c) 2 0 = code ∧ t.tec c = s.tec c + 8 ∧ t.rec_ c = s.rec_ c ∧ t.canPend c o = s.canPend c o) ∧
    (∀ (o : Fin 128) (g : CanFrame), s.canOn c = true → s.bit (canPage c + 0x02C) 31 = false → (s.can c).cur = some (o.val, g) → s.bit (CAN_CAN_CTL c) 4 = true → s.canPend c o = true → ∃ t, exec (.canBusError c 0 false true dom exc) s = .next t ∧
      t.canPend c o = false ∧ t.bit (evtPendAt (canPage c)) 7 = true ∧ t.rd (CAN_ERR_CNT c) = s.rd (CAN_ERR_CNT c) ∧ t.rd (CAN_LEC c) = s.rd (CAN_LEC c)) ∧
    (∀ o : Fin 128, s.canMode c ≠ 2 → (s.can c).cur = none → s.fld (CAN_CAN_STAT c) 1 0 ≠ 2 → s.canPend c o = true → (s.canCounters c 256 0).fld (CAN_CAN_STAT c) 1 0 = 2 ∧ (s.canCounters c 256 0).canPend c o = false ∧
      (s.canCounters c 256 0).fld (CAN_CNT_CAN c) 7 0 = min 255 (s.fld (CAN_CNT_CAN c) 7 0 + 1) ∧ (s.canCounters c 256 0).bit (evtPendAt (canPage c)) 0 = true ∧ (s.bit (CAN_CAN_CTL c) 5 = true → (s.canCounters c 256 0).bit (CAN_CAN_STAT c) 3 = true)) ∧
    (s.fld (CAN_CAN_STAT c) 1 0 ≠ 2 → ∃ t, exec (.canRecover c) s = .next t ∧ t.rd (CAN_CAN_STAT c) = s.rd (CAN_CAN_STAT c) ∧ t.rd (canPage c + 0x1C) = errCapNext (s.rd (canPage c + 0x1C)) .state 18) ∧
    (s.fld (CAN_CAN_STAT c) 1 0 = 2 → ∃ t, exec (.canRecover c) s = .next t ∧ t = s.wrBit (CAN_CAN_STAT c) 3 true ∧ exec (.canModeEffect c) s = .next s) ∧
    (s.bit (CAN_CAN_STAT c) 3 = false → exec (.canRecovered c) s = .next s) ∧
    (s.bit (CAN_CAN_STAT c) 3 = true → ∃ t, exec (.canRecovered c) s = .next t ∧ t.fld (CAN_CAN_STAT c) 1 0 = 0 ∧ t.bit (CAN_CAN_STAT c) 3 = false ∧ t.rd (CAN_ERR_CNT c) = 0 ∧ t.canMode c = s.fld (CAN_CAN_CTL c) 1 0 ∧ t.bit (evtPendAt (canPage c)) 2 = true) ∧
    (s.fld (CAN_CAN_CTL c) 1 0 ≠ 0 ∨ fldOf v 1 0 = 0 ∨ s.canTiming c = true → ∃ t, exec (.canModeWrite c v) s = .next t ∧ t = s.wr (CAN_CAN_CTL c) (v &&& 0x3F)) ∧
    (s.fld (CAN_CAN_CTL c) 1 0 = 0 → fldOf v 1 0 ≠ 0 → s.canTiming c = false → ∃ t, exec (.canModeWrite c v) s = .next t ∧ t.fld (CAN_CAN_CTL c) 1 0 = 0 ∧ t.fld (CAN_CAN_CTL c) 5 2 = fldOf v 5 2 ∧ t.rd (canPage c + 0x1C) = errCapNext (s.rd (canPage c + 0x1C)) .value 16) ∧
    (s.fld (CAN_CAN_STAT c) 1 0 ≠ 2 → ∃ t, exec (.canModeEffect c) s = .next t ∧ t.canMode c = s.fld (CAN_CAN_CTL c) 1 0 ∧ t.rd (CAN_ERR_CNT c) = s.rd (CAN_ERR_CNT c)) ∧
    (s.bit (canPage c + 4) 2 = true → ∃ t, exec (.canInjArm c v) s = .next t ∧ t.rd (canPage c + 0x02C) = s.rd (canPage c + 0x02C) ∧ t.rd (canPage c + 0x1C) = errCapNext (s.rd (canPage c + 0x1C)) .locked 11) ∧
    (s.bit (canPage c + 4) 2 = false → 4 ≤ fldOf v 2 0 → ∃ t, exec (.canInjArm c v) s = .next t ∧ t.rd (canPage c + 0x02C) = s.rd (canPage c + 0x02C) ∧ t.rd (canPage c + 0x1C) = errCapNext (s.rd (canPage c + 0x1C)) .value 11) ∧
    (s.bit (canPage c + 4) 2 = false → fldOf v 2 0 = 3 → s.fld (CAN_INJ_ARG c) 15 8 < canFieldBits (s.fld (CAN_INJ_ARG c) 1 0) → ∃ t, exec (.canInjArm c v) s = .next t ∧ t.fld (canPage c + 0x02C) 2 0 = 3 ∧ t.fld (canPage c + 0x02C) 23 16 = max 1 (fldOf v 23 16) ∧
      (bitOf v 31 = true → (t.can c).injSkip = fldOf v 15 8 ∧ (t.can c).injLeft = max 1 (fldOf v 23 16))) ∧
    (s.bit (CAN_CAN_STAT c) 4 = false → exec (.protocolExceptionEnd c) s = .next s) ∧
    (s.bit (CAN_CAN_STAT c) 4 = true → ∃ t, exec (.protocolExceptionEnd c) s = .next t ∧ t.bit (CAN_CAN_STAT c) 4 = false ∧ t.canObjs = s.canObjs ∧ t.mem = s.mem)

/-- A write of eight words to the push window of an empty silo pushes them as one entry, and a pop of eight words by PCIe returns exactly them; the write pointer and the read pointer advance by one modulo 65,536 (R487, R490). Where the rules leave a point open, the clauses follow the choice of the model (log 57). -/
def Obligations.SiloPushThenPop : Prop :=
  ∀ (i : Fin 96) (vs : List W32) (s : State), s.memOk → vs.length = 8 → s.standbyAddr (silPage i + 0x100) = false →
    (s.silo i).staging.length = 8 → (s.silo i).wr < 65536 → (s.silo i).rdp = (s.silo i).wr → (s.silo i).rel = (s.silo i).wr → (s.silo i).stalled = [] → s.siloAttached i = false →
    ∃ t u, exec (.siloPush i 0 vs) s = .next t ∧ (t.silo i).wr = ((s.silo i).wr + 1) % 65536 ∧ (t.silo i).staging = List.replicate 8 0 ∧
      exec (.siloPop .pcie i 8) t = .next u ∧ tabGet [] 0 u.rdata = vs ∧ (u.silo i).rdp = ((s.silo i).wr + 1) % 65536

/-- On a silo without a hardware consumer, MARK copies RD into the mark and sets MARK, REWIND with a valid mark returns RD to it, FLUSH sets RD and REL to WR and clears MARK, and RELEASE n with at most 4,096 entries moves REL by n, never past RD (R487). Where the rules leave a point open, the clauses follow the choice of the model (log 57). -/
def Obligations.SiloCommandsDo : Prop :=
  ∀ (i : Fin 96) (s : State), s.standbyAddr (silPage i + 0x48) = false → s.siloAttached i = false →
    (∃ t, exec (.siloMark i) s = .next t ∧ t.silo i = { s.silo i with mark := (s.silo i).rdp } ∧ t.bit (SIL_SIL_STAT i) 0 = true) ∧
    (s.bit (SIL_SIL_STAT i) 0 = true → ∃ t, exec (.siloRewind i) s = .next t ∧ t.silo i = { s.silo i with rdp := (s.silo i).mark }) ∧
    (∃ t, exec (.siloFlush i) s = .next t ∧ t.silo i = { s.silo i with rdp := (s.silo i).wr, rel := (s.silo i).wr } ∧ t.bit (SIL_SIL_STAT i) 0 = false) ∧
    (∀ n : Fin 8192, 1 ≤ n.val → n.val ≤ 4096 → ∃ t, exec (.siloRelease i n) s = .next t ∧
      (t.silo i).rel = ((s.silo i).rel + min n.val (((s.silo i).rdp + 65536 - (s.silo i).rel) % 65536)) % 65536 ∧ (t.silo i).rdp = (s.silo i).rdp ∧ (t.silo i).wr = (s.silo i).wr)

/-- A write short of word 7 stages its words and pushes nothing. A peek of a silo with an entry returns its words and moves no pointer. A stalled read completes with the entry that arrives, and one whose limit has expired on an empty silo returns the empty pattern (R490, R491). Where the rules leave a point open, the clauses follow the choice of the model (log 57). -/
def Obligations.SiloWindowsAndStalls : Prop :=
  ∀ (i : Fin 96) (s : State),
    (∀ (w : Fin 8) (vs : List W32), s.standbyAddr (silPage i + 0x100 + 4 * w) = false → ∃ t, exec (.siloPushStage i w vs) s = .next t ∧
      (t.silo i).staging = ((s.silo i).staging.take w ++ vs ++ (s.silo i).staging.drop (w + vs.length)).take 8 ∧ (t.silo i).wr = (s.silo i).wr) ∧
    (∀ (r : Requester) (w : Fin 8) (n : Fin 9), (s.silo i).avail ≠ 0 → ∃ t, exec (.siloPeek r i w n) s = .next t ∧
      tabGet [] (reqNum r) t.rdata = entryWords (s.siloHead i) w n ∧ t.silos = s.silos) ∧
    (∀ (x : Stalled) (rest : List Stalled), (s.silo i).stalled = x :: rest → (s.silo i).avail ≠ 0 → ∃ t, exec (.popStallServed i) s = .next t ∧
      tabGet [] x.req t.rdata = entryWords (s.siloHead i) x.word x.count ∧ (t.silo i).stalled = rest ∧ (t.silo i).rdp = ((s.silo i).rdp + 1) % 65536) ∧
    (∀ (x : Stalled) (rest : List Stalled), (s.silo i).stalled = x :: rest → (s.silo i).avail = 0 → x.since + s.stallTicks i ≤ s.dt → ∃ t, exec (.popStallTimeout i) s = .next t ∧
      tabGet [] x.req t.rdata = entryWords emptyPattern x.word x.count ∧ (t.silo i).stalled = rest ∧ (t.silo i).rdp = (s.silo i).rdp)

/-- Every command of a CAN controller changes the controllers, their objects, registers of its own page, the free values and what the event router holds, and nothing else. A command of silo i changes that silo, the answers to reads, the records for the other device of a pair and registers of its own page, and only where the forwarded write of an active device meets an injection on the crosslink also the lane and the page of the crosslink; a push stores its entry at the place that the storage rule gives for WR and changes no other byte, every other command of the silo changes no byte. The flash commands, the writes of MRAM, the start of a DMA channel, the Ethernet tail, link and MDIO commands and CLR_MAX change what they name and registers of their own page; MRAM_WRITE_DONE stores the bytes of its block and changes no other. Where the rules leave a point open, the clauses follow the choice of the model (log 48). -/
def Obligations.FramesOfBlocks : Prop :=
  ∀ (c : Fin 2) (o : Fin 128) (f : CanFrame) (sof : BitVec 64) (b1 b2 b3 b4 : Bool) (code : Fin 7) (tdcv : BitVec 8) (v : W32) (i j : Fin 96) (r : Requester) (w : Fin 8) (n : Fin 9) (rel : Fin 8192) (vs : List W32) (len : Fin 512) (ch : Fin 8) (p : Fin 2) (sp : Fin 3) (d16 : BitVec 16) (s t : State),
    (∀ cmd ∈ [Instr.canFrameReceived c f sof b1, .canTxComplete c tdcv, .canBusError c code b1 b2 b3 b4, .canObjRead c o, .canObjWrite c o, .canObjSend c o, .canObjWriteSend c o, .canObjAbort c o, .canObjConfig c o b1 v, .canRecover c, .canRecovered c, .canModeWrite c v, .canModeEffect c, .canInjArm c v, .protocolExceptionEnd c],
      exec cmd s = .next t → (∃ rs m a fr x y, t = { s with regs := rs, msix := m, actions := a, free := fr, cans := x, canObjs := y }) ∧ s.pageOnly t (0x1E + c.val)) ∧
    (∀ cmd ∈ [Instr.siloPush i w vs, .siloPushStage i w vs, .siloPop r i n, .siloPeek r i w n, .siloMark i, .siloRewind i, .siloFlush i, .siloRelease i rel, .popStallServed i, .popStallTimeout i],
      exec cmd s = .next t → (∃ rs m a q mm rd x p, t = { s with regs := rs, msix := m, actions := a, silos := q, mem := mm, rdata := rd, xlk := x, ringPorts := p }) ∧ (∀ a, a / 0x1000 ≠ 0x40 + i.val → a / 0x1000 ≠ 0x262 → routerOwn a = false → t.rd a = s.rd a) ∧
        (s.role ≠ 1 ∨ s.laneOpen 2 = true → t.ringPorts = s.ringPorts ∧ s.pageOnly t (0x40 + i.val)) ∧ (j ≠ i → t.silo j = s.silo j) ∧
        ((∀ a, a < s.siloAddr i (s.silo i).wr ∨ s.siloAddr i (s.silo i).wr + 32 ≤ a → t.byteAt a = s.byteAt a) ∧ (cmd ≠ .siloPush i w vs → t.mem = s.mem))) ∧
    (∀ cmd ∈ [Instr.flRead len, .flProgram len, .flErase len, .flDone b1], exec cmd s = .next t → (∃ rs m a fr x y, t = { s with regs := rs, msix := m, actions := a, free := fr, flash := x, flashCmd := y }) ∧ s.pageOnly t 0x1D) ∧
    (exec .mwWrite s = .next t → (∃ rs x, t = { s with regs := rs, mramCmd := x }) ∧ s.pageOnly t 0x1D) ∧
    (exec .mwDone s = .next t → (∃ rs m a fr ag x mm, t = { s with regs := rs, msix := m, actions := a, free := fr, age := ag, mramCmd := x, mem := mm }) ∧ s.pageOnly t 0x1D ∧
      (∀ (at0 : Nat) (bs : List Byte), s.mramCmd = some (at0, bs) → ∀ a, a < at0 ∨ at0 + bs.length ≤ a → t.byteAt a = s.byteAt a)) ∧
    (exec (.dmaStart ch) s = .next t → (∃ rs m a x, t = { s with regs := rs, msix := m, actions := a, dmaDesc := x }) ∧ s.pageOnly t 0x19) ∧
    (∀ cmd ∈ [Instr.ethTailWrite p v, .ethLinkChg p b1 sp b2], exec cmd s = .next t → (∃ rs m a, t = { s with regs := rs, msix := m, actions := a }) ∧ s.pageOnly t (0x1A + p.val)) ∧
    (∀ cmd ∈ [Instr.mdioGo v, .mdioDone d16], exec cmd s = .next t → (∃ rs, t = { s with regs := rs }) ∧ s.pageOnly t 0x1A) ∧
    (exec .thmClrMax s = .next t → (∃ rs, t = { s with regs := rs }) ∧ s.pageOnly t 6)

/-- On a device that has booted, whose LTB page is clocked and that does not ignore the write as a standby, a word write to LOSS_CTL with GRACE 0 stores 1 and one with GRACE above 8 stores 8, and either is recorded in ERR_CAP of the page; one with GRACE 1 to 8 stores it and is not recorded unless the REJOIN that it carries is. -/
def Obligations.GraceIsHeldToItsRange : Prop :=
  ∀ (r : Requester) (v : W32) (s : State), s.core = .running → s.fld GLB_BOOT_STAT 3 0 = 7 → s.bit 0x8004 0 = true → s.standbyAddr LTB_LOSS_CTL = false →
    (fldOf v 3 0 = 0 → ∃ t, exec (.registerWrite r (BitVec.ofNat 33 LTB_LOSS_CTL) (leBytes 4 v.toNat)) s = .next t ∧ t.fld LTB_LOSS_CTL 3 0 = 1 ∧ (s.fld 0x801C 7 0 = 0 → t.fld 0x801C 7 0 = 4 ∧ t.fld 0x801C 17 8 = 0x7C / 4) ∧
      min 255 (s.fld 0x801C 31 24 + 1) ≤ t.fld 0x801C 31 24 ∧ (bitOf v 31 = false → t.rd 0x801C = errCapNext (s.rd 0x801C) .clamped (0x7C / 4))) ∧
    (8 < fldOf v 3 0 → ∃ t, exec (.registerWrite r (BitVec.ofNat 33 LTB_LOSS_CTL) (leBytes 4 v.toNat)) s = .next t ∧ t.fld LTB_LOSS_CTL 3 0 = 8 ∧ (s.fld 0x801C 7 0 = 0 → t.fld 0x801C 7 0 = 4 ∧ t.fld 0x801C 17 8 = 0x7C / 4) ∧
      min 255 (s.fld 0x801C 31 24 + 1) ≤ t.fld 0x801C 31 24 ∧ (bitOf v 31 = false → t.rd 0x801C = errCapNext (s.rd 0x801C) .clamped (0x7C / 4))) ∧
    (1 ≤ fldOf v 3 0 → fldOf v 3 0 ≤ 8 → ∃ t, exec (.registerWrite r (BitVec.ofNat 33 LTB_LOSS_CTL) (leBytes 4 v.toNat)) s = .next t ∧ t.fld LTB_LOSS_CTL 3 0 = fldOf v 3 0 ∧ (bitOf v 31 = false → t.rd 0x801C = s.rd 0x801C))

/-- On a device that has booted, whose LTB page is clocked and that does not ignore the write as a standby, a write of a negative value or of 0 to VMG_ACC, VMG_DEC, VMG_JERK, STOP_DEC or STOP_JERK (its LO half staged by the same requester, completed by the write of its HI half) is refused and recorded in ERR_CAP, and the register keeps its value; a write of any other value stores it. -/
def Obligations.LineLimitsStayPositive : Prop :=
  ∀ (r : Requester) (hi : W32) (s : State), s.core = .running → s.fld GLB_BOOT_STAT 3 0 = 7 → s.bit 0x8004 0 = true → ∀ a ∈ [LTB_VMG_ACC_LO, LTB_VMG_DEC_LO, LTB_VMG_JERK_LO, LTB_STOP_DEC_LO, LTB_STOP_JERK_LO], s.standbyAddr (a + 4) = false →
    (bitOf hi 31 = true ∨ (hi = 0 ∧ s.stagedLo (reqNum r) a = 0) → ∃ t, exec (.pairHiWrite r (BitVec.ofNat 26 (a + 4)) hi) s = .next t ∧ t.rd a = s.rd a ∧ t.rd (a + 4) = s.rd (a + 4) ∧
      t.rd 0x801C = errCapNext (s.rd 0x801C) .value ((a + 4) % 0x1000 / 4) ∧ (s.fld 0x801C 7 0 = 0 → t.fld 0x801C 7 0 = 3 ∧ t.fld 0x801C 17 8 = (a + 4) % 0x1000 / 4)) ∧
    (bitOf hi 31 = false → hi ≠ 0 ∨ s.stagedLo (reqNum r) a ≠ 0 → ∃ t, exec (.pairHiWrite r (BitVec.ofNat 26 (a + 4)) hi) s = .next t ∧ t.rd a = s.stagedLo (reqNum r) a ∧ t.rd (a + 4) = hi ∧ t.rd 0x801C = s.rd 0x801C)
end

