-- ==== Sys2Proof/Laws/Bits.lean ====
section
/-! SUPPORT. Bit fields of a word: reading a field after writing it, and after writing another. -/

namespace Sys2Proof.Machine

theorem pow_split {hi lo : Nat} (hl : lo ≤ hi) : 2 ^ (hi + 1) = 2 ^ lo * 2 ^ (hi + 1 - lo) := by
  rw [← Nat.pow_add]; congr 1; omega

/-- A number as what lies above a field, the field, and what lies below. -/
theorem field_split (n : Nat) {hi lo : Nat} (hl : lo ≤ hi) :
    n = 2 ^ (hi + 1) * (n / 2 ^ (hi + 1)) + (2 ^ lo * (n / 2 ^ lo % 2 ^ (hi + 1 - lo)) + n % 2 ^ lo) := by
  have h1 := Nat.div_add_mod n (2 ^ lo)
  have h2 := Nat.div_add_mod (n / 2 ^ lo) (2 ^ (hi + 1 - lo))
  rw [Nat.div_div_eq_div_mul, ← pow_split hl] at h2
  calc n = 2 ^ lo * (n / 2 ^ lo) + n % 2 ^ lo := h1.symm
    _ = 2 ^ lo * (2 ^ (hi + 1 - lo) * (n / 2 ^ (hi + 1)) + n / 2 ^ lo % 2 ^ (hi + 1 - lo)) + n % 2 ^ lo := by rw [h2]
    _ = _ := by rw [Nat.mul_add, ← Nat.mul_assoc, ← pow_split hl, Nat.add_assoc]

theorem low_lt (f r : Nat) {hi lo : Nat} (hl : lo ≤ hi) (hf : f < 2 ^ (hi + 1 - lo)) (hr : r < 2 ^ lo) : 2 ^ lo * f + r < 2 ^ (hi + 1) := by
  rw [pow_split hl]
  calc 2 ^ lo * f + r < 2 ^ lo * f + 2 ^ lo := by omega
    _ = 2 ^ lo * (f + 1) := by rw [Nat.mul_add, Nat.mul_one]
    _ ≤ 2 ^ lo * 2 ^ (hi + 1 - lo) := Nat.mul_le_mul_left _ hf

/-- The word with a field replaced, as a number. -/
theorem withFld_toNat (v : W32) {hi lo : Nat} (x : Nat) (h : hi < 32) (hl : lo ≤ hi) :
    (withFld v hi lo x).toNat = 2 ^ (hi + 1) * (v.toNat / 2 ^ (hi + 1)) + (2 ^ lo * (x % 2 ^ (hi + 1 - lo)) + v.toNat % 2 ^ lo) := by
  have hs := field_split v.toNat hl
  have hv := v.isLt
  have hx : x % 2 ^ (hi + 1 - lo) < 2 ^ (hi + 1 - lo) := Nat.mod_lt _ (Nat.two_pow_pos _)
  have hr : v.toNat % 2 ^ lo < 2 ^ lo := Nat.mod_lt _ (Nat.two_pow_pos _)
  have hb := low_lt _ _ hl hx hr
  have hp : (2 : Nat) ^ 32 = 2 ^ (hi + 1) * 2 ^ (31 - hi) := by rw [← Nat.pow_add]; congr 1; omega
  have hq : v.toNat / 2 ^ (hi + 1) + 1 ≤ 2 ^ (31 - hi) := by
    apply Nat.succ_le_of_lt
    apply Nat.div_lt_of_lt_mul
    rw [← hp]; exact hv
  have hbig : 2 ^ (hi + 1) * (v.toNat / 2 ^ (hi + 1)) + 2 ^ (hi + 1) ≤ 2 ^ 32 := by
    rw [hp]
    calc _ = 2 ^ (hi + 1) * (v.toNat / 2 ^ (hi + 1) + 1) := by rw [Nat.mul_add, Nat.mul_one]
      _ ≤ _ := Nat.mul_le_mul_left _ hq
  unfold withFld fldOf
  rw [BitVec.toNat_ofNat]
  have e : v.toNat - v.toNat / 2 ^ lo % 2 ^ (hi + 1 - lo) * 2 ^ lo + x % 2 ^ (hi + 1 - lo) * 2 ^ lo =
      2 ^ (hi + 1) * (v.toNat / 2 ^ (hi + 1)) + (2 ^ lo * (x % 2 ^ (hi + 1 - lo)) + v.toNat % 2 ^ lo) := by
    rw [Nat.mul_comm _ (2 ^ lo), Nat.mul_comm _ (2 ^ lo)]
    generalize 2 ^ (hi + 1) * (v.toNat / 2 ^ (hi + 1)) = A at hs ⊢
    generalize 2 ^ lo * (v.toNat / 2 ^ lo % 2 ^ (hi + 1 - lo)) = B at hs ⊢
    omega
  rw [e, Nat.mod_eq_of_lt (by omega)]

/-- Bit `i` of the word with a field replaced. -/
theorem withFld_getLsbD (v : W32) {hi lo : Nat} (x i : Nat) (h : hi < 32) (hl : lo ≤ hi) :
    (withFld v hi lo x).getLsbD i = if lo ≤ i ∧ i ≤ hi then x.testBit (i - lo) else v.getLsbD i := by
  have hx : x % 2 ^ (hi + 1 - lo) < 2 ^ (hi + 1 - lo) := Nat.mod_lt _ (Nat.two_pow_pos _)
  have hf : v.toNat / 2 ^ lo % 2 ^ (hi + 1 - lo) < 2 ^ (hi + 1 - lo) := Nat.mod_lt _ (Nat.two_pow_pos _)
  have hr : v.toNat % 2 ^ lo < 2 ^ lo := Nat.mod_lt _ (Nat.two_pow_pos _)
  have e1 : (withFld v hi lo x).getLsbD i = (withFld v hi lo x).toNat.testBit i := rfl
  have e2 : v.getLsbD i = v.toNat.testBit i := rfl
  rw [e1, e2, withFld_toNat v x h hl, Nat.testBit_two_pow_mul_add _ (low_lt _ _ hl hx hr)]
  by_cases h1 : i < hi + 1
  · rw [if_pos h1, Nat.testBit_two_pow_mul_add _ hr]
    by_cases h2 : i < lo
    · rw [if_pos h2, if_neg (by omega), Nat.testBit_mod_two_pow]; simp [h2]
    · rw [if_neg h2, if_pos (by omega), Nat.testBit_mod_two_pow]
      simp only [Bool.and_eq_right_iff_imp, decide_eq_true_eq]
      intro _; omega
  · rw [if_neg h1, if_neg (by omega), Nat.testBit_div_two_pow]
    congr 1; omega

/-- A bit of a field. -/
theorem fldOf_testBit (v : W32) (hi lo j : Nat) : (fldOf v hi lo).testBit j = (decide (j < hi + 1 - lo) && v.getLsbD (lo + j)) := by
  unfold fldOf
  rw [Nat.testBit_mod_two_pow, Nat.testBit_div_two_pow, Nat.add_comm j lo]
  rfl

/-- A field reads what was written to it. -/
theorem fldOf_withFld (v : W32) {hi lo : Nat} (x : Nat) (h : hi < 32) (hl : lo ≤ hi) : fldOf (withFld v hi lo x) hi lo = x % 2 ^ (hi + 1 - lo) := by
  apply Nat.eq_of_testBit_eq
  intro j
  rw [fldOf_testBit, withFld_getLsbD v x _ h hl, Nat.testBit_mod_two_pow]
  by_cases hj : j < hi + 1 - lo
  · rw [if_pos (by omega)]; congr 2; omega
  · simp [hj]

/-- A field is unchanged by a write to a field that it does not touch. -/
theorem fldOf_withFld_other (v : W32) {hi lo hi' lo' : Nat} (x : Nat) (h : hi < 32) (hl : lo ≤ hi) (hd : hi' < lo ∨ hi < lo') :
    fldOf (withFld v hi lo x) hi' lo' = fldOf v hi' lo' := by
  apply Nat.eq_of_testBit_eq
  intro j
  rw [fldOf_testBit, fldOf_testBit, withFld_getLsbD v x _ h hl]
  by_cases hj : j < hi' + 1 - lo'
  · rw [if_neg (by omega)]
  · simp [hj]

/-- A bit outside a field is unchanged by a write to it. -/
theorem bitOf_withFld_other (v : W32) {hi lo b : Nat} (x : Nat) (h : hi < 32) (hl : lo ≤ hi) (hd : b < lo ∨ hi < b) :
    bitOf (withFld v hi lo x) b = bitOf v b := by
  unfold bitOf
  rw [withFld_getLsbD v x _ h hl, if_neg (by omega)]

/-- A bit reads what was written to it. -/
theorem bitOf_withBit (v : W32) {b : Nat} (x : Bool) (h : b < 32) : bitOf (withBit v b x) b = x := by
  unfold bitOf withBit
  rw [withFld_getLsbD v _ _ h (Nat.le_refl b), if_pos (by omega), Nat.sub_self]
  cases x <;> rfl

/-- A bit is unchanged by a write to another. -/
theorem bitOf_withBit_other (v : W32) {b c : Nat} (x : Bool) (h : b < 32) (hd : c ≠ b) : bitOf (withBit v b x) c = bitOf v c :=
  bitOf_withFld_other v _ h (Nat.le_refl b) (by omega)

/-- A field is unchanged by a write to a bit outside it. -/
theorem fldOf_withBit_other (v : W32) {b hi lo : Nat} (x : Bool) (h : b < 32) (hd : hi < b ∨ b < lo) : fldOf (withBit v b x) hi lo = fldOf v hi lo :=
  fldOf_withFld_other v _ h (Nat.le_refl b) hd

/-- A bit of the word whose field was replaced, read as a bit of the field. -/
theorem bitOf_withFld (v : W32) {hi lo b : Nat} (x : Nat) (h : hi < 32) (hl : lo ≤ hi) (hb : lo ≤ b) (hb' : b ≤ hi) :
    bitOf (withFld v hi lo x) b = x.testBit (b - lo) := by
  unfold bitOf
  rw [withFld_getLsbD v x _ h hl, if_pos ⟨hb, hb'⟩]

end Sys2Proof.Machine
end

