-- ==== Sys2Proof/Laws/State.lean ====
section
/-! SUPPORT. Every field of the state beside the one that a basic update names is unchanged: one lemma for each field and update. -/

namespace Sys2Proof.Machine

/-! ### A register is stored -/

@[simp] theorem State.wr_pending (s : State) (a : Nat) (v : W32) : (s.wr a v).pending = s.pending := rfl
@[simp] theorem State.wr_dt (s : State) (a : Nat) (v : W32) : (s.wr a v).dt = s.dt := rfl
@[simp] theorem State.wr_free (s : State) (a : Nat) (v : W32) : (s.wr a v).free = s.free := rfl
@[simp] theorem State.wr_inForce (s : State) (a : Nat) (v : W32) : (s.wr a v).inForce = s.inForce := rfl
@[simp] theorem State.wr_commits (s : State) (a : Nat) (v : W32) : (s.wr a v).commits = s.commits := rfl
@[simp] theorem State.wr_staged (s : State) (a : Nat) (v : W32) : (s.wr a v).staged = s.staged := rfl
@[simp] theorem State.wr_latched (s : State) (a : Nat) (v : W32) : (s.wr a v).latched = s.latched := rfl
@[simp] theorem State.wr_rdata (s : State) (a : Nat) (v : W32) : (s.wr a v).rdata = s.rdata := rfl
@[simp] theorem State.wr_posted (s : State) (a : Nat) (v : W32) : (s.wr a v).posted = s.posted := rfl
@[simp] theorem State.wr_mem (s : State) (a : Nat) (v : W32) : (s.wr a v).mem = s.mem := rfl
@[simp] theorem State.wr_msix (s : State) (a : Nat) (v : W32) : (s.wr a v).msix = s.msix := rfl
@[simp] theorem State.wr_actions (s : State) (a : Nat) (v : W32) : (s.wr a v).actions = s.actions := rfl
@[simp] theorem State.wr_silos (s : State) (a : Nat) (v : W32) : (s.wr a v).silos = s.silos := rfl
@[simp] theorem State.wr_lost (s : State) (a : Nat) (v : W32) : (s.wr a v).lost = s.lost := rfl
@[simp] theorem State.wr_recorder (s : State) (a : Nat) (v : W32) : (s.wr a v).recorder = s.recorder := rfl
@[simp] theorem State.wr_axes (s : State) (a : Nat) (v : W32) : (s.wr a v).axes = s.axes := rfl
@[simp] theorem State.wr_gears (s : State) (a : Nat) (v : W32) : (s.wr a v).gears = s.gears := rfl
@[simp] theorem State.wr_ltb (s : State) (a : Nat) (v : W32) : (s.wr a v).ltb = s.ltb := rfl
@[simp] theorem State.wr_ascArms (s : State) (a : Nat) (v : W32) : (s.wr a v).ascArms = s.ascArms := rfl
@[simp] theorem State.wr_ascTook (s : State) (a : Nat) (v : W32) : (s.wr a v).ascTook = s.ascTook := rfl
@[simp] theorem State.wr_ascEnts (s : State) (a : Nat) (v : W32) : (s.wr a v).ascEnts = s.ascEnts := rfl
@[simp] theorem State.wr_fcoEnd (s : State) (a : Nat) (v : W32) : (s.wr a v).fcoEnd = s.fcoEnd := rfl
@[simp] theorem State.wr_fcoLock (s : State) (a : Nat) (v : W32) : (s.wr a v).fcoLock = s.fcoLock := rfl
@[simp] theorem State.wr_fcoOff (s : State) (a : Nat) (v : W32) : (s.wr a v).fcoOff = s.fcoOff := rfl
@[simp] theorem State.wr_fliPins (s : State) (a : Nat) (v : W32) : (s.wr a v).fliPins = s.fliPins := rfl
@[simp] theorem State.wr_fliRecs (s : State) (a : Nat) (v : W32) : (s.wr a v).fliRecs = s.fliRecs := rfl
@[simp] theorem State.wr_latWins (s : State) (a : Nat) (v : W32) : (s.wr a v).latWins = s.latWins := rfl
@[simp] theorem State.wr_ringPorts (s : State) (a : Nat) (v : W32) : (s.wr a v).ringPorts = s.ringPorts := rfl
@[simp] theorem State.wr_ring (s : State) (a : Nat) (v : W32) : (s.wr a v).ring = s.ring := rfl
@[simp] theorem State.wr_promoted (s : State) (a : Nat) (v : W32) : (s.wr a v).promoted = s.promoted := rfl
@[simp] theorem State.wr_xlk (s : State) (a : Nat) (v : W32) : (s.wr a v).xlk = s.xlk := rfl
@[simp] theorem State.wr_groups (s : State) (a : Nat) (v : W32) : (s.wr a v).groups = s.groups := rfl
@[simp] theorem State.wr_safAxes (s : State) (a : Nat) (v : W32) : (s.wr a v).safAxes = s.safAxes := rfl
@[simp] theorem State.wr_ss1 (s : State) (a : Nat) (v : W32) : (s.wr a v).ss1 = s.ss1 := rfl
@[simp] theorem State.wr_ss1Quick (s : State) (a : Nat) (v : W32) : (s.wr a v).ss1Quick = s.ss1Quick := rfl
@[simp] theorem State.wr_ss1Line (s : State) (a : Nat) (v : W32) : (s.wr a v).ss1Line = s.ss1Line := rfl
@[simp] theorem State.wr_disagree (s : State) (a : Nat) (v : W32) : (s.wr a v).disagree = s.disagree := rfl
@[simp] theorem State.wr_noExA (s : State) (a : Nat) (v : W32) : (s.wr a v).noExA = s.noExA := rfl
@[simp] theorem State.wr_noExB (s : State) (a : Nat) (v : W32) : (s.wr a v).noExB = s.noExB := rfl
@[simp] theorem State.wr_chanAStop (s : State) (a : Nat) (v : W32) : (s.wr a v).chanAStop = s.chanAStop := rfl
@[simp] theorem State.wr_keepA (s : State) (a : Nat) (v : W32) : (s.wr a v).keepA = s.keepA := rfl
@[simp] theorem State.wr_dropA (s : State) (a : Nat) (v : W32) : (s.wr a v).dropA = s.dropA := rfl
@[simp] theorem State.wr_safPeer (s : State) (a : Nat) (v : W32) : (s.wr a v).safPeer = s.safPeer := rfl
@[simp] theorem State.wr_safStore (s : State) (a : Nat) (v : W32) : (s.wr a v).safStore = s.safStore := rfl
@[simp] theorem State.wr_dbgHalt (s : State) (a : Nat) (v : W32) : (s.wr a v).dbgHalt = s.dbgHalt := rfl
@[simp] theorem State.wr_acqs (s : State) (a : Nat) (v : W32) : (s.wr a v).acqs = s.acqs := rfl
@[simp] theorem State.wr_acqActs (s : State) (a : Nat) (v : W32) : (s.wr a v).acqActs = s.acqActs := rfl
@[simp] theorem State.wr_ldcs (s : State) (a : Nat) (v : W32) : (s.wr a v).ldcs = s.ldcs := rfl
@[simp] theorem State.wr_ldcSlot (s : State) (a : Nat) (v : W32) : (s.wr a v).ldcSlot = s.ldcSlot := rfl
@[simp] theorem State.wr_ports (s : State) (a : Nat) (v : W32) : (s.wr a v).ports = s.ports := rfl
@[simp] theorem State.wr_emus (s : State) (a : Nat) (v : W32) : (s.wr a v).emus = s.emus := rfl
@[simp] theorem State.wr_links (s : State) (a : Nat) (v : W32) : (s.wr a v).links = s.links := rfl
@[simp] theorem State.wr_servos (s : State) (a : Nat) (v : W32) : (s.wr a v).servos = s.servos := rfl
@[simp] theorem State.wr_servoUndo (s : State) (a : Nat) (v : W32) : (s.wr a v).servoUndo = s.servoUndo := rfl
@[simp] theorem State.wr_lpus (s : State) (a : Nat) (v : W32) : (s.wr a v).lpus = s.lpus := rfl
@[simp] theorem State.wr_sched (s : State) (a : Nat) (v : W32) : (s.wr a v).sched = s.sched := rfl
@[simp] theorem State.wr_age (s : State) (a : Nat) (v : W32) : (s.wr a v).age = s.age := rfl
@[simp] theorem State.wr_sensors (s : State) (a : Nat) (v : W32) : (s.wr a v).sensors = s.sensors := rfl
@[simp] theorem State.wr_shutdowns (s : State) (a : Nat) (v : W32) : (s.wr a v).shutdowns = s.shutdowns := rfl
@[simp] theorem State.wr_bands (s : State) (a : Nat) (v : W32) : (s.wr a v).bands = s.bands := rfl
@[simp] theorem State.wr_jtagIr (s : State) (a : Nat) (v : W32) : (s.wr a v).jtagIr = s.jtagIr := rfl
@[simp] theorem State.wr_jtagDr (s : State) (a : Nat) (v : W32) : (s.wr a v).jtagDr = s.jtagDr := rfl
@[simp] theorem State.wr_nonce (s : State) (a : Nat) (v : W32) : (s.wr a v).nonce = s.nonce := rfl
@[simp] theorem State.wr_freezeAt (s : State) (a : Nat) (v : W32) : (s.wr a v).freezeAt = s.freezeAt := rfl
@[simp] theorem State.wr_flashCmd (s : State) (a : Nat) (v : W32) : (s.wr a v).flashCmd = s.flashCmd := rfl
@[simp] theorem State.wr_flashGeo (s : State) (a : Nat) (v : W32) : (s.wr a v).flashGeo = s.flashGeo := rfl
@[simp] theorem State.wr_mramCmd (s : State) (a : Nat) (v : W32) : (s.wr a v).mramCmd = s.mramCmd := rfl
@[simp] theorem State.wr_ethPause (s : State) (a : Nat) (v : W32) : (s.wr a v).ethPause = s.ethPause := rfl
@[simp] theorem State.wr_ethOut (s : State) (a : Nat) (v : W32) : (s.wr a v).ethOut = s.ethOut := rfl
@[simp] theorem State.wr_dmaOut (s : State) (a : Nat) (v : W32) : (s.wr a v).dmaOut = s.dmaOut := rfl
@[simp] theorem State.wr_dmaDesc (s : State) (a : Nat) (v : W32) : (s.wr a v).dmaDesc = s.dmaDesc := rfl
@[simp] theorem State.wr_cans (s : State) (a : Nat) (v : W32) : (s.wr a v).cans = s.cans := rfl
@[simp] theorem State.wr_canObjs (s : State) (a : Nat) (v : W32) : (s.wr a v).canObjs = s.canObjs := rfl
@[simp] theorem State.wr_core (s : State) (a : Nat) (v : W32) : (s.wr a v).core = s.core := rfl
@[simp] theorem State.wr_fieldT0 (s : State) (a : Nat) (v : W32) : (s.wr a v).fieldT0 = s.fieldT0 := rfl
@[simp] theorem State.wr_wdtT (s : State) (a : Nat) (v : W32) : (s.wr a v).wdtT = s.wdtT := rfl
@[simp] theorem State.wr_flash (s : State) (a : Nat) (v : W32) : (s.wr a v).flash = s.flash := rfl
@[simp] theorem State.wr_version (s : State) (a : Nat) (v : W32) : (s.wr a v).version = s.version := rfl
@[simp] theorem State.wr_keys (s : State) (a : Nat) (v : W32) : (s.wr a v).keys = s.keys := rfl
@[simp] theorem State.wr_entries (s : State) (a : Nat) (v : W32) : (s.wr a v).entries = s.entries := rfl
@[simp] theorem State.wr_lcPlan (s : State) (a : Nat) (v : W32) : (s.wr a v).lcPlan = s.lcPlan := rfl

/-! ### A value is put in force -/

@[simp] theorem State.setAct_pending (s : State) (a : Nat) (v : W32) : (s.setAct a v).pending = s.pending := rfl
@[simp] theorem State.setAct_dt (s : State) (a : Nat) (v : W32) : (s.setAct a v).dt = s.dt := rfl
@[simp] theorem State.setAct_free (s : State) (a : Nat) (v : W32) : (s.setAct a v).free = s.free := rfl
@[simp] theorem State.setAct_regs (s : State) (a : Nat) (v : W32) : (s.setAct a v).regs = s.regs := rfl
@[simp] theorem State.setAct_commits (s : State) (a : Nat) (v : W32) : (s.setAct a v).commits = s.commits := rfl
@[simp] theorem State.setAct_staged (s : State) (a : Nat) (v : W32) : (s.setAct a v).staged = s.staged := rfl
@[simp] theorem State.setAct_latched (s : State) (a : Nat) (v : W32) : (s.setAct a v).latched = s.latched := rfl
@[simp] theorem State.setAct_rdata (s : State) (a : Nat) (v : W32) : (s.setAct a v).rdata = s.rdata := rfl
@[simp] theorem State.setAct_posted (s : State) (a : Nat) (v : W32) : (s.setAct a v).posted = s.posted := rfl
@[simp] theorem State.setAct_mem (s : State) (a : Nat) (v : W32) : (s.setAct a v).mem = s.mem := rfl
@[simp] theorem State.setAct_msix (s : State) (a : Nat) (v : W32) : (s.setAct a v).msix = s.msix := rfl
@[simp] theorem State.setAct_actions (s : State) (a : Nat) (v : W32) : (s.setAct a v).actions = s.actions := rfl
@[simp] theorem State.setAct_silos (s : State) (a : Nat) (v : W32) : (s.setAct a v).silos = s.silos := rfl
@[simp] theorem State.setAct_lost (s : State) (a : Nat) (v : W32) : (s.setAct a v).lost = s.lost := rfl
@[simp] theorem State.setAct_recorder (s : State) (a : Nat) (v : W32) : (s.setAct a v).recorder = s.recorder := rfl
@[simp] theorem State.setAct_axes (s : State) (a : Nat) (v : W32) : (s.setAct a v).axes = s.axes := rfl
@[simp] theorem State.setAct_gears (s : State) (a : Nat) (v : W32) : (s.setAct a v).gears = s.gears := rfl
@[simp] theorem State.setAct_ltb (s : State) (a : Nat) (v : W32) : (s.setAct a v).ltb = s.ltb := rfl
@[simp] theorem State.setAct_ascArms (s : State) (a : Nat) (v : W32) : (s.setAct a v).ascArms = s.ascArms := rfl
@[simp] theorem State.setAct_ascTook (s : State) (a : Nat) (v : W32) : (s.setAct a v).ascTook = s.ascTook := rfl
@[simp] theorem State.setAct_ascEnts (s : State) (a : Nat) (v : W32) : (s.setAct a v).ascEnts = s.ascEnts := rfl
@[simp] theorem State.setAct_fcoEnd (s : State) (a : Nat) (v : W32) : (s.setAct a v).fcoEnd = s.fcoEnd := rfl
@[simp] theorem State.setAct_fcoLock (s : State) (a : Nat) (v : W32) : (s.setAct a v).fcoLock = s.fcoLock := rfl
@[simp] theorem State.setAct_fcoOff (s : State) (a : Nat) (v : W32) : (s.setAct a v).fcoOff = s.fcoOff := rfl
@[simp] theorem State.setAct_fliPins (s : State) (a : Nat) (v : W32) : (s.setAct a v).fliPins = s.fliPins := rfl
@[simp] theorem State.setAct_fliRecs (s : State) (a : Nat) (v : W32) : (s.setAct a v).fliRecs = s.fliRecs := rfl
@[simp] theorem State.setAct_latWins (s : State) (a : Nat) (v : W32) : (s.setAct a v).latWins = s.latWins := rfl
@[simp] theorem State.setAct_ringPorts (s : State) (a : Nat) (v : W32) : (s.setAct a v).ringPorts = s.ringPorts := rfl
@[simp] theorem State.setAct_ring (s : State) (a : Nat) (v : W32) : (s.setAct a v).ring = s.ring := rfl
@[simp] theorem State.setAct_promoted (s : State) (a : Nat) (v : W32) : (s.setAct a v).promoted = s.promoted := rfl
@[simp] theorem State.setAct_xlk (s : State) (a : Nat) (v : W32) : (s.setAct a v).xlk = s.xlk := rfl
@[simp] theorem State.setAct_groups (s : State) (a : Nat) (v : W32) : (s.setAct a v).groups = s.groups := rfl
@[simp] theorem State.setAct_safAxes (s : State) (a : Nat) (v : W32) : (s.setAct a v).safAxes = s.safAxes := rfl
@[simp] theorem State.setAct_ss1 (s : State) (a : Nat) (v : W32) : (s.setAct a v).ss1 = s.ss1 := rfl
@[simp] theorem State.setAct_ss1Quick (s : State) (a : Nat) (v : W32) : (s.setAct a v).ss1Quick = s.ss1Quick := rfl
@[simp] theorem State.setAct_ss1Line (s : State) (a : Nat) (v : W32) : (s.setAct a v).ss1Line = s.ss1Line := rfl
@[simp] theorem State.setAct_disagree (s : State) (a : Nat) (v : W32) : (s.setAct a v).disagree = s.disagree := rfl
@[simp] theorem State.setAct_noExA (s : State) (a : Nat) (v : W32) : (s.setAct a v).noExA = s.noExA := rfl
@[simp] theorem State.setAct_noExB (s : State) (a : Nat) (v : W32) : (s.setAct a v).noExB = s.noExB := rfl
@[simp] theorem State.setAct_chanAStop (s : State) (a : Nat) (v : W32) : (s.setAct a v).chanAStop = s.chanAStop := rfl
@[simp] theorem State.setAct_keepA (s : State) (a : Nat) (v : W32) : (s.setAct a v).keepA = s.keepA := rfl
@[simp] theorem State.setAct_dropA (s : State) (a : Nat) (v : W32) : (s.setAct a v).dropA = s.dropA := rfl
@[simp] theorem State.setAct_safPeer (s : State) (a : Nat) (v : W32) : (s.setAct a v).safPeer = s.safPeer := rfl
@[simp] theorem State.setAct_safStore (s : State) (a : Nat) (v : W32) : (s.setAct a v).safStore = s.safStore := rfl
@[simp] theorem State.setAct_dbgHalt (s : State) (a : Nat) (v : W32) : (s.setAct a v).dbgHalt = s.dbgHalt := rfl
@[simp] theorem State.setAct_acqs (s : State) (a : Nat) (v : W32) : (s.setAct a v).acqs = s.acqs := rfl
@[simp] theorem State.setAct_acqActs (s : State) (a : Nat) (v : W32) : (s.setAct a v).acqActs = s.acqActs := rfl
@[simp] theorem State.setAct_ldcs (s : State) (a : Nat) (v : W32) : (s.setAct a v).ldcs = s.ldcs := rfl
@[simp] theorem State.setAct_ldcSlot (s : State) (a : Nat) (v : W32) : (s.setAct a v).ldcSlot = s.ldcSlot := rfl
@[simp] theorem State.setAct_ports (s : State) (a : Nat) (v : W32) : (s.setAct a v).ports = s.ports := rfl
@[simp] theorem State.setAct_emus (s : State) (a : Nat) (v : W32) : (s.setAct a v).emus = s.emus := rfl
@[simp] theorem State.setAct_links (s : State) (a : Nat) (v : W32) : (s.setAct a v).links = s.links := rfl
@[simp] theorem State.setAct_servos (s : State) (a : Nat) (v : W32) : (s.setAct a v).servos = s.servos := rfl
@[simp] theorem State.setAct_servoUndo (s : State) (a : Nat) (v : W32) : (s.setAct a v).servoUndo = s.servoUndo := rfl
@[simp] theorem State.setAct_lpus (s : State) (a : Nat) (v : W32) : (s.setAct a v).lpus = s.lpus := rfl
@[simp] theorem State.setAct_sched (s : State) (a : Nat) (v : W32) : (s.setAct a v).sched = s.sched := rfl
@[simp] theorem State.setAct_age (s : State) (a : Nat) (v : W32) : (s.setAct a v).age = s.age := rfl
@[simp] theorem State.setAct_sensors (s : State) (a : Nat) (v : W32) : (s.setAct a v).sensors = s.sensors := rfl
@[simp] theorem State.setAct_shutdowns (s : State) (a : Nat) (v : W32) : (s.setAct a v).shutdowns = s.shutdowns := rfl
@[simp] theorem State.setAct_bands (s : State) (a : Nat) (v : W32) : (s.setAct a v).bands = s.bands := rfl
@[simp] theorem State.setAct_jtagIr (s : State) (a : Nat) (v : W32) : (s.setAct a v).jtagIr = s.jtagIr := rfl
@[simp] theorem State.setAct_jtagDr (s : State) (a : Nat) (v : W32) : (s.setAct a v).jtagDr = s.jtagDr := rfl
@[simp] theorem State.setAct_nonce (s : State) (a : Nat) (v : W32) : (s.setAct a v).nonce = s.nonce := rfl
@[simp] theorem State.setAct_freezeAt (s : State) (a : Nat) (v : W32) : (s.setAct a v).freezeAt = s.freezeAt := rfl
@[simp] theorem State.setAct_flashCmd (s : State) (a : Nat) (v : W32) : (s.setAct a v).flashCmd = s.flashCmd := rfl
@[simp] theorem State.setAct_flashGeo (s : State) (a : Nat) (v : W32) : (s.setAct a v).flashGeo = s.flashGeo := rfl
@[simp] theorem State.setAct_mramCmd (s : State) (a : Nat) (v : W32) : (s.setAct a v).mramCmd = s.mramCmd := rfl
@[simp] theorem State.setAct_ethPause (s : State) (a : Nat) (v : W32) : (s.setAct a v).ethPause = s.ethPause := rfl
@[simp] theorem State.setAct_ethOut (s : State) (a : Nat) (v : W32) : (s.setAct a v).ethOut = s.ethOut := rfl
@[simp] theorem State.setAct_dmaOut (s : State) (a : Nat) (v : W32) : (s.setAct a v).dmaOut = s.dmaOut := rfl
@[simp] theorem State.setAct_dmaDesc (s : State) (a : Nat) (v : W32) : (s.setAct a v).dmaDesc = s.dmaDesc := rfl
@[simp] theorem State.setAct_cans (s : State) (a : Nat) (v : W32) : (s.setAct a v).cans = s.cans := rfl
@[simp] theorem State.setAct_canObjs (s : State) (a : Nat) (v : W32) : (s.setAct a v).canObjs = s.canObjs := rfl
@[simp] theorem State.setAct_core (s : State) (a : Nat) (v : W32) : (s.setAct a v).core = s.core := rfl
@[simp] theorem State.setAct_fieldT0 (s : State) (a : Nat) (v : W32) : (s.setAct a v).fieldT0 = s.fieldT0 := rfl
@[simp] theorem State.setAct_wdtT (s : State) (a : Nat) (v : W32) : (s.setAct a v).wdtT = s.wdtT := rfl
@[simp] theorem State.setAct_flash (s : State) (a : Nat) (v : W32) : (s.setAct a v).flash = s.flash := rfl
@[simp] theorem State.setAct_version (s : State) (a : Nat) (v : W32) : (s.setAct a v).version = s.version := rfl
@[simp] theorem State.setAct_keys (s : State) (a : Nat) (v : W32) : (s.setAct a v).keys = s.keys := rfl
@[simp] theorem State.setAct_entries (s : State) (a : Nat) (v : W32) : (s.setAct a v).entries = s.entries := rfl
@[simp] theorem State.setAct_lcPlan (s : State) (a : Nat) (v : W32) : (s.setAct a v).lcPlan = s.lcPlan := rfl

/-! ### A byte is stored -/

@[simp] theorem State.putByte_pending (s : State) (a : Nat) (b : Byte) : (s.putByte a b).pending = s.pending := rfl
@[simp] theorem State.putByte_dt (s : State) (a : Nat) (b : Byte) : (s.putByte a b).dt = s.dt := rfl
@[simp] theorem State.putByte_free (s : State) (a : Nat) (b : Byte) : (s.putByte a b).free = s.free := rfl
@[simp] theorem State.putByte_regs (s : State) (a : Nat) (b : Byte) : (s.putByte a b).regs = s.regs := rfl
@[simp] theorem State.putByte_inForce (s : State) (a : Nat) (b : Byte) : (s.putByte a b).inForce = s.inForce := rfl
@[simp] theorem State.putByte_commits (s : State) (a : Nat) (b : Byte) : (s.putByte a b).commits = s.commits := rfl
@[simp] theorem State.putByte_staged (s : State) (a : Nat) (b : Byte) : (s.putByte a b).staged = s.staged := rfl
@[simp] theorem State.putByte_latched (s : State) (a : Nat) (b : Byte) : (s.putByte a b).latched = s.latched := rfl
@[simp] theorem State.putByte_rdata (s : State) (a : Nat) (b : Byte) : (s.putByte a b).rdata = s.rdata := rfl
@[simp] theorem State.putByte_posted (s : State) (a : Nat) (b : Byte) : (s.putByte a b).posted = s.posted := rfl
@[simp] theorem State.putByte_msix (s : State) (a : Nat) (b : Byte) : (s.putByte a b).msix = s.msix := rfl
@[simp] theorem State.putByte_actions (s : State) (a : Nat) (b : Byte) : (s.putByte a b).actions = s.actions := rfl
@[simp] theorem State.putByte_silos (s : State) (a : Nat) (b : Byte) : (s.putByte a b).silos = s.silos := rfl
@[simp] theorem State.putByte_lost (s : State) (a : Nat) (b : Byte) : (s.putByte a b).lost = s.lost := rfl
@[simp] theorem State.putByte_recorder (s : State) (a : Nat) (b : Byte) : (s.putByte a b).recorder = s.recorder := rfl
@[simp] theorem State.putByte_axes (s : State) (a : Nat) (b : Byte) : (s.putByte a b).axes = s.axes := rfl
@[simp] theorem State.putByte_gears (s : State) (a : Nat) (b : Byte) : (s.putByte a b).gears = s.gears := rfl
@[simp] theorem State.putByte_ltb (s : State) (a : Nat) (b : Byte) : (s.putByte a b).ltb = s.ltb := rfl
@[simp] theorem State.putByte_ascArms (s : State) (a : Nat) (b : Byte) : (s.putByte a b).ascArms = s.ascArms := rfl
@[simp] theorem State.putByte_ascTook (s : State) (a : Nat) (b : Byte) : (s.putByte a b).ascTook = s.ascTook := rfl
@[simp] theorem State.putByte_ascEnts (s : State) (a : Nat) (b : Byte) : (s.putByte a b).ascEnts = s.ascEnts := rfl
@[simp] theorem State.putByte_fcoEnd (s : State) (a : Nat) (b : Byte) : (s.putByte a b).fcoEnd = s.fcoEnd := rfl
@[simp] theorem State.putByte_fcoLock (s : State) (a : Nat) (b : Byte) : (s.putByte a b).fcoLock = s.fcoLock := rfl
@[simp] theorem State.putByte_fcoOff (s : State) (a : Nat) (b : Byte) : (s.putByte a b).fcoOff = s.fcoOff := rfl
@[simp] theorem State.putByte_fliPins (s : State) (a : Nat) (b : Byte) : (s.putByte a b).fliPins = s.fliPins := rfl
@[simp] theorem State.putByte_fliRecs (s : State) (a : Nat) (b : Byte) : (s.putByte a b).fliRecs = s.fliRecs := rfl
@[simp] theorem State.putByte_latWins (s : State) (a : Nat) (b : Byte) : (s.putByte a b).latWins = s.latWins := rfl
@[simp] theorem State.putByte_ringPorts (s : State) (a : Nat) (b : Byte) : (s.putByte a b).ringPorts = s.ringPorts := rfl
@[simp] theorem State.putByte_ring (s : State) (a : Nat) (b : Byte) : (s.putByte a b).ring = s.ring := rfl
@[simp] theorem State.putByte_promoted (s : State) (a : Nat) (b : Byte) : (s.putByte a b).promoted = s.promoted := rfl
@[simp] theorem State.putByte_xlk (s : State) (a : Nat) (b : Byte) : (s.putByte a b).xlk = s.xlk := rfl
@[simp] theorem State.putByte_groups (s : State) (a : Nat) (b : Byte) : (s.putByte a b).groups = s.groups := rfl
@[simp] theorem State.putByte_safAxes (s : State) (a : Nat) (b : Byte) : (s.putByte a b).safAxes = s.safAxes := rfl
@[simp] theorem State.putByte_ss1 (s : State) (a : Nat) (b : Byte) : (s.putByte a b).ss1 = s.ss1 := rfl
@[simp] theorem State.putByte_ss1Quick (s : State) (a : Nat) (b : Byte) : (s.putByte a b).ss1Quick = s.ss1Quick := rfl
@[simp] theorem State.putByte_ss1Line (s : State) (a : Nat) (b : Byte) : (s.putByte a b).ss1Line = s.ss1Line := rfl
@[simp] theorem State.putByte_disagree (s : State) (a : Nat) (b : Byte) : (s.putByte a b).disagree = s.disagree := rfl
@[simp] theorem State.putByte_noExA (s : State) (a : Nat) (b : Byte) : (s.putByte a b).noExA = s.noExA := rfl
@[simp] theorem State.putByte_noExB (s : State) (a : Nat) (b : Byte) : (s.putByte a b).noExB = s.noExB := rfl
@[simp] theorem State.putByte_chanAStop (s : State) (a : Nat) (b : Byte) : (s.putByte a b).chanAStop = s.chanAStop := rfl
@[simp] theorem State.putByte_keepA (s : State) (a : Nat) (b : Byte) : (s.putByte a b).keepA = s.keepA := rfl
@[simp] theorem State.putByte_dropA (s : State) (a : Nat) (b : Byte) : (s.putByte a b).dropA = s.dropA := rfl
@[simp] theorem State.putByte_safPeer (s : State) (a : Nat) (b : Byte) : (s.putByte a b).safPeer = s.safPeer := rfl
@[simp] theorem State.putByte_safStore (s : State) (a : Nat) (b : Byte) : (s.putByte a b).safStore = s.safStore := rfl
@[simp] theorem State.putByte_dbgHalt (s : State) (a : Nat) (b : Byte) : (s.putByte a b).dbgHalt = s.dbgHalt := rfl
@[simp] theorem State.putByte_acqs (s : State) (a : Nat) (b : Byte) : (s.putByte a b).acqs = s.acqs := rfl
@[simp] theorem State.putByte_acqActs (s : State) (a : Nat) (b : Byte) : (s.putByte a b).acqActs = s.acqActs := rfl
@[simp] theorem State.putByte_ldcs (s : State) (a : Nat) (b : Byte) : (s.putByte a b).ldcs = s.ldcs := rfl
@[simp] theorem State.putByte_ldcSlot (s : State) (a : Nat) (b : Byte) : (s.putByte a b).ldcSlot = s.ldcSlot := rfl
@[simp] theorem State.putByte_ports (s : State) (a : Nat) (b : Byte) : (s.putByte a b).ports = s.ports := rfl
@[simp] theorem State.putByte_emus (s : State) (a : Nat) (b : Byte) : (s.putByte a b).emus = s.emus := rfl
@[simp] theorem State.putByte_links (s : State) (a : Nat) (b : Byte) : (s.putByte a b).links = s.links := rfl
@[simp] theorem State.putByte_servos (s : State) (a : Nat) (b : Byte) : (s.putByte a b).servos = s.servos := rfl
@[simp] theorem State.putByte_servoUndo (s : State) (a : Nat) (b : Byte) : (s.putByte a b).servoUndo = s.servoUndo := rfl
@[simp] theorem State.putByte_lpus (s : State) (a : Nat) (b : Byte) : (s.putByte a b).lpus = s.lpus := rfl
@[simp] theorem State.putByte_sched (s : State) (a : Nat) (b : Byte) : (s.putByte a b).sched = s.sched := rfl
@[simp] theorem State.putByte_age (s : State) (a : Nat) (b : Byte) : (s.putByte a b).age = s.age := rfl
@[simp] theorem State.putByte_sensors (s : State) (a : Nat) (b : Byte) : (s.putByte a b).sensors = s.sensors := rfl
@[simp] theorem State.putByte_shutdowns (s : State) (a : Nat) (b : Byte) : (s.putByte a b).shutdowns = s.shutdowns := rfl
@[simp] theorem State.putByte_bands (s : State) (a : Nat) (b : Byte) : (s.putByte a b).bands = s.bands := rfl
@[simp] theorem State.putByte_jtagIr (s : State) (a : Nat) (b : Byte) : (s.putByte a b).jtagIr = s.jtagIr := rfl
@[simp] theorem State.putByte_jtagDr (s : State) (a : Nat) (b : Byte) : (s.putByte a b).jtagDr = s.jtagDr := rfl
@[simp] theorem State.putByte_nonce (s : State) (a : Nat) (b : Byte) : (s.putByte a b).nonce = s.nonce := rfl
@[simp] theorem State.putByte_freezeAt (s : State) (a : Nat) (b : Byte) : (s.putByte a b).freezeAt = s.freezeAt := rfl
@[simp] theorem State.putByte_flashCmd (s : State) (a : Nat) (b : Byte) : (s.putByte a b).flashCmd = s.flashCmd := rfl
@[simp] theorem State.putByte_flashGeo (s : State) (a : Nat) (b : Byte) : (s.putByte a b).flashGeo = s.flashGeo := rfl
@[simp] theorem State.putByte_mramCmd (s : State) (a : Nat) (b : Byte) : (s.putByte a b).mramCmd = s.mramCmd := rfl
@[simp] theorem State.putByte_ethPause (s : State) (a : Nat) (b : Byte) : (s.putByte a b).ethPause = s.ethPause := rfl
@[simp] theorem State.putByte_ethOut (s : State) (a : Nat) (b : Byte) : (s.putByte a b).ethOut = s.ethOut := rfl
@[simp] theorem State.putByte_dmaOut (s : State) (a : Nat) (b : Byte) : (s.putByte a b).dmaOut = s.dmaOut := rfl
@[simp] theorem State.putByte_dmaDesc (s : State) (a : Nat) (b : Byte) : (s.putByte a b).dmaDesc = s.dmaDesc := rfl
@[simp] theorem State.putByte_cans (s : State) (a : Nat) (b : Byte) : (s.putByte a b).cans = s.cans := rfl
@[simp] theorem State.putByte_canObjs (s : State) (a : Nat) (b : Byte) : (s.putByte a b).canObjs = s.canObjs := rfl
@[simp] theorem State.putByte_core (s : State) (a : Nat) (b : Byte) : (s.putByte a b).core = s.core := rfl
@[simp] theorem State.putByte_fieldT0 (s : State) (a : Nat) (b : Byte) : (s.putByte a b).fieldT0 = s.fieldT0 := rfl
@[simp] theorem State.putByte_wdtT (s : State) (a : Nat) (b : Byte) : (s.putByte a b).wdtT = s.wdtT := rfl
@[simp] theorem State.putByte_flash (s : State) (a : Nat) (b : Byte) : (s.putByte a b).flash = s.flash := rfl
@[simp] theorem State.putByte_version (s : State) (a : Nat) (b : Byte) : (s.putByte a b).version = s.version := rfl
@[simp] theorem State.putByte_keys (s : State) (a : Nat) (b : Byte) : (s.putByte a b).keys = s.keys := rfl
@[simp] theorem State.putByte_entries (s : State) (a : Nat) (b : Byte) : (s.putByte a b).entries = s.entries := rfl
@[simp] theorem State.putByte_lcPlan (s : State) (a : Nat) (b : Byte) : (s.putByte a b).lcPlan = s.lcPlan := rfl

/-! ### A silo is replaced -/

@[simp] theorem State.setSilo_pending (s : State) (i : Nat) (x : Silo) : (s.setSilo i x).pending = s.pending := rfl
@[simp] theorem State.setSilo_dt (s : State) (i : Nat) (x : Silo) : (s.setSilo i x).dt = s.dt := rfl
@[simp] theorem State.setSilo_free (s : State) (i : Nat) (x : Silo) : (s.setSilo i x).free = s.free := rfl
@[simp] theorem State.setSilo_regs (s : State) (i : Nat) (x : Silo) : (s.setSilo i x).regs = s.regs := rfl
@[simp] theorem State.setSilo_inForce (s : State) (i : Nat) (x : Silo) : (s.setSilo i x).inForce = s.inForce := rfl
@[simp] theorem State.setSilo_commits (s : State) (i : Nat) (x : Silo) : (s.setSilo i x).commits = s.commits := rfl
@[simp] theorem State.setSilo_staged (s : State) (i : Nat) (x : Silo) : (s.setSilo i x).staged = s.staged := rfl
@[simp] theorem State.setSilo_latched (s : State) (i : Nat) (x : Silo) : (s.setSilo i x).latched = s.latched := rfl
@[simp] theorem State.setSilo_rdata (s : State) (i : Nat) (x : Silo) : (s.setSilo i x).rdata = s.rdata := rfl
@[simp] theorem State.setSilo_posted (s : State) (i : Nat) (x : Silo) : (s.setSilo i x).posted = s.posted := rfl
@[simp] theorem State.setSilo_mem (s : State) (i : Nat) (x : Silo) : (s.setSilo i x).mem = s.mem := rfl
@[simp] theorem State.setSilo_msix (s : State) (i : Nat) (x : Silo) : (s.setSilo i x).msix = s.msix := rfl
@[simp] theorem State.setSilo_actions (s : State) (i : Nat) (x : Silo) : (s.setSilo i x).actions = s.actions := rfl
@[simp] theorem State.setSilo_lost (s : State) (i : Nat) (x : Silo) : (s.setSilo i x).lost = s.lost := rfl
@[simp] theorem State.setSilo_recorder (s : State) (i : Nat) (x : Silo) : (s.setSilo i x).recorder = s.recorder := rfl
@[simp] theorem State.setSilo_axes (s : State) (i : Nat) (x : Silo) : (s.setSilo i x).axes = s.axes := rfl
@[simp] theorem State.setSilo_gears (s : State) (i : Nat) (x : Silo) : (s.setSilo i x).gears = s.gears := rfl
@[simp] theorem State.setSilo_ltb (s : State) (i : Nat) (x : Silo) : (s.setSilo i x).ltb = s.ltb := rfl
@[simp] theorem State.setSilo_ascArms (s : State) (i : Nat) (x : Silo) : (s.setSilo i x).ascArms = s.ascArms := rfl
@[simp] theorem State.setSilo_ascTook (s : State) (i : Nat) (x : Silo) : (s.setSilo i x).ascTook = s.ascTook := rfl
@[simp] theorem State.setSilo_ascEnts (s : State) (i : Nat) (x : Silo) : (s.setSilo i x).ascEnts = s.ascEnts := rfl
@[simp] theorem State.setSilo_fcoEnd (s : State) (i : Nat) (x : Silo) : (s.setSilo i x).fcoEnd = s.fcoEnd := rfl
@[simp] theorem State.setSilo_fcoLock (s : State) (i : Nat) (x : Silo) : (s.setSilo i x).fcoLock = s.fcoLock := rfl
@[simp] theorem State.setSilo_fcoOff (s : State) (i : Nat) (x : Silo) : (s.setSilo i x).fcoOff = s.fcoOff := rfl
@[simp] theorem State.setSilo_fliPins (s : State) (i : Nat) (x : Silo) : (s.setSilo i x).fliPins = s.fliPins := rfl
@[simp] theorem State.setSilo_fliRecs (s : State) (i : Nat) (x : Silo) : (s.setSilo i x).fliRecs = s.fliRecs := rfl
@[simp] theorem State.setSilo_latWins (s : State) (i : Nat) (x : Silo) : (s.setSilo i x).latWins = s.latWins := rfl
@[simp] theorem State.setSilo_ringPorts (s : State) (i : Nat) (x : Silo) : (s.setSilo i x).ringPorts = s.ringPorts := rfl
@[simp] theorem State.setSilo_ring (s : State) (i : Nat) (x : Silo) : (s.setSilo i x).ring = s.ring := rfl
@[simp] theorem State.setSilo_promoted (s : State) (i : Nat) (x : Silo) : (s.setSilo i x).promoted = s.promoted := rfl
@[simp] theorem State.setSilo_xlk (s : State) (i : Nat) (x : Silo) : (s.setSilo i x).xlk = s.xlk := rfl
@[simp] theorem State.setSilo_groups (s : State) (i : Nat) (x : Silo) : (s.setSilo i x).groups = s.groups := rfl
@[simp] theorem State.setSilo_safAxes (s : State) (i : Nat) (x : Silo) : (s.setSilo i x).safAxes = s.safAxes := rfl
@[simp] theorem State.setSilo_ss1 (s : State) (i : Nat) (x : Silo) : (s.setSilo i x).ss1 = s.ss1 := rfl
@[simp] theorem State.setSilo_ss1Quick (s : State) (i : Nat) (x : Silo) : (s.setSilo i x).ss1Quick = s.ss1Quick := rfl
@[simp] theorem State.setSilo_ss1Line (s : State) (i : Nat) (x : Silo) : (s.setSilo i x).ss1Line = s.ss1Line := rfl
@[simp] theorem State.setSilo_disagree (s : State) (i : Nat) (x : Silo) : (s.setSilo i x).disagree = s.disagree := rfl
@[simp] theorem State.setSilo_noExA (s : State) (i : Nat) (x : Silo) : (s.setSilo i x).noExA = s.noExA := rfl
@[simp] theorem State.setSilo_noExB (s : State) (i : Nat) (x : Silo) : (s.setSilo i x).noExB = s.noExB := rfl
@[simp] theorem State.setSilo_chanAStop (s : State) (i : Nat) (x : Silo) : (s.setSilo i x).chanAStop = s.chanAStop := rfl
@[simp] theorem State.setSilo_keepA (s : State) (i : Nat) (x : Silo) : (s.setSilo i x).keepA = s.keepA := rfl
@[simp] theorem State.setSilo_dropA (s : State) (i : Nat) (x : Silo) : (s.setSilo i x).dropA = s.dropA := rfl
@[simp] theorem State.setSilo_safPeer (s : State) (i : Nat) (x : Silo) : (s.setSilo i x).safPeer = s.safPeer := rfl
@[simp] theorem State.setSilo_safStore (s : State) (i : Nat) (x : Silo) : (s.setSilo i x).safStore = s.safStore := rfl
@[simp] theorem State.setSilo_dbgHalt (s : State) (i : Nat) (x : Silo) : (s.setSilo i x).dbgHalt = s.dbgHalt := rfl
@[simp] theorem State.setSilo_acqs (s : State) (i : Nat) (x : Silo) : (s.setSilo i x).acqs = s.acqs := rfl
@[simp] theorem State.setSilo_acqActs (s : State) (i : Nat) (x : Silo) : (s.setSilo i x).acqActs = s.acqActs := rfl
@[simp] theorem State.setSilo_ldcs (s : State) (i : Nat) (x : Silo) : (s.setSilo i x).ldcs = s.ldcs := rfl
@[simp] theorem State.setSilo_ldcSlot (s : State) (i : Nat) (x : Silo) : (s.setSilo i x).ldcSlot = s.ldcSlot := rfl
@[simp] theorem State.setSilo_ports (s : State) (i : Nat) (x : Silo) : (s.setSilo i x).ports = s.ports := rfl
@[simp] theorem State.setSilo_emus (s : State) (i : Nat) (x : Silo) : (s.setSilo i x).emus = s.emus := rfl
@[simp] theorem State.setSilo_links (s : State) (i : Nat) (x : Silo) : (s.setSilo i x).links = s.links := rfl
@[simp] theorem State.setSilo_servos (s : State) (i : Nat) (x : Silo) : (s.setSilo i x).servos = s.servos := rfl
@[simp] theorem State.setSilo_servoUndo (s : State) (i : Nat) (x : Silo) : (s.setSilo i x).servoUndo = s.servoUndo := rfl
@[simp] theorem State.setSilo_lpus (s : State) (i : Nat) (x : Silo) : (s.setSilo i x).lpus = s.lpus := rfl
@[simp] theorem State.setSilo_sched (s : State) (i : Nat) (x : Silo) : (s.setSilo i x).sched = s.sched := rfl
@[simp] theorem State.setSilo_age (s : State) (i : Nat) (x : Silo) : (s.setSilo i x).age = s.age := rfl
@[simp] theorem State.setSilo_sensors (s : State) (i : Nat) (x : Silo) : (s.setSilo i x).sensors = s.sensors := rfl
@[simp] theorem State.setSilo_shutdowns (s : State) (i : Nat) (x : Silo) : (s.setSilo i x).shutdowns = s.shutdowns := rfl
@[simp] theorem State.setSilo_bands (s : State) (i : Nat) (x : Silo) : (s.setSilo i x).bands = s.bands := rfl
@[simp] theorem State.setSilo_jtagIr (s : State) (i : Nat) (x : Silo) : (s.setSilo i x).jtagIr = s.jtagIr := rfl
@[simp] theorem State.setSilo_jtagDr (s : State) (i : Nat) (x : Silo) : (s.setSilo i x).jtagDr = s.jtagDr := rfl
@[simp] theorem State.setSilo_nonce (s : State) (i : Nat) (x : Silo) : (s.setSilo i x).nonce = s.nonce := rfl
@[simp] theorem State.setSilo_freezeAt (s : State) (i : Nat) (x : Silo) : (s.setSilo i x).freezeAt = s.freezeAt := rfl
@[simp] theorem State.setSilo_flashCmd (s : State) (i : Nat) (x : Silo) : (s.setSilo i x).flashCmd = s.flashCmd := rfl
@[simp] theorem State.setSilo_flashGeo (s : State) (i : Nat) (x : Silo) : (s.setSilo i x).flashGeo = s.flashGeo := rfl
@[simp] theorem State.setSilo_mramCmd (s : State) (i : Nat) (x : Silo) : (s.setSilo i x).mramCmd = s.mramCmd := rfl
@[simp] theorem State.setSilo_ethPause (s : State) (i : Nat) (x : Silo) : (s.setSilo i x).ethPause = s.ethPause := rfl
@[simp] theorem State.setSilo_ethOut (s : State) (i : Nat) (x : Silo) : (s.setSilo i x).ethOut = s.ethOut := rfl
@[simp] theorem State.setSilo_dmaOut (s : State) (i : Nat) (x : Silo) : (s.setSilo i x).dmaOut = s.dmaOut := rfl
@[simp] theorem State.setSilo_dmaDesc (s : State) (i : Nat) (x : Silo) : (s.setSilo i x).dmaDesc = s.dmaDesc := rfl
@[simp] theorem State.setSilo_cans (s : State) (i : Nat) (x : Silo) : (s.setSilo i x).cans = s.cans := rfl
@[simp] theorem State.setSilo_canObjs (s : State) (i : Nat) (x : Silo) : (s.setSilo i x).canObjs = s.canObjs := rfl
@[simp] theorem State.setSilo_core (s : State) (i : Nat) (x : Silo) : (s.setSilo i x).core = s.core := rfl
@[simp] theorem State.setSilo_fieldT0 (s : State) (i : Nat) (x : Silo) : (s.setSilo i x).fieldT0 = s.fieldT0 := rfl
@[simp] theorem State.setSilo_wdtT (s : State) (i : Nat) (x : Silo) : (s.setSilo i x).wdtT = s.wdtT := rfl
@[simp] theorem State.setSilo_flash (s : State) (i : Nat) (x : Silo) : (s.setSilo i x).flash = s.flash := rfl
@[simp] theorem State.setSilo_version (s : State) (i : Nat) (x : Silo) : (s.setSilo i x).version = s.version := rfl
@[simp] theorem State.setSilo_keys (s : State) (i : Nat) (x : Silo) : (s.setSilo i x).keys = s.keys := rfl
@[simp] theorem State.setSilo_entries (s : State) (i : Nat) (x : Silo) : (s.setSilo i x).entries = s.entries := rfl
@[simp] theorem State.setSilo_lcPlan (s : State) (i : Nat) (x : Silo) : (s.setSilo i x).lcPlan = s.lcPlan := rfl


end Sys2Proof.Machine
end

