-- ==== Sys2Proof/Laws/Regs.lean ====
section
/-! SUPPORT. The register file: a register stored reads back, the others are unchanged; the fields of a register, the pairs, the errors. -/

namespace Sys2Proof.Machine

theorem tabGet_tabSet {α : Type} (d v : α) (k x : Nat) (t : Tab α) : tabGet d x (tabSet k v t) = if x = k then v else tabGet d x t := by
  induction t with
  | nil => simp only [tabSet, tabGet]
  | cons c t ih =>
    obtain ⟨k', v'⟩ := c
    unfold tabSet
    split
    · simp only [tabGet]
    · split
      · rename_i h; subst h; simp only [tabGet]; split <;> rfl
      · simp only [tabGet, ih]
        split
        · rename_i h1 h2 h3; subst h3; rw [if_neg (by omega)]
        · rfl

/-- The default does not matter for a key that was just set. -/
@[simp] theorem tabGet_tabSet_same {α : Type} (d v : α) (k : Nat) (t : Tab α) : tabGet d k (tabSet k v t) = v := by simp [tabGet_tabSet]

@[simp] theorem State.rd_wr_same (s : State) (a : Nat) (v : W32) : (s.wr a v).rd a = v := tabGet_tabSet_same _ _ _ _

theorem State.rd_wr (s : State) (a x : Nat) (v : W32) : (s.wr a v).rd x = if x = a then v else s.rd x := tabGet_tabSet _ _ _ _ _

theorem State.rd_wr_ne (s : State) {a x : Nat} (v : W32) (h : x ≠ a) : (s.wr a v).rd x = s.rd x := by rw [State.rd_wr, if_neg h]

@[simp] theorem State.act_wr (s : State) (a x : Nat) (v : W32) : (s.wr a v).act x = s.act x := rfl

@[simp] theorem State.act_setAct_same (s : State) (a : Nat) (v : W32) : (s.setAct a v).act a = v := tabGet_tabSet_same _ _ _ _

theorem State.act_setAct (s : State) (a x : Nat) (v : W32) : (s.setAct a v).act x = if x = a then v else s.act x := tabGet_tabSet _ _ _ _ _

@[simp] theorem State.rd_setAct (s : State) (a x : Nat) (v : W32) : (s.setAct a v).rd x = s.rd x := rfl

/-! ### Fields -/

theorem State.rd_wrFld (s : State) (a hi lo x y : Nat) : (s.wrFld a hi lo x).rd y = if y = a then withFld (s.rd a) hi lo x else s.rd y := State.rd_wr s a y _

theorem State.rd_wrBit (s : State) (a b : Nat) (x : Bool) (y : Nat) : (s.wrBit a b x).rd y = if y = a then withBit (s.rd a) b x else s.rd y := State.rd_wr s a y _

theorem State.rd_wrFld_ne (s : State) {a y : Nat} (hi lo x : Nat) (h : y ≠ a) : (s.wrFld a hi lo x).rd y = s.rd y := State.rd_wr_ne s _ h

theorem State.rd_wrBit_ne (s : State) {a y : Nat} (b : Nat) (x : Bool) (h : y ≠ a) : (s.wrBit a b x).rd y = s.rd y := State.rd_wr_ne s _ h

/-- A field reads what was stored in it. -/
theorem State.fld_wrFld_same (s : State) (a : Nat) {hi lo : Nat} (x : Nat) (h : hi < 32) (hl : lo ≤ hi) : (s.wrFld a hi lo x).fld a hi lo = x % 2 ^ (hi + 1 - lo) := by
  unfold State.fld; rw [State.rd_wrFld, if_pos rfl, fldOf_withFld _ _ h hl]

/-- A bit reads what was stored in it. -/
theorem State.bit_wrBit_same (s : State) (a : Nat) {b : Nat} (x : Bool) (h : b < 32) : (s.wrBit a b x).bit a b = x := by
  unfold State.bit; rw [State.rd_wrBit, if_pos rfl, bitOf_withBit _ _ h]

/-- A field of another register, or one that the field stored does not touch, is unchanged. -/
theorem State.fld_wrFld_other (s : State) {a y hi lo hi' lo' : Nat} (x : Nat) (h : hi < 32) (hl : lo ≤ hi) (hd : y ≠ a ∨ hi' < lo ∨ hi < lo') :
    (s.wrFld a hi lo x).fld y hi' lo' = s.fld y hi' lo' := by
  unfold State.fld
  rw [State.rd_wrFld]
  split
  · rename_i e; subst e
    rw [fldOf_withFld_other _ _ h hl (by rcases hd with e | e | e <;> simp_all)]
  · rfl

/-- A bit of another register, or another bit, is unchanged. -/
theorem State.bit_wrBit_other (s : State) {a y b c : Nat} (x : Bool) (h : b < 32) (hd : y ≠ a ∨ c ≠ b) : (s.wrBit a b x).bit y c = s.bit y c := by
  unfold State.bit
  rw [State.rd_wrBit]
  split
  · rename_i e; subst e
    rw [bitOf_withBit_other _ _ h (by rcases hd with e | e <;> simp_all)]
  · rfl

/-! ### Pairs -/

theorem State.rd64_wr64 (s : State) (lo v : Nat) (h : v < 2 ^ 64) : (s.wr64 lo v).rd64 lo = v := by
  unfold State.rd64 State.wr64
  rw [State.rd_wr_same, State.rd_wr_ne _ _ (by omega), State.rd_wr_same, BitVec.toNat_ofNat, BitVec.toNat_ofNat]
  have h1 : v / 2 ^ 32 < 2 ^ 32 := Nat.div_lt_of_lt_mul (by rw [← Nat.pow_add]; exact h)
  rw [Nat.mod_eq_of_lt h1]
  have := Nat.div_add_mod v (2 ^ 32)
  omega

theorem State.rd_wr64_ne (s : State) {lo y : Nat} (v : Nat) (h : y ≠ lo) (h' : y ≠ lo + 4) : (s.wr64 lo v).rd y = s.rd y := by
  unfold State.wr64
  rw [State.rd_wr_ne _ _ h', State.rd_wr_ne _ _ h]

/-! ### ERR_CAP (R596) -/

/-- Recording an error changes ERR_CAP of the page and no other register. -/
theorem State.rd_err (s : State) (page : Nat) (c : ErrCode) (off y : Nat) :
    (s.err page c off).rd y = if y = page + 0x01C then errCapNext (s.rd (page + 0x01C)) c (off / 4) else s.rd y := State.rd_wr s _ y _

/-- ERR_CAP holds the first error: with CODE 0 the new one is captured. -/
theorem errCapNext_first (v : W32) (c : ErrCode) (word : Nat) (h : fldOf v 7 0 = 0) (hw : word < 1024) :
    fldOf (errCapNext v c word) 7 0 = c.num ∧ fldOf (errCapNext v c word) 17 8 = word := by
  have hc : fldOf v 31 24 < 256 := Nat.mod_lt _ (by decide)
  have hn : c.num < 256 := by cases c <;> decide
  unfold errCapNext
  simp only [h, if_true]
  generalize (if fldOf v 31 24 = 255 then 255 else fldOf v 31 24 + 1) = k
  have e : (k * 2 ^ 24 + word % 1024 * 2 ^ 8 + c.num) % 2 ^ 32 = (k % 256) * 2 ^ 24 + word * 2 ^ 8 + c.num := by
    rw [Nat.mod_eq_of_lt hw]; omega
  unfold fldOf
  rw [BitVec.toNat_ofNat, e]
  constructor <;> omega

end Sys2Proof.Machine
end

