-- ==== Sys2Proof/Laws/Crc.lean ====
section
/-! SUPPORT. The CRC-32s fit 32 bits; the signature of a safety configuration does not depend on the register that holds it. -/

namespace Sys2Proof.Machine

theorem crcBit_lt {poly c : Nat} (hp : poly < 2 ^ 32) (hc : c < 2 ^ 32) : crcBit poly c < 2 ^ 32 := by
  unfold crcBit
  split
  · exact Nat.xor_lt_two_pow (by omega) hp
  · omega

theorem crcByte_lt {poly c : Nat} (b : Byte) (hp : poly < 2 ^ 32) (hc : c < 2 ^ 32) : crcByte poly c b < 2 ^ 32 := by
  have hb : b.toNat < 2 ^ 32 := Nat.lt_of_lt_of_le b.isLt (by decide)
  unfold crcByte
  exact crcBit_lt hp (crcBit_lt hp (crcBit_lt hp (crcBit_lt hp (crcBit_lt hp (crcBit_lt hp (crcBit_lt hp (crcBit_lt hp (Nat.xor_lt_two_pow hc hb))))))))

theorem crcFold_lt {poly : Nat} (hp : poly < 2 ^ 32) (l : List Byte) : ∀ c, c < 2 ^ 32 → l.foldl (crcByte poly) c < 2 ^ 32 := by
  induction l with
  | nil => exact fun c h => h
  | cons b l ih => exact fun c h => ih _ (crcByte_lt b hp h)

/-- A CRC-32 fits 32 bits (R180, R419). -/
theorem crcOf_lt {poly : Nat} (hp : poly < 2 ^ 32) (l : List Byte) : crcOf poly l < 2 ^ 32 :=
  Nat.xor_lt_two_pow (crcFold_lt hp l _ (by decide)) (by decide)

theorem crc32_lt (l : List Byte) : crc32 l < 2 ^ 32 := crcOf_lt (by decide) l

/-- The signature fits its register (R426). -/
theorem State.sigShadow_lt (s : State) : s.sigShadow < 2 ^ 32 := crcOf_lt (by decide) _

/-- Two sets that agree on the registers that the signature covers have the same signature (R426). -/
theorem signatureOf_congr {v w : Nat → W32} (h : ∀ a ∈ sigRegs, v a = w a) : signatureOf v = signatureOf w := by
  have e : ∀ l : List Nat, (∀ a ∈ l, v a = w a) → (l.flatMap fun a => leBytes 4 (v a).toNat) = l.flatMap fun a => leBytes 4 (w a).toNat := by
    intro l
    induction l with
    | nil => exact fun _ => rfl
    | cons a l ih => exact fun g => by rw [List.flatMap_cons, List.flatMap_cons, g a (List.mem_cons_self ..), ih fun b hb => g b (List.mem_cons_of_mem _ hb)]
  unfold signatureOf
  rw [e _ h]

/-- The register that holds the expected signature is not covered by it (R426). -/
theorem State.sigShadow_wr_sig (s : State) (v : W32) : (s.wr SAF0_SAF_SIG v).sigShadow = s.sigShadow :=
  signatureOf_congr fun a ha => s.rd_wr_ne v (by
    have := (List.mem_filter.mp ha).2
    simpa using this)

/-- A shadow set signed with its own signature passes that check of ACTIVATE (R426). -/
theorem State.signed (s : State) : (s.wr SAF0_SAF_SIG (BitVec.ofNat 32 s.sigShadow)).sigShadow = ((s.wr SAF0_SAF_SIG (BitVec.ofNat 32 s.sigShadow)).rd SAF0_SAF_SIG).toNat := by
  rw [State.sigShadow_wr_sig, State.rd_wr_same, BitVec.toNat_ofNat, Nat.mod_eq_of_lt s.sigShadow_lt]

end Sys2Proof.Machine
end

