-- ==== Sys2Proof/Laws/Events.lean ====
section
/-! SUPPORT. Events: what raising, counting and clearing can change. Beside the event registers only the router's own (its action queue, its messages, its counter) can. -/

namespace Sys2Proof.Machine

/-- `t` differs from `s` in registers, messages and queued actions at most. -/
def State.evOnly (s t : State) : Prop := ∃ r m a, t = { s with regs := r, msix := m, actions := a }

theorem State.evOnly.refl (s : State) : s.evOnly s := ⟨s.regs, s.msix, s.actions, rfl⟩

theorem State.evOnly.trans {s t u : State} (h : s.evOnly t) (g : t.evOnly u) : s.evOnly u := by
  obtain ⟨r, m, a, rfl⟩ := h
  obtain ⟨r', m', a', rfl⟩ := g
  exact ⟨r', m', a', rfl⟩

theorem State.evOnly_wr (s : State) (a : Nat) (v : W32) : s.evOnly (s.wr a v) := ⟨_, s.msix, s.actions, rfl⟩

theorem State.evOnly_when {s : State} {c : Bool} {f : State → State} (h : s.evOnly (f s)) : s.evOnly (s.when c f) := by
  unfold State.when; split
  · exact h
  · exact .refl s

theorem State.evOnly_each {α : Type} {s : State} {l : List α} {f : α → State → State} (h : ∀ (x : α) (t : State), t.evOnly (f x t)) : s.evOnly (s.each l f) := by
  unfold State.each
  induction l generalizing s with
  | nil => exact .refl s
  | cons x l ih => exact (h x s).trans ih

theorem State.evOnly_satUp (s : State) (a hi lo : Nat) : s.evOnly (s.satUp a hi lo).2 := by
  unfold State.satUp
  dsimp only
  split
  · exact .refl s
  · exact s.evOnly_wr _ _

theorem State.evOnly_wrapUp (s : State) (a hi lo : Nat) : s.evOnly (s.wrapUp a hi lo) := s.evOnly_wr _ _

theorem State.evOnly_sendMsix (s : State) (v : Nat) : s.evOnly (s.sendMsix v) := by
  unfold State.sendMsix
  split
  · exact s.evOnly_wr _ _
  · exact ⟨s.regs, _, s.actions, rfl⟩

theorem State.evOnly_actDropped (s : State) : s.evOnly s.actDropped := by
  unfold State.actDropped
  dsimp only
  refine ((s.evOnly_satUp _ _ _).trans (State.evOnly_wr _ _ _)).trans (State.evOnly_each fun e t => ?_)
  split
  · exact State.evOnly_when (State.evOnly_sendMsix _ _)
  · exact State.evOnly_when (State.evOnly_satUp _ _ _ _)
  · exact .refl t

theorem State.evOnly_queueAction (s : State) (a : RouterAct) : s.evOnly (s.queueAction a) := by
  unfold State.queueAction
  split
  · exact ⟨s.regs, s.msix, _, rfl⟩
  · exact s.evOnly_actDropped

theorem State.evOnly_signal (s : State) (e : Nat) (b f : Bool) : s.evOnly (s.signal e b f) := by
  unfold State.signal
  split
  · exact .refl s
  · dsimp only
    split
    · exact State.evOnly_when (s.evOnly_sendMsix _)
    · exact State.evOnly_when (s.evOnly_queueAction _)
    · exact .refl s

theorem State.evOnly_setEvt (s : State) (page : Nat) (p e : W32) : s.evOnly (s.setEvt page p e) := by
  unfold State.setEvt
  dsimp only
  have h : s.evOnly ((s.wr (evtPendAt page) p).wr (evtEnAt page) e) := (s.evOnly_wr _ _).trans (State.evOnly_wr _ _ _)
  split
  · exact h
  · exact h.trans (State.evOnly_each fun _ t => State.evOnly_signal t _ _ _)

theorem State.evOnly_raise (s : State) (page bit : Nat) : s.evOnly (s.raise page bit) := s.evOnly_setEvt _ _ _

theorem State.evOnly_raiseIf (s : State) (c : Bool) (page bit : Nat) : s.evOnly (s.raiseIf c page bit) := State.evOnly_when (s.evOnly_raise _ _)

theorem State.evOnly_count (s : State) (a hi lo page bit : Nat) : s.evOnly (s.count a hi lo page bit) := by
  unfold State.count
  exact (s.evOnly_satUp a hi lo).trans (State.evOnly_raiseIf _ _ _ _)

theorem State.evOnly_clearEvt (s : State) (page : Nat) (v : W32) : s.evOnly (s.clearEvt page v) := by
  unfold State.clearEvt
  dsimp only
  split
  · exact s.evOnly_wr _ _
  · exact (s.evOnly_wr _ _).trans (State.evOnly_each fun _ t => State.evOnly_signal t _ _ _)

theorem State.evOnly_setExtFlt (s : State) (n : Nat) : s.evOnly (s.setExtFlt n) := by
  unfold State.setExtFlt
  exact (s.evOnly_wr _ _).trans (State.evOnly_signal _ _ _ _)

/-! ### The registers that the router writes by itself -/

/-- The registers that signalling a source can change: the pending bits of MSI-X, and EVT_PEND and CNT_EVR of the event router. -/
def routerReg (a : Nat) : Prop := (0x18C00 ≤ a ∧ a < 0x18C10) ∨ a = 0x5010 ∨ a = EVR_CNT_EVR

theorem State.rd_when {s : State} {c : Bool} {f : State → State} {y : Nat} (h : (f s).rd y = s.rd y) : (s.when c f).rd y = s.rd y := by
  unfold State.when; split
  · exact h
  · rfl

theorem State.rd_each {α : Type} {s : State} {l : List α} {f : α → State → State} {y : Nat} (h : ∀ (x : α) (t : State), (f x t).rd y = t.rd y) : (s.each l f).rd y = s.rd y := by
  unfold State.each
  induction l generalizing s with
  | nil => rfl
  | cons x l ih => exact (ih (s := f x s)).trans (h x s)

theorem State.rd_satUp_ne {s : State} {a hi lo y : Nat} (h : y ≠ a) : (s.satUp a hi lo).2.rd y = s.rd y := by
  unfold State.satUp
  dsimp only
  split
  · rfl
  · exact State.rd_wrFld_ne _ _ _ _ h

theorem routeTarget_lt (v : W32) : routeTarget v < 128 := Nat.mod_lt _ (by decide)

theorem State.rd_sendMsix {s : State} {v y : Nat} (hv : v < 128) (h : ¬ routerReg y) : (s.sendMsix v).rd y = s.rd y := by
  unfold routerReg at h
  unfold State.sendMsix
  split
  · exact State.rd_wrBit_ne _ _ _ (by unfold PCI_MSIX_PBA; omega)
  · rfl

theorem State.rd_actDropped {s : State} {y : Nat} (h : ¬ routerReg y) : s.actDropped.rd y = s.rd y := by
  unfold State.actDropped
  dsimp only
  rw [State.rd_each fun e t => ?_]
  · unfold routerReg at h
    rw [State.rd_wr_ne _ _ (by unfold evtPendAt; omega), State.rd_satUp_ne (by omega)]
  · split
    · exact State.rd_when (State.rd_sendMsix (routeTarget_lt _) h)
    · exact State.rd_when (State.rd_satUp_ne (by unfold routerReg at h; omega))
    · rfl

theorem State.rd_queueAction {s : State} {a : RouterAct} {y : Nat} (h : ¬ routerReg y) : (s.queueAction a).rd y = s.rd y := by
  unfold State.queueAction
  split
  · rfl
  · exact State.rd_actDropped h

theorem State.rd_signal {s : State} {e y : Nat} {b f : Bool} (h : ¬ routerReg y) : (s.signal e b f).rd y = s.rd y := by
  unfold State.signal
  split
  · rfl
  · dsimp only
    split
    · exact State.rd_when (State.rd_sendMsix (routeTarget_lt _) h)
    · exact State.rd_when (State.rd_queueAction h)
    · rfl

theorem State.rd_setEvt {s : State} {page y : Nat} {p e : W32} (h : ¬ routerReg y) :
    (s.setEvt page p e).rd y = ((s.wr (evtPendAt page) p).wr (evtEnAt page) e).rd y := by
  unfold State.setEvt
  dsimp only
  split
  · rfl
  · exact State.rd_each fun _ _ => State.rd_signal h

/-- Raising an event changes EVT_PEND of its page, and registers of the router. -/
theorem State.rd_raise {s : State} {page bit y : Nat} (h : ¬ routerReg y) (hp : y ≠ evtPendAt page) : (s.raise page bit).rd y = s.rd y := by
  unfold State.raise
  rw [State.rd_setEvt h, State.rd_wr]
  split
  · rename_i e; rw [e]
  · exact State.rd_wr_ne _ _ hp

/-- An event raised is pending, on every page but the router's own, whose pending bits only grow. -/
theorem State.rd_raise_pend {s : State} {page bit : Nat} (h : ¬ routerReg (evtPendAt page)) :
    (s.raise page bit).rd (evtPendAt page) = withBit (s.rd (evtPendAt page)) bit true := by
  unfold State.raise
  rw [State.rd_setEvt h, State.rd_wr_ne _ _ (by unfold evtPendAt evtEnAt; omega), State.rd_wr_same]

theorem State.rd_raiseIf {s : State} {c : Bool} {page bit y : Nat} (h : ¬ routerReg y) (hp : y ≠ evtPendAt page) : (s.raiseIf c page bit).rd y = s.rd y :=
  State.rd_when (State.rd_raise h hp)

/-- Counting changes the counter, EVT_PEND of its page, and registers of the router. -/
theorem State.rd_count {s : State} {a hi lo page bit y : Nat} (h : ¬ routerReg y) (hp : y ≠ evtPendAt page) (ha : y ≠ a) :
    (s.count a hi lo page bit).rd y = s.rd y := by
  unfold State.count
  exact (State.rd_raiseIf h hp).trans (State.rd_satUp_ne ha)

/-- A counter below its limit counts one more. -/
theorem State.fld_count {s : State} {a hi lo page bit : Nat} (hr : ¬ routerReg a) (hp : a ≠ evtPendAt page) (h : hi < 32) (hl : lo ≤ hi)
    (hm : s.fld a hi lo < 2 ^ (hi + 1 - lo) - 1) : (s.count a hi lo page bit).fld a hi lo = s.fld a hi lo + 1 := by
  have e : ((s.count a hi lo page bit).rd a) = withFld (s.rd a) hi lo (s.fld a hi lo + 1) := by
    unfold State.count
    dsimp only
    rw [State.rd_raiseIf hr hp]
    unfold State.satUp
    dsimp only
    rw [if_neg (by omega)]
    exact State.rd_wr_same _ _ _
  unfold State.fld at *
  rw [e, fldOf_withFld _ _ h hl, Nat.mod_eq_of_lt (by omega)]

/-- A counter at its limit stays there (R6). -/
theorem State.fld_count_full {s : State} {a hi lo page bit : Nat} (hm : s.fld a hi lo = 2 ^ (hi + 1 - lo) - 1) : s.count a hi lo page bit = s := by
  unfold State.count State.satUp
  dsimp only
  rw [if_pos hm]
  rfl

theorem State.evOnly.pending {s t : State} (h : s.evOnly t) : t.pending = s.pending := by obtain ⟨_, _, _, rfl⟩ := h; rfl
theorem State.evOnly.dt {s t : State} (h : s.evOnly t) : t.dt = s.dt := by obtain ⟨_, _, _, rfl⟩ := h; rfl
theorem State.evOnly.free {s t : State} (h : s.evOnly t) : t.free = s.free := by obtain ⟨_, _, _, rfl⟩ := h; rfl
theorem State.evOnly.inForce {s t : State} (h : s.evOnly t) : t.inForce = s.inForce := by obtain ⟨_, _, _, rfl⟩ := h; rfl
theorem State.evOnly.commits {s t : State} (h : s.evOnly t) : t.commits = s.commits := by obtain ⟨_, _, _, rfl⟩ := h; rfl
theorem State.evOnly.staged {s t : State} (h : s.evOnly t) : t.staged = s.staged := by obtain ⟨_, _, _, rfl⟩ := h; rfl
theorem State.evOnly.latched {s t : State} (h : s.evOnly t) : t.latched = s.latched := by obtain ⟨_, _, _, rfl⟩ := h; rfl
theorem State.evOnly.rdata {s t : State} (h : s.evOnly t) : t.rdata = s.rdata := by obtain ⟨_, _, _, rfl⟩ := h; rfl
theorem State.evOnly.posted {s t : State} (h : s.evOnly t) : t.posted = s.posted := by obtain ⟨_, _, _, rfl⟩ := h; rfl
theorem State.evOnly.mem {s t : State} (h : s.evOnly t) : t.mem = s.mem := by obtain ⟨_, _, _, rfl⟩ := h; rfl
theorem State.evOnly.silos {s t : State} (h : s.evOnly t) : t.silos = s.silos := by obtain ⟨_, _, _, rfl⟩ := h; rfl
theorem State.evOnly.lost {s t : State} (h : s.evOnly t) : t.lost = s.lost := by obtain ⟨_, _, _, rfl⟩ := h; rfl
theorem State.evOnly.recorder {s t : State} (h : s.evOnly t) : t.recorder = s.recorder := by obtain ⟨_, _, _, rfl⟩ := h; rfl
theorem State.evOnly.axes {s t : State} (h : s.evOnly t) : t.axes = s.axes := by obtain ⟨_, _, _, rfl⟩ := h; rfl
theorem State.evOnly.gears {s t : State} (h : s.evOnly t) : t.gears = s.gears := by obtain ⟨_, _, _, rfl⟩ := h; rfl
theorem State.evOnly.ltb {s t : State} (h : s.evOnly t) : t.ltb = s.ltb := by obtain ⟨_, _, _, rfl⟩ := h; rfl
theorem State.evOnly.ascArms {s t : State} (h : s.evOnly t) : t.ascArms = s.ascArms := by obtain ⟨_, _, _, rfl⟩ := h; rfl
theorem State.evOnly.ascTook {s t : State} (h : s.evOnly t) : t.ascTook = s.ascTook := by obtain ⟨_, _, _, rfl⟩ := h; rfl
theorem State.evOnly.ascEnts {s t : State} (h : s.evOnly t) : t.ascEnts = s.ascEnts := by obtain ⟨_, _, _, rfl⟩ := h; rfl
theorem State.evOnly.fcoEnd {s t : State} (h : s.evOnly t) : t.fcoEnd = s.fcoEnd := by obtain ⟨_, _, _, rfl⟩ := h; rfl
theorem State.evOnly.fcoLock {s t : State} (h : s.evOnly t) : t.fcoLock = s.fcoLock := by obtain ⟨_, _, _, rfl⟩ := h; rfl
theorem State.evOnly.fcoOff {s t : State} (h : s.evOnly t) : t.fcoOff = s.fcoOff := by obtain ⟨_, _, _, rfl⟩ := h; rfl
theorem State.evOnly.fliPins {s t : State} (h : s.evOnly t) : t.fliPins = s.fliPins := by obtain ⟨_, _, _, rfl⟩ := h; rfl
theorem State.evOnly.fliRecs {s t : State} (h : s.evOnly t) : t.fliRecs = s.fliRecs := by obtain ⟨_, _, _, rfl⟩ := h; rfl
theorem State.evOnly.latWins {s t : State} (h : s.evOnly t) : t.latWins = s.latWins := by obtain ⟨_, _, _, rfl⟩ := h; rfl
theorem State.evOnly.ringPorts {s t : State} (h : s.evOnly t) : t.ringPorts = s.ringPorts := by obtain ⟨_, _, _, rfl⟩ := h; rfl
theorem State.evOnly.ring {s t : State} (h : s.evOnly t) : t.ring = s.ring := by obtain ⟨_, _, _, rfl⟩ := h; rfl
theorem State.evOnly.promoted {s t : State} (h : s.evOnly t) : t.promoted = s.promoted := by obtain ⟨_, _, _, rfl⟩ := h; rfl
theorem State.evOnly.xlk {s t : State} (h : s.evOnly t) : t.xlk = s.xlk := by obtain ⟨_, _, _, rfl⟩ := h; rfl
theorem State.evOnly.groups {s t : State} (h : s.evOnly t) : t.groups = s.groups := by obtain ⟨_, _, _, rfl⟩ := h; rfl
theorem State.evOnly.safAxes {s t : State} (h : s.evOnly t) : t.safAxes = s.safAxes := by obtain ⟨_, _, _, rfl⟩ := h; rfl
theorem State.evOnly.ss1 {s t : State} (h : s.evOnly t) : t.ss1 = s.ss1 := by obtain ⟨_, _, _, rfl⟩ := h; rfl
theorem State.evOnly.ss1Quick {s t : State} (h : s.evOnly t) : t.ss1Quick = s.ss1Quick := by obtain ⟨_, _, _, rfl⟩ := h; rfl
theorem State.evOnly.ss1Line {s t : State} (h : s.evOnly t) : t.ss1Line = s.ss1Line := by obtain ⟨_, _, _, rfl⟩ := h; rfl
theorem State.evOnly.disagree {s t : State} (h : s.evOnly t) : t.disagree = s.disagree := by obtain ⟨_, _, _, rfl⟩ := h; rfl
theorem State.evOnly.noExA {s t : State} (h : s.evOnly t) : t.noExA = s.noExA := by obtain ⟨_, _, _, rfl⟩ := h; rfl
theorem State.evOnly.noExB {s t : State} (h : s.evOnly t) : t.noExB = s.noExB := by obtain ⟨_, _, _, rfl⟩ := h; rfl
theorem State.evOnly.chanAStop {s t : State} (h : s.evOnly t) : t.chanAStop = s.chanAStop := by obtain ⟨_, _, _, rfl⟩ := h; rfl
theorem State.evOnly.keepA {s t : State} (h : s.evOnly t) : t.keepA = s.keepA := by obtain ⟨_, _, _, rfl⟩ := h; rfl
theorem State.evOnly.dropA {s t : State} (h : s.evOnly t) : t.dropA = s.dropA := by obtain ⟨_, _, _, rfl⟩ := h; rfl
theorem State.evOnly.safPeer {s t : State} (h : s.evOnly t) : t.safPeer = s.safPeer := by obtain ⟨_, _, _, rfl⟩ := h; rfl
theorem State.evOnly.safStore {s t : State} (h : s.evOnly t) : t.safStore = s.safStore := by obtain ⟨_, _, _, rfl⟩ := h; rfl
theorem State.evOnly.dbgHalt {s t : State} (h : s.evOnly t) : t.dbgHalt = s.dbgHalt := by obtain ⟨_, _, _, rfl⟩ := h; rfl
theorem State.evOnly.acqs {s t : State} (h : s.evOnly t) : t.acqs = s.acqs := by obtain ⟨_, _, _, rfl⟩ := h; rfl
theorem State.evOnly.acqActs {s t : State} (h : s.evOnly t) : t.acqActs = s.acqActs := by obtain ⟨_, _, _, rfl⟩ := h; rfl
theorem State.evOnly.ldcs {s t : State} (h : s.evOnly t) : t.ldcs = s.ldcs := by obtain ⟨_, _, _, rfl⟩ := h; rfl
theorem State.evOnly.ldcSlot {s t : State} (h : s.evOnly t) : t.ldcSlot = s.ldcSlot := by obtain ⟨_, _, _, rfl⟩ := h; rfl
theorem State.evOnly.ports {s t : State} (h : s.evOnly t) : t.ports = s.ports := by obtain ⟨_, _, _, rfl⟩ := h; rfl
theorem State.evOnly.emus {s t : State} (h : s.evOnly t) : t.emus = s.emus := by obtain ⟨_, _, _, rfl⟩ := h; rfl
theorem State.evOnly.links {s t : State} (h : s.evOnly t) : t.links = s.links := by obtain ⟨_, _, _, rfl⟩ := h; rfl
theorem State.evOnly.servos {s t : State} (h : s.evOnly t) : t.servos = s.servos := by obtain ⟨_, _, _, rfl⟩ := h; rfl
theorem State.evOnly.servoUndo {s t : State} (h : s.evOnly t) : t.servoUndo = s.servoUndo := by obtain ⟨_, _, _, rfl⟩ := h; rfl
theorem State.evOnly.lpus {s t : State} (h : s.evOnly t) : t.lpus = s.lpus := by obtain ⟨_, _, _, rfl⟩ := h; rfl
theorem State.evOnly.sched {s t : State} (h : s.evOnly t) : t.sched = s.sched := by obtain ⟨_, _, _, rfl⟩ := h; rfl
theorem State.evOnly.age {s t : State} (h : s.evOnly t) : t.age = s.age := by obtain ⟨_, _, _, rfl⟩ := h; rfl
theorem State.evOnly.sensors {s t : State} (h : s.evOnly t) : t.sensors = s.sensors := by obtain ⟨_, _, _, rfl⟩ := h; rfl
theorem State.evOnly.shutdowns {s t : State} (h : s.evOnly t) : t.shutdowns = s.shutdowns := by obtain ⟨_, _, _, rfl⟩ := h; rfl
theorem State.evOnly.bands {s t : State} (h : s.evOnly t) : t.bands = s.bands := by obtain ⟨_, _, _, rfl⟩ := h; rfl
theorem State.evOnly.jtagIr {s t : State} (h : s.evOnly t) : t.jtagIr = s.jtagIr := by obtain ⟨_, _, _, rfl⟩ := h; rfl
theorem State.evOnly.jtagDr {s t : State} (h : s.evOnly t) : t.jtagDr = s.jtagDr := by obtain ⟨_, _, _, rfl⟩ := h; rfl
theorem State.evOnly.nonce {s t : State} (h : s.evOnly t) : t.nonce = s.nonce := by obtain ⟨_, _, _, rfl⟩ := h; rfl
theorem State.evOnly.freezeAt {s t : State} (h : s.evOnly t) : t.freezeAt = s.freezeAt := by obtain ⟨_, _, _, rfl⟩ := h; rfl
theorem State.evOnly.flashCmd {s t : State} (h : s.evOnly t) : t.flashCmd = s.flashCmd := by obtain ⟨_, _, _, rfl⟩ := h; rfl
theorem State.evOnly.flashGeo {s t : State} (h : s.evOnly t) : t.flashGeo = s.flashGeo := by obtain ⟨_, _, _, rfl⟩ := h; rfl
theorem State.evOnly.mramCmd {s t : State} (h : s.evOnly t) : t.mramCmd = s.mramCmd := by obtain ⟨_, _, _, rfl⟩ := h; rfl
theorem State.evOnly.ethPause {s t : State} (h : s.evOnly t) : t.ethPause = s.ethPause := by obtain ⟨_, _, _, rfl⟩ := h; rfl
theorem State.evOnly.ethOut {s t : State} (h : s.evOnly t) : t.ethOut = s.ethOut := by obtain ⟨_, _, _, rfl⟩ := h; rfl
theorem State.evOnly.dmaOut {s t : State} (h : s.evOnly t) : t.dmaOut = s.dmaOut := by obtain ⟨_, _, _, rfl⟩ := h; rfl
theorem State.evOnly.dmaDesc {s t : State} (h : s.evOnly t) : t.dmaDesc = s.dmaDesc := by obtain ⟨_, _, _, rfl⟩ := h; rfl
theorem State.evOnly.cans {s t : State} (h : s.evOnly t) : t.cans = s.cans := by obtain ⟨_, _, _, rfl⟩ := h; rfl
theorem State.evOnly.canObjs {s t : State} (h : s.evOnly t) : t.canObjs = s.canObjs := by obtain ⟨_, _, _, rfl⟩ := h; rfl
theorem State.evOnly.core {s t : State} (h : s.evOnly t) : t.core = s.core := by obtain ⟨_, _, _, rfl⟩ := h; rfl
theorem State.evOnly.fieldT0 {s t : State} (h : s.evOnly t) : t.fieldT0 = s.fieldT0 := by obtain ⟨_, _, _, rfl⟩ := h; rfl
theorem State.evOnly.wdtT {s t : State} (h : s.evOnly t) : t.wdtT = s.wdtT := by obtain ⟨_, _, _, rfl⟩ := h; rfl
theorem State.evOnly.flash {s t : State} (h : s.evOnly t) : t.flash = s.flash := by obtain ⟨_, _, _, rfl⟩ := h; rfl
theorem State.evOnly.version {s t : State} (h : s.evOnly t) : t.version = s.version := by obtain ⟨_, _, _, rfl⟩ := h; rfl
theorem State.evOnly.keys {s t : State} (h : s.evOnly t) : t.keys = s.keys := by obtain ⟨_, _, _, rfl⟩ := h; rfl
theorem State.evOnly.entries {s t : State} (h : s.evOnly t) : t.entries = s.entries := by obtain ⟨_, _, _, rfl⟩ := h; rfl
theorem State.evOnly.lcPlan {s t : State} (h : s.evOnly t) : t.lcPlan = s.lcPlan := by obtain ⟨_, _, _, rfl⟩ := h; rfl

@[simp] theorem State.raise_pending (s : State) (page bit : Nat) : (s.raise page bit).pending = s.pending := (s.evOnly_raise page bit).pending
@[simp] theorem State.raise_dt (s : State) (page bit : Nat) : (s.raise page bit).dt = s.dt := (s.evOnly_raise page bit).dt
@[simp] theorem State.raise_free (s : State) (page bit : Nat) : (s.raise page bit).free = s.free := (s.evOnly_raise page bit).free
@[simp] theorem State.raise_inForce (s : State) (page bit : Nat) : (s.raise page bit).inForce = s.inForce := (s.evOnly_raise page bit).inForce
@[simp] theorem State.raise_commits (s : State) (page bit : Nat) : (s.raise page bit).commits = s.commits := (s.evOnly_raise page bit).commits
@[simp] theorem State.raise_staged (s : State) (page bit : Nat) : (s.raise page bit).staged = s.staged := (s.evOnly_raise page bit).staged
@[simp] theorem State.raise_latched (s : State) (page bit : Nat) : (s.raise page bit).latched = s.latched := (s.evOnly_raise page bit).latched
@[simp] theorem State.raise_rdata (s : State) (page bit : Nat) : (s.raise page bit).rdata = s.rdata := (s.evOnly_raise page bit).rdata
@[simp] theorem State.raise_posted (s : State) (page bit : Nat) : (s.raise page bit).posted = s.posted := (s.evOnly_raise page bit).posted
@[simp] theorem State.raise_mem (s : State) (page bit : Nat) : (s.raise page bit).mem = s.mem := (s.evOnly_raise page bit).mem
@[simp] theorem State.raise_silos (s : State) (page bit : Nat) : (s.raise page bit).silos = s.silos := (s.evOnly_raise page bit).silos
@[simp] theorem State.raise_lost (s : State) (page bit : Nat) : (s.raise page bit).lost = s.lost := (s.evOnly_raise page bit).lost
@[simp] theorem State.raise_recorder (s : State) (page bit : Nat) : (s.raise page bit).recorder = s.recorder := (s.evOnly_raise page bit).recorder
@[simp] theorem State.raise_axes (s : State) (page bit : Nat) : (s.raise page bit).axes = s.axes := (s.evOnly_raise page bit).axes
@[simp] theorem State.raise_gears (s : State) (page bit : Nat) : (s.raise page bit).gears = s.gears := (s.evOnly_raise page bit).gears
@[simp] theorem State.raise_ltb (s : State) (page bit : Nat) : (s.raise page bit).ltb = s.ltb := (s.evOnly_raise page bit).ltb
@[simp] theorem State.raise_ascArms (s : State) (page bit : Nat) : (s.raise page bit).ascArms = s.ascArms := (s.evOnly_raise page bit).ascArms
@[simp] theorem State.raise_ascTook (s : State) (page bit : Nat) : (s.raise page bit).ascTook = s.ascTook := (s.evOnly_raise page bit).ascTook
@[simp] theorem State.raise_ascEnts (s : State) (page bit : Nat) : (s.raise page bit).ascEnts = s.ascEnts := (s.evOnly_raise page bit).ascEnts
@[simp] theorem State.raise_fcoEnd (s : State) (page bit : Nat) : (s.raise page bit).fcoEnd = s.fcoEnd := (s.evOnly_raise page bit).fcoEnd
@[simp] theorem State.raise_fcoLock (s : State) (page bit : Nat) : (s.raise page bit).fcoLock = s.fcoLock := (s.evOnly_raise page bit).fcoLock
@[simp] theorem State.raise_fcoOff (s : State) (page bit : Nat) : (s.raise page bit).fcoOff = s.fcoOff := (s.evOnly_raise page bit).fcoOff
@[simp] theorem State.raise_fliPins (s : State) (page bit : Nat) : (s.raise page bit).fliPins = s.fliPins := (s.evOnly_raise page bit).fliPins
@[simp] theorem State.raise_fliRecs (s : State) (page bit : Nat) : (s.raise page bit).fliRecs = s.fliRecs := (s.evOnly_raise page bit).fliRecs
@[simp] theorem State.raise_latWins (s : State) (page bit : Nat) : (s.raise page bit).latWins = s.latWins := (s.evOnly_raise page bit).latWins
@[simp] theorem State.raise_ringPorts (s : State) (page bit : Nat) : (s.raise page bit).ringPorts = s.ringPorts := (s.evOnly_raise page bit).ringPorts
@[simp] theorem State.raise_ring (s : State) (page bit : Nat) : (s.raise page bit).ring = s.ring := (s.evOnly_raise page bit).ring
@[simp] theorem State.raise_promoted (s : State) (page bit : Nat) : (s.raise page bit).promoted = s.promoted := (s.evOnly_raise page bit).promoted
@[simp] theorem State.raise_xlk (s : State) (page bit : Nat) : (s.raise page bit).xlk = s.xlk := (s.evOnly_raise page bit).xlk
@[simp] theorem State.raise_groups (s : State) (page bit : Nat) : (s.raise page bit).groups = s.groups := (s.evOnly_raise page bit).groups
@[simp] theorem State.raise_safAxes (s : State) (page bit : Nat) : (s.raise page bit).safAxes = s.safAxes := (s.evOnly_raise page bit).safAxes
@[simp] theorem State.raise_ss1 (s : State) (page bit : Nat) : (s.raise page bit).ss1 = s.ss1 := (s.evOnly_raise page bit).ss1
@[simp] theorem State.raise_ss1Quick (s : State) (page bit : Nat) : (s.raise page bit).ss1Quick = s.ss1Quick := (s.evOnly_raise page bit).ss1Quick
@[simp] theorem State.raise_ss1Line (s : State) (page bit : Nat) : (s.raise page bit).ss1Line = s.ss1Line := (s.evOnly_raise page bit).ss1Line
@[simp] theorem State.raise_disagree (s : State) (page bit : Nat) : (s.raise page bit).disagree = s.disagree := (s.evOnly_raise page bit).disagree
@[simp] theorem State.raise_noExA (s : State) (page bit : Nat) : (s.raise page bit).noExA = s.noExA := (s.evOnly_raise page bit).noExA
@[simp] theorem State.raise_noExB (s : State) (page bit : Nat) : (s.raise page bit).noExB = s.noExB := (s.evOnly_raise page bit).noExB
@[simp] theorem State.raise_chanAStop (s : State) (page bit : Nat) : (s.raise page bit).chanAStop = s.chanAStop := (s.evOnly_raise page bit).chanAStop
@[simp] theorem State.raise_keepA (s : State) (page bit : Nat) : (s.raise page bit).keepA = s.keepA := (s.evOnly_raise page bit).keepA
@[simp] theorem State.raise_dropA (s : State) (page bit : Nat) : (s.raise page bit).dropA = s.dropA := (s.evOnly_raise page bit).dropA
@[simp] theorem State.raise_safPeer (s : State) (page bit : Nat) : (s.raise page bit).safPeer = s.safPeer := (s.evOnly_raise page bit).safPeer
@[simp] theorem State.raise_safStore (s : State) (page bit : Nat) : (s.raise page bit).safStore = s.safStore := (s.evOnly_raise page bit).safStore
@[simp] theorem State.raise_dbgHalt (s : State) (page bit : Nat) : (s.raise page bit).dbgHalt = s.dbgHalt := (s.evOnly_raise page bit).dbgHalt
@[simp] theorem State.raise_acqs (s : State) (page bit : Nat) : (s.raise page bit).acqs = s.acqs := (s.evOnly_raise page bit).acqs
@[simp] theorem State.raise_acqActs (s : State) (page bit : Nat) : (s.raise page bit).acqActs = s.acqActs := (s.evOnly_raise page bit).acqActs
@[simp] theorem State.raise_ldcs (s : State) (page bit : Nat) : (s.raise page bit).ldcs = s.ldcs := (s.evOnly_raise page bit).ldcs
@[simp] theorem State.raise_ldcSlot (s : State) (page bit : Nat) : (s.raise page bit).ldcSlot = s.ldcSlot := (s.evOnly_raise page bit).ldcSlot
@[simp] theorem State.raise_ports (s : State) (page bit : Nat) : (s.raise page bit).ports = s.ports := (s.evOnly_raise page bit).ports
@[simp] theorem State.raise_emus (s : State) (page bit : Nat) : (s.raise page bit).emus = s.emus := (s.evOnly_raise page bit).emus
@[simp] theorem State.raise_links (s : State) (page bit : Nat) : (s.raise page bit).links = s.links := (s.evOnly_raise page bit).links
@[simp] theorem State.raise_servos (s : State) (page bit : Nat) : (s.raise page bit).servos = s.servos := (s.evOnly_raise page bit).servos
@[simp] theorem State.raise_servoUndo (s : State) (page bit : Nat) : (s.raise page bit).servoUndo = s.servoUndo := (s.evOnly_raise page bit).servoUndo
@[simp] theorem State.raise_lpus (s : State) (page bit : Nat) : (s.raise page bit).lpus = s.lpus := (s.evOnly_raise page bit).lpus
@[simp] theorem State.raise_sched (s : State) (page bit : Nat) : (s.raise page bit).sched = s.sched := (s.evOnly_raise page bit).sched
@[simp] theorem State.raise_age (s : State) (page bit : Nat) : (s.raise page bit).age = s.age := (s.evOnly_raise page bit).age
@[simp] theorem State.raise_sensors (s : State) (page bit : Nat) : (s.raise page bit).sensors = s.sensors := (s.evOnly_raise page bit).sensors
@[simp] theorem State.raise_shutdowns (s : State) (page bit : Nat) : (s.raise page bit).shutdowns = s.shutdowns := (s.evOnly_raise page bit).shutdowns
@[simp] theorem State.raise_bands (s : State) (page bit : Nat) : (s.raise page bit).bands = s.bands := (s.evOnly_raise page bit).bands
@[simp] theorem State.raise_jtagIr (s : State) (page bit : Nat) : (s.raise page bit).jtagIr = s.jtagIr := (s.evOnly_raise page bit).jtagIr
@[simp] theorem State.raise_jtagDr (s : State) (page bit : Nat) : (s.raise page bit).jtagDr = s.jtagDr := (s.evOnly_raise page bit).jtagDr
@[simp] theorem State.raise_nonce (s : State) (page bit : Nat) : (s.raise page bit).nonce = s.nonce := (s.evOnly_raise page bit).nonce
@[simp] theorem State.raise_freezeAt (s : State) (page bit : Nat) : (s.raise page bit).freezeAt = s.freezeAt := (s.evOnly_raise page bit).freezeAt
@[simp] theorem State.raise_flashCmd (s : State) (page bit : Nat) : (s.raise page bit).flashCmd = s.flashCmd := (s.evOnly_raise page bit).flashCmd
@[simp] theorem State.raise_flashGeo (s : State) (page bit : Nat) : (s.raise page bit).flashGeo = s.flashGeo := (s.evOnly_raise page bit).flashGeo
@[simp] theorem State.raise_mramCmd (s : State) (page bit : Nat) : (s.raise page bit).mramCmd = s.mramCmd := (s.evOnly_raise page bit).mramCmd
@[simp] theorem State.raise_ethPause (s : State) (page bit : Nat) : (s.raise page bit).ethPause = s.ethPause := (s.evOnly_raise page bit).ethPause
@[simp] theorem State.raise_ethOut (s : State) (page bit : Nat) : (s.raise page bit).ethOut = s.ethOut := (s.evOnly_raise page bit).ethOut
@[simp] theorem State.raise_dmaOut (s : State) (page bit : Nat) : (s.raise page bit).dmaOut = s.dmaOut := (s.evOnly_raise page bit).dmaOut
@[simp] theorem State.raise_dmaDesc (s : State) (page bit : Nat) : (s.raise page bit).dmaDesc = s.dmaDesc := (s.evOnly_raise page bit).dmaDesc
@[simp] theorem State.raise_cans (s : State) (page bit : Nat) : (s.raise page bit).cans = s.cans := (s.evOnly_raise page bit).cans
@[simp] theorem State.raise_canObjs (s : State) (page bit : Nat) : (s.raise page bit).canObjs = s.canObjs := (s.evOnly_raise page bit).canObjs
@[simp] theorem State.raise_core (s : State) (page bit : Nat) : (s.raise page bit).core = s.core := (s.evOnly_raise page bit).core
@[simp] theorem State.raise_fieldT0 (s : State) (page bit : Nat) : (s.raise page bit).fieldT0 = s.fieldT0 := (s.evOnly_raise page bit).fieldT0
@[simp] theorem State.raise_wdtT (s : State) (page bit : Nat) : (s.raise page bit).wdtT = s.wdtT := (s.evOnly_raise page bit).wdtT
@[simp] theorem State.raise_flash (s : State) (page bit : Nat) : (s.raise page bit).flash = s.flash := (s.evOnly_raise page bit).flash
@[simp] theorem State.raise_version (s : State) (page bit : Nat) : (s.raise page bit).version = s.version := (s.evOnly_raise page bit).version
@[simp] theorem State.raise_keys (s : State) (page bit : Nat) : (s.raise page bit).keys = s.keys := (s.evOnly_raise page bit).keys
@[simp] theorem State.raise_entries (s : State) (page bit : Nat) : (s.raise page bit).entries = s.entries := (s.evOnly_raise page bit).entries
@[simp] theorem State.raise_lcPlan (s : State) (page bit : Nat) : (s.raise page bit).lcPlan = s.lcPlan := (s.evOnly_raise page bit).lcPlan

@[simp] theorem State.raiseIf_pending (s : State) (c : Bool) (page bit : Nat) : (s.raiseIf c page bit).pending = s.pending := (s.evOnly_raiseIf c page bit).pending
@[simp] theorem State.raiseIf_dt (s : State) (c : Bool) (page bit : Nat) : (s.raiseIf c page bit).dt = s.dt := (s.evOnly_raiseIf c page bit).dt
@[simp] theorem State.raiseIf_free (s : State) (c : Bool) (page bit : Nat) : (s.raiseIf c page bit).free = s.free := (s.evOnly_raiseIf c page bit).free
@[simp] theorem State.raiseIf_inForce (s : State) (c : Bool) (page bit : Nat) : (s.raiseIf c page bit).inForce = s.inForce := (s.evOnly_raiseIf c page bit).inForce
@[simp] theorem State.raiseIf_commits (s : State) (c : Bool) (page bit : Nat) : (s.raiseIf c page bit).commits = s.commits := (s.evOnly_raiseIf c page bit).commits
@[simp] theorem State.raiseIf_staged (s : State) (c : Bool) (page bit : Nat) : (s.raiseIf c page bit).staged = s.staged := (s.evOnly_raiseIf c page bit).staged
@[simp] theorem State.raiseIf_latched (s : State) (c : Bool) (page bit : Nat) : (s.raiseIf c page bit).latched = s.latched := (s.evOnly_raiseIf c page bit).latched
@[simp] theorem State.raiseIf_rdata (s : State) (c : Bool) (page bit : Nat) : (s.raiseIf c page bit).rdata = s.rdata := (s.evOnly_raiseIf c page bit).rdata
@[simp] theorem State.raiseIf_posted (s : State) (c : Bool) (page bit : Nat) : (s.raiseIf c page bit).posted = s.posted := (s.evOnly_raiseIf c page bit).posted
@[simp] theorem State.raiseIf_mem (s : State) (c : Bool) (page bit : Nat) : (s.raiseIf c page bit).mem = s.mem := (s.evOnly_raiseIf c page bit).mem
@[simp] theorem State.raiseIf_silos (s : State) (c : Bool) (page bit : Nat) : (s.raiseIf c page bit).silos = s.silos := (s.evOnly_raiseIf c page bit).silos
@[simp] theorem State.raiseIf_lost (s : State) (c : Bool) (page bit : Nat) : (s.raiseIf c page bit).lost = s.lost := (s.evOnly_raiseIf c page bit).lost
@[simp] theorem State.raiseIf_recorder (s : State) (c : Bool) (page bit : Nat) : (s.raiseIf c page bit).recorder = s.recorder := (s.evOnly_raiseIf c page bit).recorder
@[simp] theorem State.raiseIf_axes (s : State) (c : Bool) (page bit : Nat) : (s.raiseIf c page bit).axes = s.axes := (s.evOnly_raiseIf c page bit).axes
@[simp] theorem State.raiseIf_gears (s : State) (c : Bool) (page bit : Nat) : (s.raiseIf c page bit).gears = s.gears := (s.evOnly_raiseIf c page bit).gears
@[simp] theorem State.raiseIf_ltb (s : State) (c : Bool) (page bit : Nat) : (s.raiseIf c page bit).ltb = s.ltb := (s.evOnly_raiseIf c page bit).ltb
@[simp] theorem State.raiseIf_ascArms (s : State) (c : Bool) (page bit : Nat) : (s.raiseIf c page bit).ascArms = s.ascArms := (s.evOnly_raiseIf c page bit).ascArms
@[simp] theorem State.raiseIf_ascTook (s : State) (c : Bool) (page bit : Nat) : (s.raiseIf c page bit).ascTook = s.ascTook := (s.evOnly_raiseIf c page bit).ascTook
@[simp] theorem State.raiseIf_ascEnts (s : State) (c : Bool) (page bit : Nat) : (s.raiseIf c page bit).ascEnts = s.ascEnts := (s.evOnly_raiseIf c page bit).ascEnts
@[simp] theorem State.raiseIf_fcoEnd (s : State) (c : Bool) (page bit : Nat) : (s.raiseIf c page bit).fcoEnd = s.fcoEnd := (s.evOnly_raiseIf c page bit).fcoEnd
@[simp] theorem State.raiseIf_fcoLock (s : State) (c : Bool) (page bit : Nat) : (s.raiseIf c page bit).fcoLock = s.fcoLock := (s.evOnly_raiseIf c page bit).fcoLock
@[simp] theorem State.raiseIf_fcoOff (s : State) (c : Bool) (page bit : Nat) : (s.raiseIf c page bit).fcoOff = s.fcoOff := (s.evOnly_raiseIf c page bit).fcoOff
@[simp] theorem State.raiseIf_fliPins (s : State) (c : Bool) (page bit : Nat) : (s.raiseIf c page bit).fliPins = s.fliPins := (s.evOnly_raiseIf c page bit).fliPins
@[simp] theorem State.raiseIf_fliRecs (s : State) (c : Bool) (page bit : Nat) : (s.raiseIf c page bit).fliRecs = s.fliRecs := (s.evOnly_raiseIf c page bit).fliRecs
@[simp] theorem State.raiseIf_latWins (s : State) (c : Bool) (page bit : Nat) : (s.raiseIf c page bit).latWins = s.latWins := (s.evOnly_raiseIf c page bit).latWins
@[simp] theorem State.raiseIf_ringPorts (s : State) (c : Bool) (page bit : Nat) : (s.raiseIf c page bit).ringPorts = s.ringPorts := (s.evOnly_raiseIf c page bit).ringPorts
@[simp] theorem State.raiseIf_ring (s : State) (c : Bool) (page bit : Nat) : (s.raiseIf c page bit).ring = s.ring := (s.evOnly_raiseIf c page bit).ring
@[simp] theorem State.raiseIf_promoted (s : State) (c : Bool) (page bit : Nat) : (s.raiseIf c page bit).promoted = s.promoted := (s.evOnly_raiseIf c page bit).promoted
@[simp] theorem State.raiseIf_xlk (s : State) (c : Bool) (page bit : Nat) : (s.raiseIf c page bit).xlk = s.xlk := (s.evOnly_raiseIf c page bit).xlk
@[simp] theorem State.raiseIf_groups (s : State) (c : Bool) (page bit : Nat) : (s.raiseIf c page bit).groups = s.groups := (s.evOnly_raiseIf c page bit).groups
@[simp] theorem State.raiseIf_safAxes (s : State) (c : Bool) (page bit : Nat) : (s.raiseIf c page bit).safAxes = s.safAxes := (s.evOnly_raiseIf c page bit).safAxes
@[simp] theorem State.raiseIf_ss1 (s : State) (c : Bool) (page bit : Nat) : (s.raiseIf c page bit).ss1 = s.ss1 := (s.evOnly_raiseIf c page bit).ss1
@[simp] theorem State.raiseIf_ss1Quick (s : State) (c : Bool) (page bit : Nat) : (s.raiseIf c page bit).ss1Quick = s.ss1Quick := (s.evOnly_raiseIf c page bit).ss1Quick
@[simp] theorem State.raiseIf_ss1Line (s : State) (c : Bool) (page bit : Nat) : (s.raiseIf c page bit).ss1Line = s.ss1Line := (s.evOnly_raiseIf c page bit).ss1Line
@[simp] theorem State.raiseIf_disagree (s : State) (c : Bool) (page bit : Nat) : (s.raiseIf c page bit).disagree = s.disagree := (s.evOnly_raiseIf c page bit).disagree
@[simp] theorem State.raiseIf_noExA (s : State) (c : Bool) (page bit : Nat) : (s.raiseIf c page bit).noExA = s.noExA := (s.evOnly_raiseIf c page bit).noExA
@[simp] theorem State.raiseIf_noExB (s : State) (c : Bool) (page bit : Nat) : (s.raiseIf c page bit).noExB = s.noExB := (s.evOnly_raiseIf c page bit).noExB
@[simp] theorem State.raiseIf_chanAStop (s : State) (c : Bool) (page bit : Nat) : (s.raiseIf c page bit).chanAStop = s.chanAStop := (s.evOnly_raiseIf c page bit).chanAStop
@[simp] theorem State.raiseIf_keepA (s : State) (c : Bool) (page bit : Nat) : (s.raiseIf c page bit).keepA = s.keepA := (s.evOnly_raiseIf c page bit).keepA
@[simp] theorem State.raiseIf_dropA (s : State) (c : Bool) (page bit : Nat) : (s.raiseIf c page bit).dropA = s.dropA := (s.evOnly_raiseIf c page bit).dropA
@[simp] theorem State.raiseIf_safPeer (s : State) (c : Bool) (page bit : Nat) : (s.raiseIf c page bit).safPeer = s.safPeer := (s.evOnly_raiseIf c page bit).safPeer
@[simp] theorem State.raiseIf_safStore (s : State) (c : Bool) (page bit : Nat) : (s.raiseIf c page bit).safStore = s.safStore := (s.evOnly_raiseIf c page bit).safStore
@[simp] theorem State.raiseIf_dbgHalt (s : State) (c : Bool) (page bit : Nat) : (s.raiseIf c page bit).dbgHalt = s.dbgHalt := (s.evOnly_raiseIf c page bit).dbgHalt
@[simp] theorem State.raiseIf_acqs (s : State) (c : Bool) (page bit : Nat) : (s.raiseIf c page bit).acqs = s.acqs := (s.evOnly_raiseIf c page bit).acqs
@[simp] theorem State.raiseIf_acqActs (s : State) (c : Bool) (page bit : Nat) : (s.raiseIf c page bit).acqActs = s.acqActs := (s.evOnly_raiseIf c page bit).acqActs
@[simp] theorem State.raiseIf_ldcs (s : State) (c : Bool) (page bit : Nat) : (s.raiseIf c page bit).ldcs = s.ldcs := (s.evOnly_raiseIf c page bit).ldcs
@[simp] theorem State.raiseIf_ldcSlot (s : State) (c : Bool) (page bit : Nat) : (s.raiseIf c page bit).ldcSlot = s.ldcSlot := (s.evOnly_raiseIf c page bit).ldcSlot
@[simp] theorem State.raiseIf_ports (s : State) (c : Bool) (page bit : Nat) : (s.raiseIf c page bit).ports = s.ports := (s.evOnly_raiseIf c page bit).ports
@[simp] theorem State.raiseIf_emus (s : State) (c : Bool) (page bit : Nat) : (s.raiseIf c page bit).emus = s.emus := (s.evOnly_raiseIf c page bit).emus
@[simp] theorem State.raiseIf_links (s : State) (c : Bool) (page bit : Nat) : (s.raiseIf c page bit).links = s.links := (s.evOnly_raiseIf c page bit).links
@[simp] theorem State.raiseIf_servos (s : State) (c : Bool) (page bit : Nat) : (s.raiseIf c page bit).servos = s.servos := (s.evOnly_raiseIf c page bit).servos
@[simp] theorem State.raiseIf_servoUndo (s : State) (c : Bool) (page bit : Nat) : (s.raiseIf c page bit).servoUndo = s.servoUndo := (s.evOnly_raiseIf c page bit).servoUndo
@[simp] theorem State.raiseIf_lpus (s : State) (c : Bool) (page bit : Nat) : (s.raiseIf c page bit).lpus = s.lpus := (s.evOnly_raiseIf c page bit).lpus
@[simp] theorem State.raiseIf_sched (s : State) (c : Bool) (page bit : Nat) : (s.raiseIf c page bit).sched = s.sched := (s.evOnly_raiseIf c page bit).sched
@[simp] theorem State.raiseIf_age (s : State) (c : Bool) (page bit : Nat) : (s.raiseIf c page bit).age = s.age := (s.evOnly_raiseIf c page bit).age
@[simp] theorem State.raiseIf_sensors (s : State) (c : Bool) (page bit : Nat) : (s.raiseIf c page bit).sensors = s.sensors := (s.evOnly_raiseIf c page bit).sensors
@[simp] theorem State.raiseIf_shutdowns (s : State) (c : Bool) (page bit : Nat) : (s.raiseIf c page bit).shutdowns = s.shutdowns := (s.evOnly_raiseIf c page bit).shutdowns
@[simp] theorem State.raiseIf_bands (s : State) (c : Bool) (page bit : Nat) : (s.raiseIf c page bit).bands = s.bands := (s.evOnly_raiseIf c page bit).bands
@[simp] theorem State.raiseIf_jtagIr (s : State) (c : Bool) (page bit : Nat) : (s.raiseIf c page bit).jtagIr = s.jtagIr := (s.evOnly_raiseIf c page bit).jtagIr
@[simp] theorem State.raiseIf_jtagDr (s : State) (c : Bool) (page bit : Nat) : (s.raiseIf c page bit).jtagDr = s.jtagDr := (s.evOnly_raiseIf c page bit).jtagDr
@[simp] theorem State.raiseIf_nonce (s : State) (c : Bool) (page bit : Nat) : (s.raiseIf c page bit).nonce = s.nonce := (s.evOnly_raiseIf c page bit).nonce
@[simp] theorem State.raiseIf_freezeAt (s : State) (c : Bool) (page bit : Nat) : (s.raiseIf c page bit).freezeAt = s.freezeAt := (s.evOnly_raiseIf c page bit).freezeAt
@[simp] theorem State.raiseIf_flashCmd (s : State) (c : Bool) (page bit : Nat) : (s.raiseIf c page bit).flashCmd = s.flashCmd := (s.evOnly_raiseIf c page bit).flashCmd
@[simp] theorem State.raiseIf_flashGeo (s : State) (c : Bool) (page bit : Nat) : (s.raiseIf c page bit).flashGeo = s.flashGeo := (s.evOnly_raiseIf c page bit).flashGeo
@[simp] theorem State.raiseIf_mramCmd (s : State) (c : Bool) (page bit : Nat) : (s.raiseIf c page bit).mramCmd = s.mramCmd := (s.evOnly_raiseIf c page bit).mramCmd
@[simp] theorem State.raiseIf_ethPause (s : State) (c : Bool) (page bit : Nat) : (s.raiseIf c page bit).ethPause = s.ethPause := (s.evOnly_raiseIf c page bit).ethPause
@[simp] theorem State.raiseIf_ethOut (s : State) (c : Bool) (page bit : Nat) : (s.raiseIf c page bit).ethOut = s.ethOut := (s.evOnly_raiseIf c page bit).ethOut
@[simp] theorem State.raiseIf_dmaOut (s : State) (c : Bool) (page bit : Nat) : (s.raiseIf c page bit).dmaOut = s.dmaOut := (s.evOnly_raiseIf c page bit).dmaOut
@[simp] theorem State.raiseIf_dmaDesc (s : State) (c : Bool) (page bit : Nat) : (s.raiseIf c page bit).dmaDesc = s.dmaDesc := (s.evOnly_raiseIf c page bit).dmaDesc
@[simp] theorem State.raiseIf_cans (s : State) (c : Bool) (page bit : Nat) : (s.raiseIf c page bit).cans = s.cans := (s.evOnly_raiseIf c page bit).cans
@[simp] theorem State.raiseIf_canObjs (s : State) (c : Bool) (page bit : Nat) : (s.raiseIf c page bit).canObjs = s.canObjs := (s.evOnly_raiseIf c page bit).canObjs
@[simp] theorem State.raiseIf_core (s : State) (c : Bool) (page bit : Nat) : (s.raiseIf c page bit).core = s.core := (s.evOnly_raiseIf c page bit).core
@[simp] theorem State.raiseIf_fieldT0 (s : State) (c : Bool) (page bit : Nat) : (s.raiseIf c page bit).fieldT0 = s.fieldT0 := (s.evOnly_raiseIf c page bit).fieldT0
@[simp] theorem State.raiseIf_wdtT (s : State) (c : Bool) (page bit : Nat) : (s.raiseIf c page bit).wdtT = s.wdtT := (s.evOnly_raiseIf c page bit).wdtT
@[simp] theorem State.raiseIf_flash (s : State) (c : Bool) (page bit : Nat) : (s.raiseIf c page bit).flash = s.flash := (s.evOnly_raiseIf c page bit).flash
@[simp] theorem State.raiseIf_version (s : State) (c : Bool) (page bit : Nat) : (s.raiseIf c page bit).version = s.version := (s.evOnly_raiseIf c page bit).version
@[simp] theorem State.raiseIf_keys (s : State) (c : Bool) (page bit : Nat) : (s.raiseIf c page bit).keys = s.keys := (s.evOnly_raiseIf c page bit).keys
@[simp] theorem State.raiseIf_entries (s : State) (c : Bool) (page bit : Nat) : (s.raiseIf c page bit).entries = s.entries := (s.evOnly_raiseIf c page bit).entries
@[simp] theorem State.raiseIf_lcPlan (s : State) (c : Bool) (page bit : Nat) : (s.raiseIf c page bit).lcPlan = s.lcPlan := (s.evOnly_raiseIf c page bit).lcPlan

@[simp] theorem State.count_pending (s : State) (a hi lo page bit : Nat) : (s.count a hi lo page bit).pending = s.pending := (s.evOnly_count a hi lo page bit).pending
@[simp] theorem State.count_dt (s : State) (a hi lo page bit : Nat) : (s.count a hi lo page bit).dt = s.dt := (s.evOnly_count a hi lo page bit).dt
@[simp] theorem State.count_free (s : State) (a hi lo page bit : Nat) : (s.count a hi lo page bit).free = s.free := (s.evOnly_count a hi lo page bit).free
@[simp] theorem State.count_inForce (s : State) (a hi lo page bit : Nat) : (s.count a hi lo page bit).inForce = s.inForce := (s.evOnly_count a hi lo page bit).inForce
@[simp] theorem State.count_commits (s : State) (a hi lo page bit : Nat) : (s.count a hi lo page bit).commits = s.commits := (s.evOnly_count a hi lo page bit).commits
@[simp] theorem State.count_staged (s : State) (a hi lo page bit : Nat) : (s.count a hi lo page bit).staged = s.staged := (s.evOnly_count a hi lo page bit).staged
@[simp] theorem State.count_latched (s : State) (a hi lo page bit : Nat) : (s.count a hi lo page bit).latched = s.latched := (s.evOnly_count a hi lo page bit).latched
@[simp] theorem State.count_rdata (s : State) (a hi lo page bit : Nat) : (s.count a hi lo page bit).rdata = s.rdata := (s.evOnly_count a hi lo page bit).rdata
@[simp] theorem State.count_posted (s : State) (a hi lo page bit : Nat) : (s.count a hi lo page bit).posted = s.posted := (s.evOnly_count a hi lo page bit).posted
@[simp] theorem State.count_mem (s : State) (a hi lo page bit : Nat) : (s.count a hi lo page bit).mem = s.mem := (s.evOnly_count a hi lo page bit).mem
@[simp] theorem State.count_silos (s : State) (a hi lo page bit : Nat) : (s.count a hi lo page bit).silos = s.silos := (s.evOnly_count a hi lo page bit).silos
@[simp] theorem State.count_lost (s : State) (a hi lo page bit : Nat) : (s.count a hi lo page bit).lost = s.lost := (s.evOnly_count a hi lo page bit).lost
@[simp] theorem State.count_recorder (s : State) (a hi lo page bit : Nat) : (s.count a hi lo page bit).recorder = s.recorder := (s.evOnly_count a hi lo page bit).recorder
@[simp] theorem State.count_axes (s : State) (a hi lo page bit : Nat) : (s.count a hi lo page bit).axes = s.axes := (s.evOnly_count a hi lo page bit).axes
@[simp] theorem State.count_gears (s : State) (a hi lo page bit : Nat) : (s.count a hi lo page bit).gears = s.gears := (s.evOnly_count a hi lo page bit).gears
@[simp] theorem State.count_ltb (s : State) (a hi lo page bit : Nat) : (s.count a hi lo page bit).ltb = s.ltb := (s.evOnly_count a hi lo page bit).ltb
@[simp] theorem State.count_ascArms (s : State) (a hi lo page bit : Nat) : (s.count a hi lo page bit).ascArms = s.ascArms := (s.evOnly_count a hi lo page bit).ascArms
@[simp] theorem State.count_ascTook (s : State) (a hi lo page bit : Nat) : (s.count a hi lo page bit).ascTook = s.ascTook := (s.evOnly_count a hi lo page bit).ascTook
@[simp] theorem State.count_ascEnts (s : State) (a hi lo page bit : Nat) : (s.count a hi lo page bit).ascEnts = s.ascEnts := (s.evOnly_count a hi lo page bit).ascEnts
@[simp] theorem State.count_fcoEnd (s : State) (a hi lo page bit : Nat) : (s.count a hi lo page bit).fcoEnd = s.fcoEnd := (s.evOnly_count a hi lo page bit).fcoEnd
@[simp] theorem State.count_fcoLock (s : State) (a hi lo page bit : Nat) : (s.count a hi lo page bit).fcoLock = s.fcoLock := (s.evOnly_count a hi lo page bit).fcoLock
@[simp] theorem State.count_fcoOff (s : State) (a hi lo page bit : Nat) : (s.count a hi lo page bit).fcoOff = s.fcoOff := (s.evOnly_count a hi lo page bit).fcoOff
@[simp] theorem State.count_fliPins (s : State) (a hi lo page bit : Nat) : (s.count a hi lo page bit).fliPins = s.fliPins := (s.evOnly_count a hi lo page bit).fliPins
@[simp] theorem State.count_fliRecs (s : State) (a hi lo page bit : Nat) : (s.count a hi lo page bit).fliRecs = s.fliRecs := (s.evOnly_count a hi lo page bit).fliRecs
@[simp] theorem State.count_latWins (s : State) (a hi lo page bit : Nat) : (s.count a hi lo page bit).latWins = s.latWins := (s.evOnly_count a hi lo page bit).latWins
@[simp] theorem State.count_ringPorts (s : State) (a hi lo page bit : Nat) : (s.count a hi lo page bit).ringPorts = s.ringPorts := (s.evOnly_count a hi lo page bit).ringPorts
@[simp] theorem State.count_ring (s : State) (a hi lo page bit : Nat) : (s.count a hi lo page bit).ring = s.ring := (s.evOnly_count a hi lo page bit).ring
@[simp] theorem State.count_promoted (s : State) (a hi lo page bit : Nat) : (s.count a hi lo page bit).promoted = s.promoted := (s.evOnly_count a hi lo page bit).promoted
@[simp] theorem State.count_xlk (s : State) (a hi lo page bit : Nat) : (s.count a hi lo page bit).xlk = s.xlk := (s.evOnly_count a hi lo page bit).xlk
@[simp] theorem State.count_groups (s : State) (a hi lo page bit : Nat) : (s.count a hi lo page bit).groups = s.groups := (s.evOnly_count a hi lo page bit).groups
@[simp] theorem State.count_safAxes (s : State) (a hi lo page bit : Nat) : (s.count a hi lo page bit).safAxes = s.safAxes := (s.evOnly_count a hi lo page bit).safAxes
@[simp] theorem State.count_ss1 (s : State) (a hi lo page bit : Nat) : (s.count a hi lo page bit).ss1 = s.ss1 := (s.evOnly_count a hi lo page bit).ss1
@[simp] theorem State.count_ss1Quick (s : State) (a hi lo page bit : Nat) : (s.count a hi lo page bit).ss1Quick = s.ss1Quick := (s.evOnly_count a hi lo page bit).ss1Quick
@[simp] theorem State.count_ss1Line (s : State) (a hi lo page bit : Nat) : (s.count a hi lo page bit).ss1Line = s.ss1Line := (s.evOnly_count a hi lo page bit).ss1Line
@[simp] theorem State.count_disagree (s : State) (a hi lo page bit : Nat) : (s.count a hi lo page bit).disagree = s.disagree := (s.evOnly_count a hi lo page bit).disagree
@[simp] theorem State.count_noExA (s : State) (a hi lo page bit : Nat) : (s.count a hi lo page bit).noExA = s.noExA := (s.evOnly_count a hi lo page bit).noExA
@[simp] theorem State.count_noExB (s : State) (a hi lo page bit : Nat) : (s.count a hi lo page bit).noExB = s.noExB := (s.evOnly_count a hi lo page bit).noExB
@[simp] theorem State.count_chanAStop (s : State) (a hi lo page bit : Nat) : (s.count a hi lo page bit).chanAStop = s.chanAStop := (s.evOnly_count a hi lo page bit).chanAStop
@[simp] theorem State.count_keepA (s : State) (a hi lo page bit : Nat) : (s.count a hi lo page bit).keepA = s.keepA := (s.evOnly_count a hi lo page bit).keepA
@[simp] theorem State.count_dropA (s : State) (a hi lo page bit : Nat) : (s.count a hi lo page bit).dropA = s.dropA := (s.evOnly_count a hi lo page bit).dropA
@[simp] theorem State.count_safPeer (s : State) (a hi lo page bit : Nat) : (s.count a hi lo page bit).safPeer = s.safPeer := (s.evOnly_count a hi lo page bit).safPeer
@[simp] theorem State.count_safStore (s : State) (a hi lo page bit : Nat) : (s.count a hi lo page bit).safStore = s.safStore := (s.evOnly_count a hi lo page bit).safStore
@[simp] theorem State.count_dbgHalt (s : State) (a hi lo page bit : Nat) : (s.count a hi lo page bit).dbgHalt = s.dbgHalt := (s.evOnly_count a hi lo page bit).dbgHalt
@[simp] theorem State.count_acqs (s : State) (a hi lo page bit : Nat) : (s.count a hi lo page bit).acqs = s.acqs := (s.evOnly_count a hi lo page bit).acqs
@[simp] theorem State.count_acqActs (s : State) (a hi lo page bit : Nat) : (s.count a hi lo page bit).acqActs = s.acqActs := (s.evOnly_count a hi lo page bit).acqActs
@[simp] theorem State.count_ldcs (s : State) (a hi lo page bit : Nat) : (s.count a hi lo page bit).ldcs = s.ldcs := (s.evOnly_count a hi lo page bit).ldcs
@[simp] theorem State.count_ldcSlot (s : State) (a hi lo page bit : Nat) : (s.count a hi lo page bit).ldcSlot = s.ldcSlot := (s.evOnly_count a hi lo page bit).ldcSlot
@[simp] theorem State.count_ports (s : State) (a hi lo page bit : Nat) : (s.count a hi lo page bit).ports = s.ports := (s.evOnly_count a hi lo page bit).ports
@[simp] theorem State.count_emus (s : State) (a hi lo page bit : Nat) : (s.count a hi lo page bit).emus = s.emus := (s.evOnly_count a hi lo page bit).emus
@[simp] theorem State.count_links (s : State) (a hi lo page bit : Nat) : (s.count a hi lo page bit).links = s.links := (s.evOnly_count a hi lo page bit).links
@[simp] theorem State.count_servos (s : State) (a hi lo page bit : Nat) : (s.count a hi lo page bit).servos = s.servos := (s.evOnly_count a hi lo page bit).servos
@[simp] theorem State.count_servoUndo (s : State) (a hi lo page bit : Nat) : (s.count a hi lo page bit).servoUndo = s.servoUndo := (s.evOnly_count a hi lo page bit).servoUndo
@[simp] theorem State.count_lpus (s : State) (a hi lo page bit : Nat) : (s.count a hi lo page bit).lpus = s.lpus := (s.evOnly_count a hi lo page bit).lpus
@[simp] theorem State.count_sched (s : State) (a hi lo page bit : Nat) : (s.count a hi lo page bit).sched = s.sched := (s.evOnly_count a hi lo page bit).sched
@[simp] theorem State.count_age (s : State) (a hi lo page bit : Nat) : (s.count a hi lo page bit).age = s.age := (s.evOnly_count a hi lo page bit).age
@[simp] theorem State.count_sensors (s : State) (a hi lo page bit : Nat) : (s.count a hi lo page bit).sensors = s.sensors := (s.evOnly_count a hi lo page bit).sensors
@[simp] theorem State.count_shutdowns (s : State) (a hi lo page bit : Nat) : (s.count a hi lo page bit).shutdowns = s.shutdowns := (s.evOnly_count a hi lo page bit).shutdowns
@[simp] theorem State.count_bands (s : State) (a hi lo page bit : Nat) : (s.count a hi lo page bit).bands = s.bands := (s.evOnly_count a hi lo page bit).bands
@[simp] theorem State.count_jtagIr (s : State) (a hi lo page bit : Nat) : (s.count a hi lo page bit).jtagIr = s.jtagIr := (s.evOnly_count a hi lo page bit).jtagIr
@[simp] theorem State.count_jtagDr (s : State) (a hi lo page bit : Nat) : (s.count a hi lo page bit).jtagDr = s.jtagDr := (s.evOnly_count a hi lo page bit).jtagDr
@[simp] theorem State.count_nonce (s : State) (a hi lo page bit : Nat) : (s.count a hi lo page bit).nonce = s.nonce := (s.evOnly_count a hi lo page bit).nonce
@[simp] theorem State.count_freezeAt (s : State) (a hi lo page bit : Nat) : (s.count a hi lo page bit).freezeAt = s.freezeAt := (s.evOnly_count a hi lo page bit).freezeAt
@[simp] theorem State.count_flashCmd (s : State) (a hi lo page bit : Nat) : (s.count a hi lo page bit).flashCmd = s.flashCmd := (s.evOnly_count a hi lo page bit).flashCmd
@[simp] theorem State.count_flashGeo (s : State) (a hi lo page bit : Nat) : (s.count a hi lo page bit).flashGeo = s.flashGeo := (s.evOnly_count a hi lo page bit).flashGeo
@[simp] theorem State.count_mramCmd (s : State) (a hi lo page bit : Nat) : (s.count a hi lo page bit).mramCmd = s.mramCmd := (s.evOnly_count a hi lo page bit).mramCmd
@[simp] theorem State.count_ethPause (s : State) (a hi lo page bit : Nat) : (s.count a hi lo page bit).ethPause = s.ethPause := (s.evOnly_count a hi lo page bit).ethPause
@[simp] theorem State.count_ethOut (s : State) (a hi lo page bit : Nat) : (s.count a hi lo page bit).ethOut = s.ethOut := (s.evOnly_count a hi lo page bit).ethOut
@[simp] theorem State.count_dmaOut (s : State) (a hi lo page bit : Nat) : (s.count a hi lo page bit).dmaOut = s.dmaOut := (s.evOnly_count a hi lo page bit).dmaOut
@[simp] theorem State.count_dmaDesc (s : State) (a hi lo page bit : Nat) : (s.count a hi lo page bit).dmaDesc = s.dmaDesc := (s.evOnly_count a hi lo page bit).dmaDesc
@[simp] theorem State.count_cans (s : State) (a hi lo page bit : Nat) : (s.count a hi lo page bit).cans = s.cans := (s.evOnly_count a hi lo page bit).cans
@[simp] theorem State.count_canObjs (s : State) (a hi lo page bit : Nat) : (s.count a hi lo page bit).canObjs = s.canObjs := (s.evOnly_count a hi lo page bit).canObjs
@[simp] theorem State.count_core (s : State) (a hi lo page bit : Nat) : (s.count a hi lo page bit).core = s.core := (s.evOnly_count a hi lo page bit).core
@[simp] theorem State.count_fieldT0 (s : State) (a hi lo page bit : Nat) : (s.count a hi lo page bit).fieldT0 = s.fieldT0 := (s.evOnly_count a hi lo page bit).fieldT0
@[simp] theorem State.count_wdtT (s : State) (a hi lo page bit : Nat) : (s.count a hi lo page bit).wdtT = s.wdtT := (s.evOnly_count a hi lo page bit).wdtT
@[simp] theorem State.count_flash (s : State) (a hi lo page bit : Nat) : (s.count a hi lo page bit).flash = s.flash := (s.evOnly_count a hi lo page bit).flash
@[simp] theorem State.count_version (s : State) (a hi lo page bit : Nat) : (s.count a hi lo page bit).version = s.version := (s.evOnly_count a hi lo page bit).version
@[simp] theorem State.count_keys (s : State) (a hi lo page bit : Nat) : (s.count a hi lo page bit).keys = s.keys := (s.evOnly_count a hi lo page bit).keys
@[simp] theorem State.count_entries (s : State) (a hi lo page bit : Nat) : (s.count a hi lo page bit).entries = s.entries := (s.evOnly_count a hi lo page bit).entries
@[simp] theorem State.count_lcPlan (s : State) (a hi lo page bit : Nat) : (s.count a hi lo page bit).lcPlan = s.lcPlan := (s.evOnly_count a hi lo page bit).lcPlan

@[simp] theorem State.signal_pending (s : State) (e : Nat) (b f : Bool) : (s.signal e b f).pending = s.pending := (s.evOnly_signal e b f).pending
@[simp] theorem State.signal_dt (s : State) (e : Nat) (b f : Bool) : (s.signal e b f).dt = s.dt := (s.evOnly_signal e b f).dt
@[simp] theorem State.signal_free (s : State) (e : Nat) (b f : Bool) : (s.signal e b f).free = s.free := (s.evOnly_signal e b f).free
@[simp] theorem State.signal_inForce (s : State) (e : Nat) (b f : Bool) : (s.signal e b f).inForce = s.inForce := (s.evOnly_signal e b f).inForce
@[simp] theorem State.signal_commits (s : State) (e : Nat) (b f : Bool) : (s.signal e b f).commits = s.commits := (s.evOnly_signal e b f).commits
@[simp] theorem State.signal_staged (s : State) (e : Nat) (b f : Bool) : (s.signal e b f).staged = s.staged := (s.evOnly_signal e b f).staged
@[simp] theorem State.signal_latched (s : State) (e : Nat) (b f : Bool) : (s.signal e b f).latched = s.latched := (s.evOnly_signal e b f).latched
@[simp] theorem State.signal_rdata (s : State) (e : Nat) (b f : Bool) : (s.signal e b f).rdata = s.rdata := (s.evOnly_signal e b f).rdata
@[simp] theorem State.signal_posted (s : State) (e : Nat) (b f : Bool) : (s.signal e b f).posted = s.posted := (s.evOnly_signal e b f).posted
@[simp] theorem State.signal_mem (s : State) (e : Nat) (b f : Bool) : (s.signal e b f).mem = s.mem := (s.evOnly_signal e b f).mem
@[simp] theorem State.signal_silos (s : State) (e : Nat) (b f : Bool) : (s.signal e b f).silos = s.silos := (s.evOnly_signal e b f).silos
@[simp] theorem State.signal_lost (s : State) (e : Nat) (b f : Bool) : (s.signal e b f).lost = s.lost := (s.evOnly_signal e b f).lost
@[simp] theorem State.signal_recorder (s : State) (e : Nat) (b f : Bool) : (s.signal e b f).recorder = s.recorder := (s.evOnly_signal e b f).recorder
@[simp] theorem State.signal_axes (s : State) (e : Nat) (b f : Bool) : (s.signal e b f).axes = s.axes := (s.evOnly_signal e b f).axes
@[simp] theorem State.signal_gears (s : State) (e : Nat) (b f : Bool) : (s.signal e b f).gears = s.gears := (s.evOnly_signal e b f).gears
@[simp] theorem State.signal_ltb (s : State) (e : Nat) (b f : Bool) : (s.signal e b f).ltb = s.ltb := (s.evOnly_signal e b f).ltb
@[simp] theorem State.signal_ascArms (s : State) (e : Nat) (b f : Bool) : (s.signal e b f).ascArms = s.ascArms := (s.evOnly_signal e b f).ascArms
@[simp] theorem State.signal_ascTook (s : State) (e : Nat) (b f : Bool) : (s.signal e b f).ascTook = s.ascTook := (s.evOnly_signal e b f).ascTook
@[simp] theorem State.signal_ascEnts (s : State) (e : Nat) (b f : Bool) : (s.signal e b f).ascEnts = s.ascEnts := (s.evOnly_signal e b f).ascEnts
@[simp] theorem State.signal_fcoEnd (s : State) (e : Nat) (b f : Bool) : (s.signal e b f).fcoEnd = s.fcoEnd := (s.evOnly_signal e b f).fcoEnd
@[simp] theorem State.signal_fcoLock (s : State) (e : Nat) (b f : Bool) : (s.signal e b f).fcoLock = s.fcoLock := (s.evOnly_signal e b f).fcoLock
@[simp] theorem State.signal_fcoOff (s : State) (e : Nat) (b f : Bool) : (s.signal e b f).fcoOff = s.fcoOff := (s.evOnly_signal e b f).fcoOff
@[simp] theorem State.signal_fliPins (s : State) (e : Nat) (b f : Bool) : (s.signal e b f).fliPins = s.fliPins := (s.evOnly_signal e b f).fliPins
@[simp] theorem State.signal_fliRecs (s : State) (e : Nat) (b f : Bool) : (s.signal e b f).fliRecs = s.fliRecs := (s.evOnly_signal e b f).fliRecs
@[simp] theorem State.signal_latWins (s : State) (e : Nat) (b f : Bool) : (s.signal e b f).latWins = s.latWins := (s.evOnly_signal e b f).latWins
@[simp] theorem State.signal_ringPorts (s : State) (e : Nat) (b f : Bool) : (s.signal e b f).ringPorts = s.ringPorts := (s.evOnly_signal e b f).ringPorts
@[simp] theorem State.signal_ring (s : State) (e : Nat) (b f : Bool) : (s.signal e b f).ring = s.ring := (s.evOnly_signal e b f).ring
@[simp] theorem State.signal_promoted (s : State) (e : Nat) (b f : Bool) : (s.signal e b f).promoted = s.promoted := (s.evOnly_signal e b f).promoted
@[simp] theorem State.signal_xlk (s : State) (e : Nat) (b f : Bool) : (s.signal e b f).xlk = s.xlk := (s.evOnly_signal e b f).xlk
@[simp] theorem State.signal_groups (s : State) (e : Nat) (b f : Bool) : (s.signal e b f).groups = s.groups := (s.evOnly_signal e b f).groups
@[simp] theorem State.signal_safAxes (s : State) (e : Nat) (b f : Bool) : (s.signal e b f).safAxes = s.safAxes := (s.evOnly_signal e b f).safAxes
@[simp] theorem State.signal_ss1 (s : State) (e : Nat) (b f : Bool) : (s.signal e b f).ss1 = s.ss1 := (s.evOnly_signal e b f).ss1
@[simp] theorem State.signal_ss1Quick (s : State) (e : Nat) (b f : Bool) : (s.signal e b f).ss1Quick = s.ss1Quick := (s.evOnly_signal e b f).ss1Quick
@[simp] theorem State.signal_ss1Line (s : State) (e : Nat) (b f : Bool) : (s.signal e b f).ss1Line = s.ss1Line := (s.evOnly_signal e b f).ss1Line
@[simp] theorem State.signal_disagree (s : State) (e : Nat) (b f : Bool) : (s.signal e b f).disagree = s.disagree := (s.evOnly_signal e b f).disagree
@[simp] theorem State.signal_noExA (s : State) (e : Nat) (b f : Bool) : (s.signal e b f).noExA = s.noExA := (s.evOnly_signal e b f).noExA
@[simp] theorem State.signal_noExB (s : State) (e : Nat) (b f : Bool) : (s.signal e b f).noExB = s.noExB := (s.evOnly_signal e b f).noExB
@[simp] theorem State.signal_chanAStop (s : State) (e : Nat) (b f : Bool) : (s.signal e b f).chanAStop = s.chanAStop := (s.evOnly_signal e b f).chanAStop
@[simp] theorem State.signal_keepA (s : State) (e : Nat) (b f : Bool) : (s.signal e b f).keepA = s.keepA := (s.evOnly_signal e b f).keepA
@[simp] theorem State.signal_dropA (s : State) (e : Nat) (b f : Bool) : (s.signal e b f).dropA = s.dropA := (s.evOnly_signal e b f).dropA
@[simp] theorem State.signal_safPeer (s : State) (e : Nat) (b f : Bool) : (s.signal e b f).safPeer = s.safPeer := (s.evOnly_signal e b f).safPeer
@[simp] theorem State.signal_safStore (s : State) (e : Nat) (b f : Bool) : (s.signal e b f).safStore = s.safStore := (s.evOnly_signal e b f).safStore
@[simp] theorem State.signal_dbgHalt (s : State) (e : Nat) (b f : Bool) : (s.signal e b f).dbgHalt = s.dbgHalt := (s.evOnly_signal e b f).dbgHalt
@[simp] theorem State.signal_acqs (s : State) (e : Nat) (b f : Bool) : (s.signal e b f).acqs = s.acqs := (s.evOnly_signal e b f).acqs
@[simp] theorem State.signal_acqActs (s : State) (e : Nat) (b f : Bool) : (s.signal e b f).acqActs = s.acqActs := (s.evOnly_signal e b f).acqActs
@[simp] theorem State.signal_ldcs (s : State) (e : Nat) (b f : Bool) : (s.signal e b f).ldcs = s.ldcs := (s.evOnly_signal e b f).ldcs
@[simp] theorem State.signal_ldcSlot (s : State) (e : Nat) (b f : Bool) : (s.signal e b f).ldcSlot = s.ldcSlot := (s.evOnly_signal e b f).ldcSlot
@[simp] theorem State.signal_ports (s : State) (e : Nat) (b f : Bool) : (s.signal e b f).ports = s.ports := (s.evOnly_signal e b f).ports
@[simp] theorem State.signal_emus (s : State) (e : Nat) (b f : Bool) : (s.signal e b f).emus = s.emus := (s.evOnly_signal e b f).emus
@[simp] theorem State.signal_links (s : State) (e : Nat) (b f : Bool) : (s.signal e b f).links = s.links := (s.evOnly_signal e b f).links
@[simp] theorem State.signal_servos (s : State) (e : Nat) (b f : Bool) : (s.signal e b f).servos = s.servos := (s.evOnly_signal e b f).servos
@[simp] theorem State.signal_servoUndo (s : State) (e : Nat) (b f : Bool) : (s.signal e b f).servoUndo = s.servoUndo := (s.evOnly_signal e b f).servoUndo
@[simp] theorem State.signal_lpus (s : State) (e : Nat) (b f : Bool) : (s.signal e b f).lpus = s.lpus := (s.evOnly_signal e b f).lpus
@[simp] theorem State.signal_sched (s : State) (e : Nat) (b f : Bool) : (s.signal e b f).sched = s.sched := (s.evOnly_signal e b f).sched
@[simp] theorem State.signal_age (s : State) (e : Nat) (b f : Bool) : (s.signal e b f).age = s.age := (s.evOnly_signal e b f).age
@[simp] theorem State.signal_sensors (s : State) (e : Nat) (b f : Bool) : (s.signal e b f).sensors = s.sensors := (s.evOnly_signal e b f).sensors
@[simp] theorem State.signal_shutdowns (s : State) (e : Nat) (b f : Bool) : (s.signal e b f).shutdowns = s.shutdowns := (s.evOnly_signal e b f).shutdowns
@[simp] theorem State.signal_bands (s : State) (e : Nat) (b f : Bool) : (s.signal e b f).bands = s.bands := (s.evOnly_signal e b f).bands
@[simp] theorem State.signal_jtagIr (s : State) (e : Nat) (b f : Bool) : (s.signal e b f).jtagIr = s.jtagIr := (s.evOnly_signal e b f).jtagIr
@[simp] theorem State.signal_jtagDr (s : State) (e : Nat) (b f : Bool) : (s.signal e b f).jtagDr = s.jtagDr := (s.evOnly_signal e b f).jtagDr
@[simp] theorem State.signal_nonce (s : State) (e : Nat) (b f : Bool) : (s.signal e b f).nonce = s.nonce := (s.evOnly_signal e b f).nonce
@[simp] theorem State.signal_freezeAt (s : State) (e : Nat) (b f : Bool) : (s.signal e b f).freezeAt = s.freezeAt := (s.evOnly_signal e b f).freezeAt
@[simp] theorem State.signal_flashCmd (s : State) (e : Nat) (b f : Bool) : (s.signal e b f).flashCmd = s.flashCmd := (s.evOnly_signal e b f).flashCmd
@[simp] theorem State.signal_flashGeo (s : State) (e : Nat) (b f : Bool) : (s.signal e b f).flashGeo = s.flashGeo := (s.evOnly_signal e b f).flashGeo
@[simp] theorem State.signal_mramCmd (s : State) (e : Nat) (b f : Bool) : (s.signal e b f).mramCmd = s.mramCmd := (s.evOnly_signal e b f).mramCmd
@[simp] theorem State.signal_ethPause (s : State) (e : Nat) (b f : Bool) : (s.signal e b f).ethPause = s.ethPause := (s.evOnly_signal e b f).ethPause
@[simp] theorem State.signal_ethOut (s : State) (e : Nat) (b f : Bool) : (s.signal e b f).ethOut = s.ethOut := (s.evOnly_signal e b f).ethOut
@[simp] theorem State.signal_dmaOut (s : State) (e : Nat) (b f : Bool) : (s.signal e b f).dmaOut = s.dmaOut := (s.evOnly_signal e b f).dmaOut
@[simp] theorem State.signal_dmaDesc (s : State) (e : Nat) (b f : Bool) : (s.signal e b f).dmaDesc = s.dmaDesc := (s.evOnly_signal e b f).dmaDesc
@[simp] theorem State.signal_cans (s : State) (e : Nat) (b f : Bool) : (s.signal e b f).cans = s.cans := (s.evOnly_signal e b f).cans
@[simp] theorem State.signal_canObjs (s : State) (e : Nat) (b f : Bool) : (s.signal e b f).canObjs = s.canObjs := (s.evOnly_signal e b f).canObjs
@[simp] theorem State.signal_core (s : State) (e : Nat) (b f : Bool) : (s.signal e b f).core = s.core := (s.evOnly_signal e b f).core
@[simp] theorem State.signal_fieldT0 (s : State) (e : Nat) (b f : Bool) : (s.signal e b f).fieldT0 = s.fieldT0 := (s.evOnly_signal e b f).fieldT0
@[simp] theorem State.signal_wdtT (s : State) (e : Nat) (b f : Bool) : (s.signal e b f).wdtT = s.wdtT := (s.evOnly_signal e b f).wdtT
@[simp] theorem State.signal_flash (s : State) (e : Nat) (b f : Bool) : (s.signal e b f).flash = s.flash := (s.evOnly_signal e b f).flash
@[simp] theorem State.signal_version (s : State) (e : Nat) (b f : Bool) : (s.signal e b f).version = s.version := (s.evOnly_signal e b f).version
@[simp] theorem State.signal_keys (s : State) (e : Nat) (b f : Bool) : (s.signal e b f).keys = s.keys := (s.evOnly_signal e b f).keys
@[simp] theorem State.signal_entries (s : State) (e : Nat) (b f : Bool) : (s.signal e b f).entries = s.entries := (s.evOnly_signal e b f).entries
@[simp] theorem State.signal_lcPlan (s : State) (e : Nat) (b f : Bool) : (s.signal e b f).lcPlan = s.lcPlan := (s.evOnly_signal e b f).lcPlan

@[simp] theorem State.setExtFlt_pending (s : State) (n : Nat) : (s.setExtFlt n).pending = s.pending := (s.evOnly_setExtFlt n).pending
@[simp] theorem State.setExtFlt_dt (s : State) (n : Nat) : (s.setExtFlt n).dt = s.dt := (s.evOnly_setExtFlt n).dt
@[simp] theorem State.setExtFlt_free (s : State) (n : Nat) : (s.setExtFlt n).free = s.free := (s.evOnly_setExtFlt n).free
@[simp] theorem State.setExtFlt_inForce (s : State) (n : Nat) : (s.setExtFlt n).inForce = s.inForce := (s.evOnly_setExtFlt n).inForce
@[simp] theorem State.setExtFlt_commits (s : State) (n : Nat) : (s.setExtFlt n).commits = s.commits := (s.evOnly_setExtFlt n).commits
@[simp] theorem State.setExtFlt_staged (s : State) (n : Nat) : (s.setExtFlt n).staged = s.staged := (s.evOnly_setExtFlt n).staged
@[simp] theorem State.setExtFlt_latched (s : State) (n : Nat) : (s.setExtFlt n).latched = s.latched := (s.evOnly_setExtFlt n).latched
@[simp] theorem State.setExtFlt_rdata (s : State) (n : Nat) : (s.setExtFlt n).rdata = s.rdata := (s.evOnly_setExtFlt n).rdata
@[simp] theorem State.setExtFlt_posted (s : State) (n : Nat) : (s.setExtFlt n).posted = s.posted := (s.evOnly_setExtFlt n).posted
@[simp] theorem State.setExtFlt_mem (s : State) (n : Nat) : (s.setExtFlt n).mem = s.mem := (s.evOnly_setExtFlt n).mem
@[simp] theorem State.setExtFlt_silos (s : State) (n : Nat) : (s.setExtFlt n).silos = s.silos := (s.evOnly_setExtFlt n).silos
@[simp] theorem State.setExtFlt_lost (s : State) (n : Nat) : (s.setExtFlt n).lost = s.lost := (s.evOnly_setExtFlt n).lost
@[simp] theorem State.setExtFlt_recorder (s : State) (n : Nat) : (s.setExtFlt n).recorder = s.recorder := (s.evOnly_setExtFlt n).recorder
@[simp] theorem State.setExtFlt_axes (s : State) (n : Nat) : (s.setExtFlt n).axes = s.axes := (s.evOnly_setExtFlt n).axes
@[simp] theorem State.setExtFlt_gears (s : State) (n : Nat) : (s.setExtFlt n).gears = s.gears := (s.evOnly_setExtFlt n).gears
@[simp] theorem State.setExtFlt_ltb (s : State) (n : Nat) : (s.setExtFlt n).ltb = s.ltb := (s.evOnly_setExtFlt n).ltb
@[simp] theorem State.setExtFlt_ascArms (s : State) (n : Nat) : (s.setExtFlt n).ascArms = s.ascArms := (s.evOnly_setExtFlt n).ascArms
@[simp] theorem State.setExtFlt_ascTook (s : State) (n : Nat) : (s.setExtFlt n).ascTook = s.ascTook := (s.evOnly_setExtFlt n).ascTook
@[simp] theorem State.setExtFlt_ascEnts (s : State) (n : Nat) : (s.setExtFlt n).ascEnts = s.ascEnts := (s.evOnly_setExtFlt n).ascEnts
@[simp] theorem State.setExtFlt_fcoEnd (s : State) (n : Nat) : (s.setExtFlt n).fcoEnd = s.fcoEnd := (s.evOnly_setExtFlt n).fcoEnd
@[simp] theorem State.setExtFlt_fcoLock (s : State) (n : Nat) : (s.setExtFlt n).fcoLock = s.fcoLock := (s.evOnly_setExtFlt n).fcoLock
@[simp] theorem State.setExtFlt_fcoOff (s : State) (n : Nat) : (s.setExtFlt n).fcoOff = s.fcoOff := (s.evOnly_setExtFlt n).fcoOff
@[simp] theorem State.setExtFlt_fliPins (s : State) (n : Nat) : (s.setExtFlt n).fliPins = s.fliPins := (s.evOnly_setExtFlt n).fliPins
@[simp] theorem State.setExtFlt_fliRecs (s : State) (n : Nat) : (s.setExtFlt n).fliRecs = s.fliRecs := (s.evOnly_setExtFlt n).fliRecs
@[simp] theorem State.setExtFlt_latWins (s : State) (n : Nat) : (s.setExtFlt n).latWins = s.latWins := (s.evOnly_setExtFlt n).latWins
@[simp] theorem State.setExtFlt_ringPorts (s : State) (n : Nat) : (s.setExtFlt n).ringPorts = s.ringPorts := (s.evOnly_setExtFlt n).ringPorts
@[simp] theorem State.setExtFlt_ring (s : State) (n : Nat) : (s.setExtFlt n).ring = s.ring := (s.evOnly_setExtFlt n).ring
@[simp] theorem State.setExtFlt_promoted (s : State) (n : Nat) : (s.setExtFlt n).promoted = s.promoted := (s.evOnly_setExtFlt n).promoted
@[simp] theorem State.setExtFlt_xlk (s : State) (n : Nat) : (s.setExtFlt n).xlk = s.xlk := (s.evOnly_setExtFlt n).xlk
@[simp] theorem State.setExtFlt_groups (s : State) (n : Nat) : (s.setExtFlt n).groups = s.groups := (s.evOnly_setExtFlt n).groups
@[simp] theorem State.setExtFlt_safAxes (s : State) (n : Nat) : (s.setExtFlt n).safAxes = s.safAxes := (s.evOnly_setExtFlt n).safAxes
@[simp] theorem State.setExtFlt_ss1 (s : State) (n : Nat) : (s.setExtFlt n).ss1 = s.ss1 := (s.evOnly_setExtFlt n).ss1
@[simp] theorem State.setExtFlt_ss1Quick (s : State) (n : Nat) : (s.setExtFlt n).ss1Quick = s.ss1Quick := (s.evOnly_setExtFlt n).ss1Quick
@[simp] theorem State.setExtFlt_ss1Line (s : State) (n : Nat) : (s.setExtFlt n).ss1Line = s.ss1Line := (s.evOnly_setExtFlt n).ss1Line
@[simp] theorem State.setExtFlt_disagree (s : State) (n : Nat) : (s.setExtFlt n).disagree = s.disagree := (s.evOnly_setExtFlt n).disagree
@[simp] theorem State.setExtFlt_noExA (s : State) (n : Nat) : (s.setExtFlt n).noExA = s.noExA := (s.evOnly_setExtFlt n).noExA
@[simp] theorem State.setExtFlt_noExB (s : State) (n : Nat) : (s.setExtFlt n).noExB = s.noExB := (s.evOnly_setExtFlt n).noExB
@[simp] theorem State.setExtFlt_chanAStop (s : State) (n : Nat) : (s.setExtFlt n).chanAStop = s.chanAStop := (s.evOnly_setExtFlt n).chanAStop
@[simp] theorem State.setExtFlt_keepA (s : State) (n : Nat) : (s.setExtFlt n).keepA = s.keepA := (s.evOnly_setExtFlt n).keepA
@[simp] theorem State.setExtFlt_dropA (s : State) (n : Nat) : (s.setExtFlt n).dropA = s.dropA := (s.evOnly_setExtFlt n).dropA
@[simp] theorem State.setExtFlt_safPeer (s : State) (n : Nat) : (s.setExtFlt n).safPeer = s.safPeer := (s.evOnly_setExtFlt n).safPeer
@[simp] theorem State.setExtFlt_safStore (s : State) (n : Nat) : (s.setExtFlt n).safStore = s.safStore := (s.evOnly_setExtFlt n).safStore
@[simp] theorem State.setExtFlt_dbgHalt (s : State) (n : Nat) : (s.setExtFlt n).dbgHalt = s.dbgHalt := (s.evOnly_setExtFlt n).dbgHalt
@[simp] theorem State.setExtFlt_acqs (s : State) (n : Nat) : (s.setExtFlt n).acqs = s.acqs := (s.evOnly_setExtFlt n).acqs
@[simp] theorem State.setExtFlt_acqActs (s : State) (n : Nat) : (s.setExtFlt n).acqActs = s.acqActs := (s.evOnly_setExtFlt n).acqActs
@[simp] theorem State.setExtFlt_ldcs (s : State) (n : Nat) : (s.setExtFlt n).ldcs = s.ldcs := (s.evOnly_setExtFlt n).ldcs
@[simp] theorem State.setExtFlt_ldcSlot (s : State) (n : Nat) : (s.setExtFlt n).ldcSlot = s.ldcSlot := (s.evOnly_setExtFlt n).ldcSlot
@[simp] theorem State.setExtFlt_ports (s : State) (n : Nat) : (s.setExtFlt n).ports = s.ports := (s.evOnly_setExtFlt n).ports
@[simp] theorem State.setExtFlt_emus (s : State) (n : Nat) : (s.setExtFlt n).emus = s.emus := (s.evOnly_setExtFlt n).emus
@[simp] theorem State.setExtFlt_links (s : State) (n : Nat) : (s.setExtFlt n).links = s.links := (s.evOnly_setExtFlt n).links
@[simp] theorem State.setExtFlt_servos (s : State) (n : Nat) : (s.setExtFlt n).servos = s.servos := (s.evOnly_setExtFlt n).servos
@[simp] theorem State.setExtFlt_servoUndo (s : State) (n : Nat) : (s.setExtFlt n).servoUndo = s.servoUndo := (s.evOnly_setExtFlt n).servoUndo
@[simp] theorem State.setExtFlt_lpus (s : State) (n : Nat) : (s.setExtFlt n).lpus = s.lpus := (s.evOnly_setExtFlt n).lpus
@[simp] theorem State.setExtFlt_sched (s : State) (n : Nat) : (s.setExtFlt n).sched = s.sched := (s.evOnly_setExtFlt n).sched
@[simp] theorem State.setExtFlt_age (s : State) (n : Nat) : (s.setExtFlt n).age = s.age := (s.evOnly_setExtFlt n).age
@[simp] theorem State.setExtFlt_sensors (s : State) (n : Nat) : (s.setExtFlt n).sensors = s.sensors := (s.evOnly_setExtFlt n).sensors
@[simp] theorem State.setExtFlt_shutdowns (s : State) (n : Nat) : (s.setExtFlt n).shutdowns = s.shutdowns := (s.evOnly_setExtFlt n).shutdowns
@[simp] theorem State.setExtFlt_bands (s : State) (n : Nat) : (s.setExtFlt n).bands = s.bands := (s.evOnly_setExtFlt n).bands
@[simp] theorem State.setExtFlt_jtagIr (s : State) (n : Nat) : (s.setExtFlt n).jtagIr = s.jtagIr := (s.evOnly_setExtFlt n).jtagIr
@[simp] theorem State.setExtFlt_jtagDr (s : State) (n : Nat) : (s.setExtFlt n).jtagDr = s.jtagDr := (s.evOnly_setExtFlt n).jtagDr
@[simp] theorem State.setExtFlt_nonce (s : State) (n : Nat) : (s.setExtFlt n).nonce = s.nonce := (s.evOnly_setExtFlt n).nonce
@[simp] theorem State.setExtFlt_freezeAt (s : State) (n : Nat) : (s.setExtFlt n).freezeAt = s.freezeAt := (s.evOnly_setExtFlt n).freezeAt
@[simp] theorem State.setExtFlt_flashCmd (s : State) (n : Nat) : (s.setExtFlt n).flashCmd = s.flashCmd := (s.evOnly_setExtFlt n).flashCmd
@[simp] theorem State.setExtFlt_flashGeo (s : State) (n : Nat) : (s.setExtFlt n).flashGeo = s.flashGeo := (s.evOnly_setExtFlt n).flashGeo
@[simp] theorem State.setExtFlt_mramCmd (s : State) (n : Nat) : (s.setExtFlt n).mramCmd = s.mramCmd := (s.evOnly_setExtFlt n).mramCmd
@[simp] theorem State.setExtFlt_ethPause (s : State) (n : Nat) : (s.setExtFlt n).ethPause = s.ethPause := (s.evOnly_setExtFlt n).ethPause
@[simp] theorem State.setExtFlt_ethOut (s : State) (n : Nat) : (s.setExtFlt n).ethOut = s.ethOut := (s.evOnly_setExtFlt n).ethOut
@[simp] theorem State.setExtFlt_dmaOut (s : State) (n : Nat) : (s.setExtFlt n).dmaOut = s.dmaOut := (s.evOnly_setExtFlt n).dmaOut
@[simp] theorem State.setExtFlt_dmaDesc (s : State) (n : Nat) : (s.setExtFlt n).dmaDesc = s.dmaDesc := (s.evOnly_setExtFlt n).dmaDesc
@[simp] theorem State.setExtFlt_cans (s : State) (n : Nat) : (s.setExtFlt n).cans = s.cans := (s.evOnly_setExtFlt n).cans
@[simp] theorem State.setExtFlt_canObjs (s : State) (n : Nat) : (s.setExtFlt n).canObjs = s.canObjs := (s.evOnly_setExtFlt n).canObjs
@[simp] theorem State.setExtFlt_core (s : State) (n : Nat) : (s.setExtFlt n).core = s.core := (s.evOnly_setExtFlt n).core
@[simp] theorem State.setExtFlt_fieldT0 (s : State) (n : Nat) : (s.setExtFlt n).fieldT0 = s.fieldT0 := (s.evOnly_setExtFlt n).fieldT0
@[simp] theorem State.setExtFlt_wdtT (s : State) (n : Nat) : (s.setExtFlt n).wdtT = s.wdtT := (s.evOnly_setExtFlt n).wdtT
@[simp] theorem State.setExtFlt_flash (s : State) (n : Nat) : (s.setExtFlt n).flash = s.flash := (s.evOnly_setExtFlt n).flash
@[simp] theorem State.setExtFlt_version (s : State) (n : Nat) : (s.setExtFlt n).version = s.version := (s.evOnly_setExtFlt n).version
@[simp] theorem State.setExtFlt_keys (s : State) (n : Nat) : (s.setExtFlt n).keys = s.keys := (s.evOnly_setExtFlt n).keys
@[simp] theorem State.setExtFlt_entries (s : State) (n : Nat) : (s.setExtFlt n).entries = s.entries := (s.evOnly_setExtFlt n).entries
@[simp] theorem State.setExtFlt_lcPlan (s : State) (n : Nat) : (s.setExtFlt n).lcPlan = s.lcPlan := (s.evOnly_setExtFlt n).lcPlan


end Sys2Proof.Machine
end

