-- ==== Sys2Proof/Laws/Lpu.lean ====
section
/-! SUPPORT. What the shared operations of the loop processors do: the register file of the LPUs, the results that an operation issues, the operations of one LPU. -/

namespace Sys2Proof.Machine

/-- The second value under a key replaces the first. -/
@[simp] theorem tabSet_tabSet {α : Type} (k : Nat) (v w : α) (t : Tab α) : tabSet k v (tabSet k w t) = tabSet k v t := by
  induction t with
  | nil => simp [tabSet]
  | cons h t ih =>
    obtain ⟨k', v'⟩ := h
    simp only [tabSet]
    split
    · simp [tabSet]
    · split
      · simp [tabSet]
      · simp [tabSet, *]

@[simp] theorem State.lpu_setLpu (s : State) (i : Nat) (x : Lpu) : (s.setLpu i x).lpu i = x := by simp [State.lpu, State.setLpu]
theorem State.lpu_setLpu_other (s : State) {i j : Nat} (x : Lpu) (h : j ≠ i) : (s.setLpu i x).lpu j = s.lpu j := by simp [State.lpu, State.setLpu, tabGet_tabSet, h]
@[simp] theorem State.setLpu_setLpu (s : State) (i : Nat) (x y : Lpu) : (s.setLpu i x).setLpu i y = s.setLpu i y := by simp [State.setLpu]
@[simp] theorem State.setLpu_regs (s : State) (i : Nat) (x : Lpu) : (s.setLpu i x).regs = s.regs := rfl
@[simp] theorem State.setLpu_mem (s : State) (i : Nat) (x : Lpu) : (s.setLpu i x).mem = s.mem := rfl
@[simp] theorem State.setLpu_free (s : State) (i : Nat) (x : Lpu) : (s.setLpu i x).free = s.free := rfl

/-- A result for a register that exists, unsaturated. -/
theorem Lpu.laterD_with (x : Lpu) (lat k : Nat) (v : Int) (h : k < 64) : x.laterD lat 3 k v = x.with [x.res lat k v] false := by
  have : ¬63 < k := by omega
  simp [Lpu.laterD, Lpu.later, Lpu.with, Lpu.res, this]

/-- A Q1.31 result for a register that exists. -/
theorem Lpu.outD_with (x : Lpu) (lat k : Nat) (v : Int) (h : k < 64) : x.outD lat k v = x.with [x.res lat k (satTo 32 v)] (over31 v) := by
  have : ¬63 < k := by omega
  simp [Lpu.outD, sat31, Lpu.laterD, Lpu.later, Lpu.with, Lpu.res, this, Lpu.orV, over31]

/-- A result for an accumulator. -/
theorem Lpu.outA_with (x : Lpu) (lat : Nat) (b : Bool) (v : Int) : x.outA lat b v = x.with [x.resA lat b (satTo 80 v)] (over80 v) := by
  simp [Lpu.outA, sat80, Lpu.later, Lpu.with, Lpu.resA, Lpu.orV, over80]

/-- An operation that changes only the LPU gives what it makes of it. -/
theorem State.lpuOp_gives (s : State) (i : Nat) (last : Bool) (f : Lpu → Lpu) : s.lpuGives (s.lpuOp i last f) i last (f (s.lpu i)) := rfl

end Sys2Proof.Machine
end

