-- ==== Sys2Proof/Laws/Memory.lean ====
section
/-! SUPPORT. The memory: every operation keeps the canonical form, a byte written reads back, the others are unchanged. -/

namespace Sys2Proof.Machine

theorem memWfFrom_mono {lo lo' : Nat} {m : Memory} (h : lo ≤ lo') (w : memWfFrom lo' m = true) : memWfFrom lo m = true := by
  cases m with
  | nil => rfl
  | cons c t =>
    obtain ⟨a, b⟩ := c
    simp only [memWfFrom, Bool.and_eq_true, decide_eq_true_eq] at w ⊢
    exact ⟨⟨by omega, w.1.2⟩, w.2⟩

theorem memSet_wfFrom {lo a : Nat} {b : Byte} {m : Memory} (w : memWfFrom lo m = true) (h : lo ≤ a) : memWfFrom lo (memSet a b m) = true := by
  induction m generalizing lo with
  | nil =>
    unfold memSet
    split
    · rfl
    · simp_all [memWfFrom]
  | cons c t ih =>
    obtain ⟨a', b'⟩ := c
    simp only [memWfFrom, Bool.and_eq_true, decide_eq_true_eq] at w
    unfold memSet
    split
    · rename_i hlt
      split
      · simp only [memWfFrom, Bool.and_eq_true, decide_eq_true_eq]; exact w
      · simp only [memWfFrom, Bool.and_eq_true, decide_eq_true_eq]
        exact ⟨⟨h, by assumption⟩, ⟨by omega, w.1.2⟩, w.2⟩
    · split
      · split
        · exact memWfFrom_mono (by omega) w.2
        · rename_i heq _
          subst heq
          simp only [memWfFrom, Bool.and_eq_true, decide_eq_true_eq]
          exact ⟨⟨h, by assumption⟩, w.2⟩
      · simp only [memWfFrom, Bool.and_eq_true, decide_eq_true_eq]
        exact ⟨w.1, ih w.2 (by omega)⟩

/-- Storing a byte keeps the canonical form. -/
theorem memSet_wf {a : Nat} {b : Byte} {m : Memory} (w : Memory.wf m = true) : Memory.wf (memSet a b m) = true := memSet_wfFrom w (Nat.zero_le a)

theorem memFilter_wfFrom {lo : Nat} {m : Memory} (p : Host.Cell → Bool) (w : memWfFrom lo m = true) : memWfFrom lo (m.filter p) = true := by
  induction m generalizing lo with
  | nil => rfl
  | cons c t ih =>
    obtain ⟨a, b⟩ := c
    simp only [memWfFrom, Bool.and_eq_true, decide_eq_true_eq] at w
    rw [List.filter_cons]
    split
    · simp only [memWfFrom, Bool.and_eq_true, decide_eq_true_eq]; exact ⟨w.1, ih w.2⟩
    · exact memWfFrom_mono (by omega) (ih w.2)

/-- Dropping bytes keeps the canonical form. -/
theorem memFilter_wf {m : Memory} (p : Host.Cell → Bool) (w : Memory.wf m = true) : Memory.wf (m.filter p) = true := memFilter_wfFrom p w

/-- A wipe keeps the canonical form. -/
theorem memWipe_wf {lo hi : Nat} {m : Memory} (w : Memory.wf m = true) : Memory.wf (memWipe lo hi m) = true := memFilter_wf _ w

theorem State.putByte_wf {s : State} {a : Nat} {b : Byte} (w : Memory.wf s.mem = true) : Memory.wf (s.putByte a b).mem = true := memSet_wf w

theorem State.putBytes_wf {l : List Byte} {s : State} {a : Nat} (w : Memory.wf s.mem = true) : Memory.wf (s.putBytes a l).mem = true := by
  induction l generalizing s a with
  | nil => exact w
  | cons b t ih => exact ih (State.putByte_wf w)

theorem State.putNat_wf {s : State} {a n x : Nat} (w : Memory.wf s.mem = true) : Memory.wf (s.putNat a n x).mem = true := State.putBytes_wf w

theorem State.wipe_wf {s : State} {lo hi : Nat} (w : Memory.wf s.mem = true) : Memory.wf (s.wipe lo hi).mem = true := memWipe_wf w

/-! ### Reading after writing -/

theorem memGet_below {lo a : Nat} {m : Memory} (w : memWfFrom lo m = true) (h : a < lo) : memGet a m = memDefault := by
  cases m with
  | nil => rfl
  | cons c t =>
    obtain ⟨a', b'⟩ := c
    simp only [memWfFrom, Bool.and_eq_true, decide_eq_true_eq] at w
    unfold memGet
    rw [if_neg (by omega), if_pos (by omega)]

theorem memGet_cons (x a : Nat) (b : Byte) (t : Memory) : memGet x ((a, b) :: t) = if x = a then b else if x < a then memDefault else memGet x t := rfl

theorem memGet_memSet_from {lo a x : Nat} {b : Byte} {m : Memory} (w : memWfFrom lo m = true) :
    memGet x (memSet a b m) = if x = a then b else memGet x m := by
  induction m generalizing lo with
  | nil =>
    unfold memSet
    split
    · rename_i h; subst h; split <;> rfl
    · simp only [memGet]
      by_cases hx : x = a
      · simp [hx]
      · simp only [hx, if_false]; split <;> rfl
  | cons c t ih =>
    obtain ⟨a', b'⟩ := c
    simp only [memWfFrom, Bool.and_eq_true, decide_eq_true_eq] at w
    have wt := ih w.2
    have below : ∀ y, y < a' + 1 → memGet y t = memDefault := fun y hy => memGet_below w.2 hy
    unfold memSet
    split
    · split
      · rename_i hlt hb
        subst hb
        by_cases hx : x = a
        · subst hx; rw [if_pos rfl]; unfold memGet; rw [if_neg (by omega), if_pos hlt]
        · rw [if_neg hx]
      · rename_i hlt hb
        by_cases hx : x = a
        · subst hx; rw [if_pos rfl]; unfold memGet; rw [if_pos rfl]
        · rw [if_neg hx, memGet_cons x a, if_neg hx]
          split
          · rw [memGet_cons, if_neg (by omega), if_pos (by omega)]
          · rfl
    · split
      · rename_i h1 heq
        subst heq
        split
        · rename_i hb
          subst hb
          by_cases hx : x = a
          · subst hx; rw [if_pos rfl]; exact below x (by omega)
          · rw [if_neg hx, memGet_cons, if_neg hx]
            split
            · exact below x (by omega)
            · rfl
        · by_cases hx : x = a
          · subst hx; rw [if_pos rfl]; unfold memGet; rw [if_pos rfl]
          · rw [if_neg hx, memGet_cons, memGet_cons, if_neg hx, if_neg hx]
      · rename_i h1 h2
        rw [memGet_cons, memGet_cons]
        by_cases hx' : x = a'
        · rw [if_pos hx', if_pos hx', if_neg (by omega)]
        · rw [if_neg hx', if_neg hx']
          by_cases hlt : x < a'
          · rw [if_pos hlt, if_pos hlt, if_neg (by omega)]
          · rw [if_neg hlt, if_neg hlt, wt]

/-- A byte written reads back, every other byte is unchanged. -/
theorem State.byteAt_putByte {s : State} {a x : Nat} {b : Byte} (w : Memory.wf s.mem = true) :
    (s.putByte a b).byteAt x = if x = a then b else s.byteAt x := memGet_memSet_from w

/-- Storing bytes leaves every address outside them unchanged. -/
theorem State.byteAt_putBytes_out {l : List Byte} {s : State} {a x : Nat} (w : Memory.wf s.mem = true) (h : x < a ∨ a + l.length ≤ x) :
    (s.putBytes a l).byteAt x = s.byteAt x := by
  induction l generalizing s a with
  | nil => rfl
  | cons b t ih =>
    rw [List.length_cons] at h
    have h1 := ih (s := s.putByte a b) (a := a + 1) (State.putByte_wf w) (by omega)
    rw [show s.putBytes a (b :: t) = (s.putByte a b).putBytes (a + 1) t from rfl, h1, State.byteAt_putByte w, if_neg (by omega)]

/-- The `k`-th of the bytes stored reads back. -/
theorem State.byteAt_putBytes_in {l : List Byte} {s : State} {a k : Nat} (w : Memory.wf s.mem = true) (h : k < l.length) :
    (s.putBytes a l).byteAt (a + k) = l[k] := by
  induction l generalizing s a k with
  | nil => simp at h
  | cons b t ih =>
    rw [show s.putBytes a (b :: t) = (s.putByte a b).putBytes (a + 1) t from rfl]
    cases k with
    | zero =>
      rw [State.byteAt_putBytes_out (State.putByte_wf w) (Or.inl (by omega)), State.byteAt_putByte w]
      simp
    | succ k =>
      have h1 := ih (s := s.putByte a b) (a := a + 1) (k := k) (State.putByte_wf w) (by simpa using h)
      rw [show a + (k + 1) = a + 1 + k from by omega, h1]
      simp

theorem State.memOk_reset : Memory.wf State.reset.mem = true := rfl

end Sys2Proof.Machine
end

