-- ==== Sys2Proof/WellFormed.lean ====
section
/-! DEFINITION. Which commands are well formed: their operands name an access, a frame or a finding that the spec gives. -/

namespace Sys2Proof

/-- The data bytes of a CAN frame by its data length code (R548). -/
def dlcCount (fd : Bool) (dlc : Nat) : Nat :=
  if dlc ≤ 8 then dlc
  else if !fd then 8
  else if dlc ≤ 12 then 4 * dlc - 24
  else 16 * dlc - 176

/-- A command is well formed. -/
def Instr.wf : Instr → Bool
  | .registerWrite _ a bytes => !bytes.isEmpty && decide (a.toNat + bytes.length ≤ 2 ^ 33)
  | .fieldDieWriteEffect _ _ => true
  | .bridgeLoss => true
  | .referenceLoss => true
  | .pllUnlock _ => true
  | .commitWrite _ _ _ => true
  | .commitAtTime _ _ _ => true
  | .commitAtAngle _ _ _ => true
  | .commitAtCancel _ _ _ => true
  | .commitApply _ => true
  | .lock _ _ _ => true
  | .unlock _ _ _ => true
  | .softReset _ _ => true
  | .errCapClear _ _ _ => true
  | .evtPendClear _ _ _ => true
  | .evtForceWrite _ _ _ => true
  | .extFltClear _ _ _ => true
  | .pairLoRead _ a => a.1.toNat % 4 == 0 && decide (a.1.toNat + 4 * a.2.val < 2 ^ 33)
  | .pairLoWrite _ a _ => a.toNat % 4 == 0
  | .pairHiWrite _ a _ => a.toNat % 4 == 0
  | .axisEnable _ _ => true
  | .axisDisable _ => true
  | .axisOpen _ => true
  | .axisClose _ => true
  | .axisAck _ => true
  | .axisStandstill _ => true
  | .axisSampleInstant _ _ _ => true
  | .loopRunStart _ _ => true
  | .applyInstant _ => true
  | .iqExtWrite _ _ => true
  | .coefConversionDone _ => true
  | .rcSave _ => true
  | .rcLoad _ => true
  | .rcClear _ => true
  | .rcCmdDone _ => true
  | .slotMigration _ => true
  | .ltbStep _ => true
  | .vmgStart => true
  | .vmgStop => true
  | .vmgHold => true
  | .vmgResume => true
  | .vmgLineStop => true
  | .ltbSnapshot _ => true
  | .lineStateReceived => true
  | .lsMiss => true
  | .rejoinDone => true
  | .lossRejoin => true
  | .joinDone => true
  | .ascArm => true
  | .ascDisarm _ _ => true
  | .slotFreeze => true
  | .ascFire => true
  | .fcoPulseEnd => true
  | .fcoSwSet _ => true
  | .fcoSwClr _ => true
  | .fliEdge _ _ => true
  | .latchRecordComplete _ => true
  | .gearEngage _ => true
  | .gearDisengage _ => true
  | .gearSwitch _ => true
  | .engageStart _ => true
  | .disengageStart _ => true
  | .camDescriptorWrite _ _ _ => true
  | .camCheckDone _ => true
  | .regCtlWrite _ _ => true
  | .moveAbs _ => true
  | .moveRel _ => true
  | .moveVelocity _ => true
  | .moveStream _ => true
  | .moveHome _ => true
  | .moveStop _ => true
  | .moveResume _ => true
  | .stepEmit _ => true
  | .lpuNop _ _ => true
  | .lpuMov _ _ _ _ => true
  | .lpuMva _ _ _ _ _ => true
  | .lpuMvap _ _ _ _ => true
  | .lpuLdacc _ _ _ _ => true
  | .lpuClra _ _ _ => true
  | .lpuAdd _ _ _ _ _ => true
  | .lpuSub _ _ _ _ _ => true
  | .lpuNeg _ _ _ _ => true
  | .lpuAbs _ _ _ _ => true
  | .lpuMin _ _ _ _ _ => true
  | .lpuMax _ _ _ _ _ => true
  | .lpuClamp _ _ _ _ _ => true
  | .lpuMul _ _ _ _ _ => true
  | .lpuMac _ _ _ _ _ => true
  | .lpuMsu _ _ _ _ _ => true
  | .lpuDot _ _ _ _ _ => true
  | .lpuDota _ _ _ _ _ => true
  | .lpuMulp _ _ _ _ => true
  | .lpuMacp _ _ _ _ => true
  | .lpuCmul _ _ _ _ => true
  | .lpuCmac _ _ _ _ => true
  | .lpuCmulc _ _ _ _ => true
  | .lpuCmacc _ _ _ _ => true
  | .lpuCmulp _ _ _ => true
  | .lpuAdda _ _ _ => true
  | .lpuSha _ _ _ _ => true
  | .lpuAsh _ _ _ _ _ => true
  | .lpuLsh _ _ _ _ _ => true
  | .lpuAnd _ _ _ _ _ => true
  | .lpuOr _ _ _ _ _ => true
  | .lpuXor _ _ _ _ _ => true
  | .lpuCmp _ _ _ _ => true
  | .lpuSel _ _ _ _ _ => true
  | .lpuSincos _ _ _ _ => true
  | .lpuAtan2 _ _ _ _ _ => true
  | .lpuRecip _ _ _ _ => true
  | .lpuRsqrt _ _ _ _ => true
  | .lpuNorm _ _ _ _ => true
  | .lpuAdd64 _ _ _ _ _ => true
  | .lpuSub64 _ _ _ _ _ => true
  | .lpuMulfrac _ _ _ _ _ => true
  | .lpuCnop _ => true
  | .lpuDo _ _ _ _ _ _ _ => true
  | .lpuDor _ _ _ _ _ _ _ => true
  | .lpuBr _ _ => true
  | .lpuBrn _ _ => true
  | .lpuBrz _ _ => true
  | .lpuCall _ _ => true
  | .lpuRet _ => true
  | .lpuLdi _ _ _ => true
  | .lpuLdih _ _ _ => true
  | .lpuSeta _ _ _ _ => true
  | .lpuSetsr _ _ => true
  | .lpuBlk _ => true
  | .lpuEnd _ => true
  | .lpuLd _ _ _ _ _ => true
  | .lpuLdp _ _ _ _ _ => true
  | .lpuSt _ _ _ _ _ => true
  | .lpuStp _ _ _ _ _ => true
  | .lpuSta _ _ _ _ _ => true
  | .lpuStap _ _ _ _ => true
  | .lpuMod _ _ _ => true
  | .lpuPFetch _ _ _ => true
  | .libLoad _ => true
  | .rotNow => true
  | .rotationStart => true
  | .fallowEnd _ _ _ => true
  | .testReqWrite _ => true
  | .calReqWrite _ => true
  | .lpuFailure _ _ => true
  | .lpuDebugHalt _ => true
  | .trumpPromotion _ _ _ _ => true
  | .linkCtlWrite _ _ => true
  | .syncAcquired _ _ => true
  | .syncLost _ => true
  | .dlFrameSend _ => true
  | .ulFrameReceived _ _ _ => true
  | .ulFrameMissing _ => true
  | .linkClear _ => true
  | .linkRetrain _ => true
  | .linkIdentReq _ => true
  | .slkMsgSend _ _ => true
  | .slkMsgPush _ => true
  | .slkInjArm _ _ => true
  | .pwmReload _ _ _ => true
  | .ldcCommitArrival _ _ => true
  | .pwmLegChange _ _ _ _ _ => true
  | .bstPreEnd _ => true
  | .desat _ _ => true
  | .hardShort _ _ => true
  | .tripInput _ => true
  | .gateUv _ _ => true
  | .softOffEnd _ => true
  | .fltClr _ => true
  | .cbc _ => true
  | .comStart _ _ => true
  | .comStop _ => true
  | .comAck _ => true
  | .commutation _ => true
  | .hallCommutation _ _ => true
  | .sensingDecision _ _ => true
  | .reverseWaitEnd _ _ => true
  | .reverseWaitTimeout _ => true
  | .ipdPulseEnd _ _ => true
  | .alignEnd _ => true
  | .startTimeout _ => true
  | .recatchWaitEnd _ => true
  | .coastStill _ => true
  | .recatchReset _ => true
  | .indexPulse _ _ _ => true
  | .quadErr _ => true
  | .wireBreak _ _ => true
  | .serialTransaction _ _ => true
  | .serialReading _ _ _ => true
  | .hallCodeChange _ _ => true
  | .fbClear _ _ _ => true
  | .fbResCal _ => true
  | .resCalDone _ _ => true
  | .fbRefReset _ => true
  | .emuEdge _ => true
  | .cycleFrameSend => true
  | .cycleFramePass _ _ _ _ => true
  | .dlySend _ _ => true
  | .dlyReceived _ _ _ _ => true
  | .dlyTimeout _ => true
  | .unwrap _ => true
  | .crdReceived _ _ _ => true
  | .ringMsgReceived _ _ => true
  | .ringMsgSend _ => true
  | .ringMsgPush => true
  | .ringMsgTx _ _ => true
  | .formingEntry => true
  | .formFrameSend => true
  | .formFrameReceived _ _ => true
  | .cmElection => true
  | .startFrameReceived _ => true
  | .ringJoin => true
  | .cycLost => true
  | .ringInjArm _ _ => true
  | .xlkLaneUp _ => true
  | .initialCopyDone _ _ _ => true
  | .mirrorFrameSend _ => true
  | .xlkMirrorFrame _ => true
  | .xlkWriteRecord _ bytes => decide (4 ≤ bytes.length) && decide (bytes.length ≤ 64)
  | .xlkCommitRecord _ _ _ _ => true
  | .xlkReactRecord _ _ => true
  | .xlkTokenRecord _ _ => true
  | .xlkAckRecord _ _ _ _ => true
  | .xlkAckSend => true
  | .mirrorCommitDeadline => true
  | .xlkHandover => true
  | .tokenSwitch => true
  | .xlkTake => true
  | .xlkResync => true
  | .crosslinkLoss => true
  | .safetyCycle _ _ _ _ _ => true
  | .containerLapse _ => true
  | .testPulse _ _ _ => true
  | .stoAKeepaliveTimeout => true
  | .lockstepMismatch => true
  | .safActivate _ _ => true
  | .safReset _ => true
  | .safDeactivate _ => true
  | .safetyResetInput _ _ => true
  | .inChg _ _ => true
  | .discrepancy _ _ _ => true
  | .outputOverload _ => true
  | .edmFault _ => true
  | .outClr _ => true
  | .fieldSupply _ => true
  | .acqCmdArm _ => true
  | .acqArmEffect => true
  | .acqCmdFire _ => true
  | .acqCmdStop _ => true
  | .acqCmdReset _ => true
  | .acqSample _ _ _ => true
  | .rdOfsWrite _ _ => true
  | .acqRingAct => true
  | .recCmdSheaf _ => true
  | .recCmdFlush => true
  | .recCmdClear _ => true
  | .sheafTaken => true
  | .flushDone => true
  | .pfail => true
  | .pfailRecovery => true
  | .clearDone => true
  | .opSecTick => true
  | .routerAction => true
  | .evrEnWrite _ => true
  | .routeWrite _ _ _ => true
  | .siloPushStage _ w vs => !vs.isEmpty && decide (w.val + vs.length < 8)
  | .siloPush _ w vs => !vs.isEmpty && w.val + vs.length == 8
  | .siloPop _ _ n => decide (1 ≤ n.val)
  | .siloPeek _ _ w n => decide (1 ≤ n.val) && decide (w.val + n.val ≤ 8)
  | .popStallServed _ => true
  | .popStallTimeout _ => true
  | .siloMark _ => true
  | .siloRewind _ => true
  | .siloFlush _ => true
  | .siloRelease _ _ => true
  | .sensorConversion _ _ _ _ => true
  | .thermalRestart => true
  | .thmClrMax => true
  | .ageMeasurement _ => true
  | .ledgerSummary => true
  | .dailyRecord => true
  | .mramScrub _ => true
  | .ageSnapshot => true
  | .ageRefLdc _ => true
  | .perst => true
  | .flr => true
  | .pcieLinkDown => true
  | .dmaStart _ => true
  | .dmaAbort _ _ _ => true
  | .dmaDescriptorDone _ _ e _ => decide (e.val = 0) || decide (3 ≤ e.val)
  | .ethRxFrame _ data _ => decide (14 ≤ data.length)
  | .ethTxDone _ => true
  | .ethTailWrite _ _ => true
  | .ptpCommit _ _ => true
  | .mdioGo _ => true
  | .mdioDone _ => true
  | .flRead _ => true
  | .flProgram _ => true
  | .flErase _ => true
  | .flDone _ => true
  | .mwWrite => true
  | .mwDone => true
  | .bypass => true
  | .idcode => true
  | .samplePreload => true
  | .extest => true
  | .highz => true
  | .jtagClamp => true
  | .dbgAccess => true
  | .debugAuth _ _ => true
  | .debugHalt _ _ => true
  | .debugSessionEnd => true
  | .canFrameReceived _ f _ _ => f.rtr || f.data.length == dlcCount f.fdf f.dlc.toNat
  | .canTxComplete _ _ => true
  | .canBusError _ _ _ _ _ _ => true
  | .canObjRead _ _ => true
  | .canObjWrite _ _ => true
  | .canObjSend _ _ => true
  | .canObjWriteSend _ _ => true
  | .canObjAbort _ _ => true
  | .canObjConfig _ _ _ _ => true
  | .canRecover _ => true
  | .canRecovered _ => true
  | .canModeWrite _ _ => true
  | .canModeEffect _ => true
  | .canInjArm _ _ => true
  | .powerUp => true
  | .coreSupplyLoss => true
  | .resetN => true
  | .rstCmdWarm _ => true
  | .rstCmdCold _ => true
  | .wdtExpiry => true
  | .wdtKick _ => true
  | .bootComplete _ => true
  | .bootLoadSram _ _ => true
  | .lcTransition _ _ _ => true
  | .lcAdvanceVer _ => true
  | .coreCtlWrite _ => true
  | .pllLock _ => true
  | .analogAmplitudeLoss _ _ => true
  | .resolverTrackingError _ => true
  | .gateSupplyRecovery _ _ => true
  | .tripInputRelease _ => true
  | .powerDown => true
  | .pcieLinkUp _ _ => true
  | .ethLinkChg _ _ _ _ => true
  | .protocolExceptionEnd _ => true
  | .refOut _ => true

end Sys2Proof
end

