-- ==== Sys2Proof/Tests/Slice0.lean ====
section
/-! SUPPORT. Small tests: an ill-formed command for each check, one step on small states, and a state and operands for the hypotheses of every statement. -/

namespace Sys2Proof.Tests

open Sys2Proof Sys2Proof.Machine

set_option Elab.async false

/-! ### The checks of WellFormed: an ill-formed command for each, and the edge that passes -/

theorem test_wf_registerWrite : (Instr.registerWrite .pcie 0x40 []).wf = false ∧ (Instr.registerWrite .pcie 0x1FFFFFFFF [1, 2]).wf = false ∧ (Instr.registerWrite .pcie 0x1FFFFFFFF [1]).wf = true := by decide
theorem test_wf_pairs : (Instr.pairLoRead .pcie (0x8042, 0)).wf = false ∧ (Instr.pairLoWrite .pcie 0x8041 0).wf = false ∧ (Instr.pairHiWrite .pcie 0x8047 0).wf = false ∧ (Instr.pairHiWrite .pcie 0x8044 0).wf = true := by decide
theorem test_wf_xlkWriteRecord : (Instr.xlkWriteRecord 0x02000000 [1, 2, 3]).wf = false ∧ (Instr.xlkWriteRecord 0x02000000 (List.replicate 65 0)).wf = false ∧ (Instr.xlkWriteRecord 0x02000000 (List.replicate 64 0)).wf = true := by decide
theorem test_wf_siloPush : (Instr.siloPush 3 6 [1]).wf = false ∧ (Instr.siloPush 3 7 [1]).wf = true ∧ (Instr.siloPushStage 3 6 [1, 2]).wf = false ∧ (Instr.siloPushStage 3 5 [1, 2]).wf = true ∧ (Instr.siloPushStage 3 5 []).wf = false := by decide
theorem test_wf_siloPop : (Instr.siloPop .pcie 3 0).wf = false ∧ (Instr.siloPeek .pcie 3 5 4).wf = false ∧ (Instr.siloPeek .pcie 3 5 3).wf = true := by decide
theorem test_wf_dmaDescriptorDone : (Instr.dmaDescriptorDone 2 [] 1 0).wf = false ∧ (Instr.dmaDescriptorDone 2 [] 2 0).wf = false ∧ (Instr.dmaDescriptorDone 2 [] 3 0).wf = true := by decide
theorem test_wf_ethRxFrame : (Instr.ethRxFrame 0 (List.replicate 13 0) true).wf = false ∧ (Instr.ethRxFrame 0 (List.replicate 14 0) true).wf = true := by decide
theorem test_wf_canFrameReceived : (Instr.canFrameReceived 0 ⟨1, false, true, false, false, false, 9, List.replicate 11 0⟩ 0 false).wf = false ∧ (Instr.canFrameReceived 0 ⟨1, false, true, false, false, false, 9, List.replicate 12 0⟩ 0 false).wf = true := by decide

/-! ### One step on small states, with values from the manual's worked cases -/

/-- The published check value of the CRC that R253 states by its parameters: 0xCBF4_3926 for the nine digits. -/
theorem test_crc32 : crc32 [0x31, 0x32, 0x33, 0x34, 0x35, 0x36, 0x37, 0x38, 0x39] = 0xCBF43926 := by decide +kernel

/-- R504, worked case: the second conversion of sensor 0 at 128.0 °C shuts the device down, SD_REC shows sensor 0 and 0xC0. -/
theorem test_thermal_shutdown : (match exec (.sensorConversion 0 0x8000 0 false) (State.reset.setSensor 0 { Sensor.reset with seen := true, atSd := 1 }) with
    | .next t => decide (t.rd THM_SD_REC = 0x1C000) && decide (t.core = .thermal)
    | _ => false) = true := by decide +kernel

/-- R501, worked case: at 118.0 °C sensor 0 begins the throttle. -/
theorem test_throttle : (match exec (.sensorConversion 0 0x7600 0 false) (State.reset.wr THM_THM_CTL 1) with
    | .next t => t.bit THM_THROT 0 && t.bit THM_THM_STAT 0
    | _ => false) = true := by decide +kernel

/-- The idle state of `Obligations.StepRunsFrontCommand`: the state at reset meets its premises. -/
theorem wit_idle : State.reset.pending = [] ∧ (∀ c : Nat, c < 6 → (State.reset.ldc c).due = []) ∧ (∀ k : Nat, k < 32 → (State.reset.link k).injHeld = []) ∧
    (∀ p : Nat, p < 3 → (State.reset.rport p).injHeld = []) ∧ State.reset.ring.startAt = none ∧ State.reset.servos = [] ∧ (∀ i : Fin 9, (State.reset.lpu i).run = none) ∧ State.reset.posted = [] :=
  ⟨rfl, fun _ _ => rfl, fun _ _ => rfl, fun _ _ => rfl, rfl, rfl, fun _ => rfl, rfl⟩

/-- A state and its next state for `Obligations.StepKeepsMemoryCanonical`. -/
theorem wit_memOk : State.reset.memOk ∧ ∃ t, step State.reset = .next t := ⟨rfl, _, rfl⟩

/-- A device that has booted. -/
def booted : State := ({ State.reset with core := .running } : State).wr GLB_BOOT_STAT 7
/-- The premises of `Obligations.RegisterAndFieldDieWrites`. -/
theorem wit_regWrite : booted.core = .running ∧ booted.fld GLB_BOOT_STAT 3 0 = 7 ∧ booted.bit 0x19004 0 = true ∧ booted.lost = false ∧ booted.bit (gdvPage 2 + 4) 0 = true ∧
    ({ booted with posted := [⟨reqNum .pcie, GDV_FAULT_CFG 2, 5, 0, none⟩] } : State).posted = [⟨reqNum .pcie, GDV_FAULT_CFG 2, 5, 0, none⟩] := by decide +kernel

/-- The premises of `Obligations.PageCommands`. -/
theorem wit_pageCmd : booted.core = .running ∧ booted.fld GLB_BOOT_STAT 3 0 = 7 ∧ bitOf (4 : W32) 2 = true ∧ booted.bit 0x5004 0 = true ∧ booted.standbyAddr 0x40004 = false ∧
    (booted.silo 0).used = 0 ∧ booted.siloAttached 0 = false := by decide +kernel

/-- The premises of `Obligations.PairsAreWholePerRequester`. -/
theorem wit_pairs : booted.core = .running ∧ booted.fld GLB_BOOT_STAT 3 0 = 7 ∧ booted.bit 0x3004 0 = true ∧
    tabGet 0 (reqKey (reqNum .pcie) APC_ENTRY_LO) ({ booted with staged := [(reqKey (reqNum .pcie) APC_ENTRY_LO, 7)] } : State).staged = 7 ∧
    tabHas (reqKey (reqNum .pcie) APC_ENTRY_LO) booted.latched = false ∧ tabHas (reqKey (reqNum .pcie) LTB_ANGLE_LO) booted.latched = false := by decide +kernel

/-- The premises of `Obligations.DieLossAndPlls`. -/
theorem wit_pll : (State.reset.wr CLK_PLL_STAT 0xFF).bit CLK_PLL_STAT 4 = true ∧ State.reset.lost = false := by decide +kernel

/-- The premises of `Obligations.ColdResetsAndPower`. -/
theorem wit_cold : booted.core = .running ∧ (State.reset.core = .held ∨ State.reset.core = .unpowered) := by decide +kernel

/-- The premises of `Obligations.WarmResetsAndWatchdog`. -/
theorem wit_warm : booted.core = .running ∧ ({ booted.wr GLB_WDT_CTL 0x101 with dt := 5000000 } : State).bit GLB_WDT_CTL 0 = true ∧
    booted.wdtT + max 1 ((booted.wr GLB_WDT_CTL 0x101).fld GLB_WDT_CTL 31 8) * 4000000 ≤ 5000000 ∧ fldOf (0xC3A50000 : W32) 31 16 = cmdKey := by decide +kernel

/-- What a boot finds, for the witnesses. -/
def find0 : BootFind := ⟨true, 0xFFFF, 0, 0, 0⟩
def run0 : BootRun := ⟨false, 0, 0, 0, find0, find0, true, [], true, true, []⟩
/-- A device whose LCS page holds a token of BLANK to DEVELOP. -/
def tokened : State := (((State.reset.wr (LCS_TOKEN 0) 0x4C435431).wr (LCS_TOKEN 1) 1).wr (LCS_TOKEN 6) 1).wr (LCS_TOKEN 30) 1
/-- The premises of `Obligations.BootAndLifeCycle`. -/
theorem wit_boot : ((booted.wr GLB_BOOT_STAT 0x2004).fld GLB_BOOT_STAT 3 0 = 4 ∧ (booted.wr GLB_BOOT_STAT 0x2004).bit GLB_BOOT_STAT 13 = true ∧ run0.trained = true) ∧
    ((booted.wr GLB_BOOT_STAT 4).bit GLB_BOOT_STAT 13 = false ∧ run0.flashOk = false) ∧ ((booted.wr GLB_BOOT_STAT 8).fld GLB_BOOT_STAT 3 0 = 8 ∧ fldOf (0xC3A50001 : W32) 31 16 = cmdKey ∧ bitOf (0xC3A50001 : W32) 0 = true) ∧
    (booted.wr LCS_LC_STATE 2).inProduce = true := by decide +kernel
theorem wit_token : tokened.lcCode (fldOf (0xC3A50001 : W32) 31 16) true = 0 := by decide +kernel

/-- A COMMIT of an AXP page of the device that has booted meets the premises of `Obligations.CommitAcceptsTheShadow`. -/
theorem wit_commit : pageOf (pageAddr 0x101) = some ⟨.axp, 0⟩ ∧ PageRef.field ⟨.axp, 0⟩ = false ∧ booted.commitHeard ⟨.axp, 0⟩ = true ∧ booted.standbyPage ⟨.axp, 0⟩ = false ∧
    hasShadow .axp = true ∧ atOnce .axp = false ∧ bitOf 1 0 = true ∧ (booted.stripCmds 0x101000).commitCheck ⟨.axp, 0⟩ (booted.pageVals ⟨.axp, 0⟩) = none ∧
    (booted.stripCmds 0x101000).mirrorsPage ⟨.axp, 0⟩ = false ∧ (booted.timeTarget 1000).isSome = true ∧
    pageOf (pageAddr 0x220) = some ⟨.ldc, 0⟩ ∧ PageRef.field ⟨.ldc, 0⟩ = true := by decide +kernel
theorem wit_commitAt : ((booted.keepAt ⟨.axp, 0⟩ 0x400003E8).stripCmds 0x101000).commitCheck ⟨.axp, 0⟩ ((booted.keepAt ⟨.axp, 0⟩ 0x400003E8).pageVals ⟨.axp, 0⟩) = none ∧
    ((booted.keepAt ⟨.axp, 0⟩ 0x400003E8).stripCmds 0x101000).mirrorsPage ⟨.axp, 0⟩ = false := by decide +kernel

/-- A due set of the page of the scheduler. -/
def dueSet : Commit := ⟨0x9000, 1, [(ASC_LANE_CFG 0, 1)], .nextApply⟩
theorem wit_commitApply : pageOf (pageAddr 0x9) = some ⟨.asc, 0⟩ ∧ ({ booted with commits := [dueSet] } : State).commitOf 0x9000 = some dueSet ∧
    (dueSet.vals.map fun e => e.1).Nodup ∧ (dueSet.vals.all fun e => shadowRow 0x9000 e.1) = true ∧ ({ booted with commits := [dueSet] } : State).commitDue ⟨.asc, 0⟩ dueSet = true ∧
    ({ booted with commits := [{ dueSet with due := .atTime (10 ^ 12) }] } : State).commitDue ⟨.asc, 0⟩ { dueSet with due := .atTime (10 ^ 12) } = false := by decide +kernel

/-- A state with axis 5 in state `st`. -/
def axisIn (st : AxState) : State := booted.setAxis 5 { Axis.reset with st := st }
theorem wit_axisReq : ((axisIn .ready).axis 5).st = .ready ∧ ((axisIn .opened).axis 5).st = .opened ∧ ((axisIn .closed).axis 5).st = .closed ∧
    (axisIn .closed).ldcOfSlot 5 = none ∧ ((axisIn .fault).axis 5).st = .fault ∧ (axisIn .fault).blocked 5 = false ∧ (axisIn .fault).ldcOfSlot 5 = none ∧
    ((axisIn .closed).wrBit (AXL_LOOP_STAT 5) 15 true).holdLatched 5 = true ∧ ((axisIn .closed).wrBit (AXL_LOOP_STAT 5) 15 true).blocked 5 = false ∧
    ({ axisIn .fault with ldcSlot := [(2, 5)] } : State).blocked 5 = false ∧ ({ axisIn .fault with ldcSlot := [(2, 5)] } : State).ldcOfSlot 5 = some 2 := by decide +kernel

/-- Axes that meet the premises of `Obligations.AxisEnableAndSample`: a live READY axis on link 0, and one that has stood still while stopping. -/
def axisLive : State := ((((axisIn .ready).setAct (SLK_BIND 0) 0x45).wrFld (SLK_LINK_STAT 0) 2 0 4).wrBit (SLK_LINK_STAT 0) 7 true)
def axisStopped (k : MoveKind) : State := { booted.setAxis 5 { Axis.reset with st := .stopping, kind := k, stillSince := some 0 } with dt := 10 ^ 9 }
theorem wit_axisEnable : (axisLive.axis 5).st = .ready ∧ axisLive.slotLive 5 = true ∧ axisLive.portOk 5 = true ∧ axisLive.ldcOfSlot 5 = none ∧ axisLive.isStep 5 = false ∧
    (axisLive.setAct (AXP_STEP_CTL 5) 1).isStep 5 = true ∧ (axisLive.setAct (AXP_STEP_CTL 5) 1).slotLive 5 = true ∧
    (({ axisIn .ready with ldcSlot := [(2, 5)] } : State).axis 5).st = .ready ∧ ({ axisIn .ready with ldcSlot := [(2, 5)] } : State).ldcOfSlot 5 = some 2 ∧
    ({ axisIn .ready with ldcSlot := [(2, 5)] } : State).portOk 5 = true := by decide +kernel
theorem wit_axisStill : ((axisStopped .stop).axis 5).st = .stopping ∧ (axisStopped .stop).standing 5 = true ∧ ((axisStopped .stop).gear 5).phase = .idle ∧
    ((axisStopped .stop).axis 5).stillSince = some 0 ∧ 0 + (axisStopped .stop).fld (AXP_STILL_TIME 5) 23 0 * 4000 ≤ (axisStopped .stop).dt ∧
    (booted.setAxis 5 { Axis.reset with plan := openPlan 0 ⟨0, 2 ^ 64, 0⟩ [] (2 ^ 64) }).standing 5 = false := by decide +kernel
/-- A slot of LPU 0 that has taken no sample stands on every stagger; one whose neighbour sampled at the same instant does not. -/
theorem wit_stagger : State.reset.onStagger 5 = true := by decide +kernel

/-- LPU 0 carries slot 5 at position 0, on link 0; its run is ready. -/
def loopState (x : Servo) : State := (((booted.setAct (LPU_ASSIGN 0 0) 0xFF85).setAct (SLK_BIND 0) 0x45).setServo 5 x).setAxis 5 { Axis.reset with st := .closed, pwm := true }
theorem wit_loopRun : (loopState { Servo.reset with sampleT := some 0, ready := true, judged := false }).roleOf 0 ≠ 4 ∧ (loopState { Servo.reset with sampleT := some 0, ready := true, judged := false }).roleOf 0 ≠ 5 ∧
    ((loopState { Servo.reset with sampleT := some 0, ready := true, judged := false }).lpu 0).halted = false ∧ (loopState { Servo.reset with sampleT := some 0, ready := true, judged := false }).lpuRuns 0 = false ∧
    (loopState { Servo.reset with sampleT := some 0, ready := true, judged := false }).firstReady 0 = some (0, 5) ∧
    (loopState { Servo.reset with sampleT := some 0, ready := true, judged := false }).progOf 0 0 5 ≤ 6 ∧
    6 < ((loopState { Servo.reset with sampleT := some 0, ready := true, judged := false }).setAct (LPU_ASSIGN 0 0) 0x0985).progOf 0 0 5 ∧
    ((loopState { Servo.reset with sampleT := some 0, ready := true, judged := false }).setAct (LPU_ASSIGN 0 0) 0x0985).firstReady 0 = some (0, 5) := by decide +kernel
/-- The same slot at its apply instant, its run finished or not yet started. -/
def applyState (st : Bool) : State := { loopState { Servo.reset with sampleT := some 0, ready := true, started := st, doneAt := some 10, judged := false } with dt := 10 ^ 9 }
theorem wit_applyInstant : ((applyState true).servo 5).sampleT = some 0 ∧ ((applyState true).servo 5).judged = false ∧ (applyState true).asComputed 5 = false ∧ (applyState true).isStage 5 = true ∧
    0 + (applyState true).applyOfs 5 ≤ (applyState true).dt ∧ ((applyState true).axis 5).pwm = true ∧ ((applyState true).servo 5).started = true ∧
    ((applyState true).servo 5).inProgress (applyState true).dt = false ∧ ((applyState false).servo 5).started = false ∧ booted.standbyAddr (AXL_IQ_EXT 5) = false := by decide +kernel

/-- Slot 5 with a command on its repetitive table, on LPU 0. -/
def rcState (c : Nat) : State := ((loopState { Servo.reset with rcCmd := c }).setAct (AXL_RC_CTL 5) 5).setAxis 5 { Axis.reset with st := .ready }
/-- The same with an image of one bin in MRAM, which a LOAD then reads. -/
def rcSaved : State := { (((rcState 2).setAct (AXL_RC_CTL 5) 0).wrBit (AXL_RC_STAT 5) 8 true) with
  mem := [(65011712, 0x01), (65011714, 0x43), (65011715, 0x52), (65011716, 0x05), (65011740, 0xA5), (65011741, 0x8B), (65011742, 0xA4), (65011743, 0x85)] }
theorem wit_rc : (rcState 0).bit (AXL_RC_STAT 5) 8 = false ∧ ((rcState 0).axis 5).st = .ready ∧ (rcState 0).standbyAddr (AXL_RC_CMD 5) = false ∧ (rcState 3).mem = [] ∧ ((rcState 3).servo 5).rcCmd = 3 ∧
    (rcState 1).rcInside 5 ((rcState 1).rcBins 5) = true ∧ rcSaved.bit (AXL_RC_STAT 5) 8 = true ∧ (rcSaved.servo 5).rcCmd = 2 ∧ rcSaved.rcAddr 5 ≠ 0 ∧ rcSaved.rcInside 5 (rcSaved.rcBins 5) = true ∧ rcSaved.memNat (rcSaved.rcImage 5) 4 = 0x52430001 ∧
    rcSaved.memNat (rcSaved.rcImage 5 + 5) 1 = rcSaved.actFld (AXL_RC_CTL 5) 3 0 ∧ rcSaved.memNat (rcSaved.rcImage 5 + 6) 1 = rcSaved.actFld (AXL_RC_CTL 5) 4 4 ∧ rcSaved.actFld (AXL_RC_CTL 5) 3 0 ≤ 12 := by decide +kernel
theorem wit_rcCrc : crc32 (rcSaved.bytesAt (rcSaved.rcImage 5) 28 ++ rcSaved.bytesAt (rcSaved.rcImage 5 + 32) (4 * rcSaved.rcBins 5)) = rcSaved.memNat (rcSaved.rcImage 5 + 28) 4 := by decide +kernel
theorem wit_coef : (((loopState { Servo.reset with converted := false }).wrBit (AXL_LOOP_STAT 5) 3 true)).bit (AXL_LOOP_STAT 5) 3 = true ∧ ((loopState Servo.reset).axis 5).st.idle = false ∧
    (({ loopState Servo.reset with commits := [⟨axlPage 5, 1, [], .nextApply⟩] } : State).commitOf (axlPage 5)).isSome = true := by decide +kernel

/-- The device that has booted meets the premises of `Obligations.LineCommandsAndSteps`; the line moves at 1 cy/s. -/
def lineState (t : Nat) : State := { booted with dt := t, ltb := { Ltb.reset with line := ⟨0, ⟨0, 2 ^ 64, 0⟩, 0⟩ } }
theorem wit_line : (lineState 4096).standbyAddr LTB_VMG_CMD = false ∧ (lineState 4096).lineSrc = 0 ∧ ((lineState 4096).wrFld LTB_STATUS 4 3 3).lineSrc ≠ 0 ∧ (lineState 4095).dt % 4096 ≠ 0 ∧
    (lineState 4096).dt % 4096 = 0 ∧ (lineState 4096).ltb.ownStop = false ∧ (lineState 4096).ltb.plan = none ∧ (lineState 4096).ltb.cmds = [] ∧ (lineState 4096).commits = [] ∧
    (lineState 4096).ascEnts = [] ∧ ({ lineState 4096 with ltb := { Ltb.reset with cmds := [.start, .stop] } } : State).ltb.ownStop = false := by decide +kernel

/-- A node whose last frame carried a valid line state: STATE 2, line at rest at angle 0. -/
def lineArea : List Byte := [6] ++ List.replicate 51 0 ++ [1, 0, 100, 0, 7, 0, 0, 0] ++ leBytes 4 3499353751
def lineGot (st : W32) : State := ({ booted with ring := { Ring.reset with lineState := some (7, lineArea) } } : State).wr LTB_STATUS st
theorem wit_lineGot : (lineGot 0x18).ring.lineState = some (7, lineArea) ∧ byteOf lineArea 0 / 4 % 2 = 1 ∧
    contOk ((lineGot 0x18).ringId ^^^ 0x03000000) (leBytes 1 (byteOf lineArea 0 - 8 * (byteOf lineArea 0 / 8 % 2)) ++ cutAt lineArea 1 51) (lineGot 0x18).ring.lineCont.seq (lineGot 0x18).wdMax (cutAt lineArea 52 12) = true ∧
    contDataOf (cutAt lineArea 52 12) = (7 + 2 ^ 32 - byteOf lineArea 0 / 8 % 2) % 2 ^ 32 ∧ (lineGot 0x18).lineSrc = 3 ∧ (lineGot 0x18).bit LTB_STATUS 8 = false ∧ (lineGot 0x18).bit LTB_STATUS 9 = false ∧
    (lineGot 0).lineSrc ≠ 3 ∧ State.reset.ring.lineState = none := by decide +kernel
theorem wit_lineLoss : (lineGot 0x18).ltb.waitFirst = false ∧ min 8 ((lineGot 0x18).fld LTB_STATUS 19 16 + 1) < (lineGot 0x18).fld LTB_LOSS_CTL 3 0 ∧
    (lineGot 0x80018).fld LTB_LOSS_CTL 3 0 ≤ min 8 ((lineGot 0x80018).fld LTB_STATUS 19 16 + 1) ∧ (lineGot 0x80018).lineSrc = 3 ∧ (lineGot 0x80018).gears = [] ∧
    ({ lineGot 0 with ltb := { Ltb.reset with slew := some (5, 0, 0) } } : State).ltb.slew = some (5, 0, 0) ∧ (lineGot 0x118).bit LTB_STATUS 8 = true ∧ (lineGot 0x118).fld LTB_STATUS 2 0 = 0 ∧
    (lineGot 0x118).lineSrc = 3 ∧ (lineGot 0x100).lineSrc = 0 ∧ (lineGot 0x100).standbyAddr LTB_LOSS_CTL = false ∧ (lineGot 0x2000).bit LTB_STATUS 13 = true ∧ (lineGot 0x2000).mayStep = true ∧
    (lineGot 0x2000).ringState ≠ 4 := by decide +kernel

/-- The scheduler with lane 0 over entries 0 to 15 on the line, entry 3 written with word 2 `v`; and with entry 3 armed as `x`. -/
def ascState (v : Byte) : State := { (booted.setAct (ASC_LANE_CFG 0) 1).setAct (ASC_LANE_WIN 0) 0x100000 with mem := [(0x027F0038, v), (0x027F0039, 1)], ascArms := [3] }
def ascArmed (x : AscEnt) : State := { (ascState 12).wr ASC_CTL 1 with ascEnts := [(3, x)] }
def ascEnt (w2 : W32) (slot : Nat) (fz : Bool) : AscEnt := ⟨0, w2, some slot, false, fz, false, false, false, false, none⟩
theorem wit_ascArm : (ascState 12).ent 3 = none ∧ Memory.wf (ascState 12).mem = true ∧ (ascState 12).dt % 4096 = 0 ∧ (ascState 12).ascTook ≠ some (ascState 12).dt ∧ (ascState 12).bit ASC_CTL 0 = false ∧
    (ascState 12).laneOf 3 = some 0 ∧ (ascState 12).armInvalid 3 (withFld ((ascState 12).memWord (entryAddr 3 2)) 12 9 0) = false ∧
    (ascState 0).armInvalid 3 (withFld ((ascState 0).memWord (entryAddr 3 2)) 12 9 0) = true ∧ ({ ascState 12 with dt := 1 } : State).dt % 4096 ≠ 0 ∧ (ascState 12).standbyAddr (0x027F0000 + 16 * 3 + 8) = false := by decide +kernel
theorem wit_ascFire : (ascArmed (ascEnt 12 9000 false)).ent 3 = some (ascEnt 12 9000 false) ∧ (ascArmed (ascEnt 12 9000 false)).dt + 400 < 9000 ∧ (ascEnt 12 0 true).frozen = true ∧
    (ascArmed (ascEnt 12 0 true)).ascDue = some (3, ascEnt 12 0 true) ∧ (ascEnt 12 0 true).recur = false ∧ (ascEnt 12 0 true).action = 12 ∧ (ascEnt 0x70001 0 true).action = 1 ∧
    (ascEnt 0x70001 0 true).arg = 7 ∧ (ascArmed (ascEnt 0x70001 0 true)).fcoLock / 2 ^ 7 % 2 = 0 ∧ (ascEnt 0x70002 0 true).action = 2 ∧ (ascEnt 12 0 true).full = false := by decide +kernel

/-- Pin 2 enabled for rising edges into its silo, for slot 5; a pulse that has ended on pin 4; a record whose axis is never sampled. -/
def fliState (c : W32) : State := { booted.wr (ASC_FLI_CTL 2) c with dt := 10 ^ 9, fcoEnd := [(4, 9), (5, 10 ^ 10)] }
def fliRec2 : FliRec := ⟨2, false, 0, 0, some 1, 5, true⟩
theorem wit_fastPins : (fliState 0xB003).standbyAddr ASC_FCO_SW_SET = false ∧ (fliState 0xB003).standbyAddr ASC_FCO_SW_CLR = false ∧ (fliState 0xB003).fcoLock / 2 ^ 4 % 2 = 0 ∧
    (fliState 0xB003).bit (ASC_FLI_CTL 2) 0 = true ∧ (true != (fliState 0xB003).bit (ASC_FLI_CTL 2) 3) ≠ (fliState 0xB003).bit ASC_FLI_LVL 2 ∧
    selects ((fliState 0xB003).rd (ASC_FLI_CTL 2)) (true != (fliState 0xB003).bit (ASC_FLI_CTL 2) 3) = true ∧ ((fliState 0xB003).fliPin 2).last = none ∧
    ((fliState 0xB003).axis ((fliState 0xB003).fld (ASC_FLI_CTL 2) 18 13)).nSamples = 0 ∧ selects ((fliState 0xB001).rd (ASC_FLI_CTL 2)) (true != (fliState 0xB001).bit (ASC_FLI_CTL 2) 3) = false ∧
    (fliState 0xB001).homesOn 2 true = [] ∧ (fliState 0xB003).posAt 5 0 = some (0, true) ∧ (fliState 0xB003).homesOn 2 false = [] ∧ (fliState 0xB003).winsOf 2 = [] ∧
    ((fliState 0xB003).silo 66).used ≠ (fliState 0xB003).siloDepth 66 := by decide +kernel

/-- Slot 5 closed, its gear on the line at ratio 1; the line moves at 1 cy/s; and the same coupled as `g`. -/
def gearLine (g : Gear) (st : AxState) : State := { ((lineState 4096).setAct (AXG_RATIO_NUM 5) 1).setAct (AXG_RATIO_DEN 5) 1 with axes := [(5, { Axis.reset with st := st })], gears := [(5, g)] }
def gearSync : Gear := { Gear.reset with phase := .sync, law := { GearLaw.none with ctl := 0x1000 } }
theorem wit_gear : (gearLine Gear.reset .closed).engageRefusal 5 ((gearLine Gear.reset .closed).lawOf 5 0) 0 0 = 0 ∧ (gearLine Gear.reset .closed).actFld (AXG_GEAR_CTL 5) 31 24 = 0 ∧
    (gearLine Gear.reset .closed).engMode 5 = 0 ∧ ((gearLine Gear.reset .closed).setAct (AXG_GEAR_CTL 5) 0x4000).engMode 5 = 1 ∧
    (((gearLine Gear.reset .closed).setAct (AXG_GEAR_CTL 5) 0x4000).setAct (AXG_ENG_AT_LO 5) 0x40000000).masterPredict (((gearLine Gear.reset .closed).setAct (AXG_GEAR_CTL 5) 0x4000).lawOf 5 0)
      ((((gearLine Gear.reset .closed).setAct (AXG_GEAR_CTL 5) 0x4000).setAct (AXG_ENG_AT_LO 5) 0x40000000).act64 (AXG_ENG_AT_LO 5)) ≠ .behind ∧
    (gearLine Gear.reset .ready).engageRefusal 5 ((gearLine Gear.reset .ready).lawOf 5 0) 0 0 = 0 + 1 ∧ (gearLine gearSync .following).follows 5 = true ∧ (gearLine gearSync .following).disMode 5 = 0 ∧
    (((gearLine gearSync .following).setAct (AXG_GEAR_CTL 5) 0x10000)).disMode 5 = 1 ∧ ((gearLine gearSync .following).gear 5).law.isCam = true ∧
    ({ gearLine gearSync .following with mem := [(0x02400007, 1)] } : State).camReady 0 = true := by decide +kernel
theorem wit_gearWait : ((gearLine { Gear.reset with wait := some (GearLaw.none, 1, 0, 0, true) } .closed).gear 5).wait = some (GearLaw.none, 1, 0, 0, true) ∧
    (gearLine Gear.reset .closed).masterCrossed GearLaw.none 0 true = true ∧ (gearLine Gear.reset .closed).masterCrossed GearLaw.none 0 false = false ∧ (gearLine Gear.reset .closed).engageRefusal 5 { GearLaw.none with den := 1 } 1 0 = 0 ∧ (gearLine Gear.reset .closed).engageRefusal 5 { GearLaw.none with den := 0 } 1 0 ≠ 0 ∧
    ((gearLine gearSync .following).axis 5).lineRamp = false ∧ (((gearLine Gear.reset .closed).wr (AXP_VLIM 5) 0x7FFFFFFF)).rampRefusal 5 { GearLaw.none with num := 1 } (((gearLine Gear.reset .closed).wr (AXP_VLIM 5) 0x7FFFFFFF).matchRamp 5 { GearLaw.none with num := 1 } 4294967296) = 0 ∧
    ((gearLine gearSync .following).gear 5).law.msrc = 0 ∧ (gearLine gearSync .following).masterCrossed gearSync.law 0 true = true ∧
    (((gearLine gearSync .following).setAct (AXG_GEAR_CTL 5) 0x10000).setAct (AXG_DIS_AT_LO 5) 0x40000000).masterPredict gearSync.law (((gearLine gearSync .following).setAct (AXG_DIS_AT_LO 5) 0x40000000).act64 (AXG_DIS_AT_LO 5)) ≠ .behind := by decide +kernel

/-- A descriptor under check, with no knots; registration on an axis that follows the line and on one that follows axis 1. -/
theorem wit_cam : Memory.wf [((0x02400007 : Nat), (4 : Byte))] = true ∧ ({ booted with mem := [(0x02400007, 4)] } : State).camBusy 0 = true ∧ booted.standbyAddr (camDescAddr 0 + 4) = false ∧
    bitOf (0x2000000 : W32) 25 = true ∧ booted.standbyAddr (AXG_REG_CTL 5) = false ∧ booted.autoAllowed 5 0 = true ∧ (booted.setAct (AXG_GEAR_CTL 5) 1).autoAllowed 5 0 = false := by decide +kernel

/-- Slot 5 closed, limits set, a target at 1 turn, a MOVE segment in its silo; a switch input for homing. -/
def moveState (home : W32) : State := { ((((((axisIn .closed).setAct (AXP_VMAX 5) 0x10000).wr (AXP_VLIM 5) 0x100000).setAct (AXP_ACC 5) 0x100).setAct (AXP_DEC 5) 0x100).setAct (AXP_TGT_HI 5) 1).setAct (AXP_HOME_CTL 5) home with
  silos := [(5, { Silo.reset with wr := 1 })], mem := [(State.reset.siloAddr 5 0 + 24, 2)] }
theorem wit_moves : (moveState 0).startRefusal 5 0 = 0 ∧ (moveState 0).moveTgt 5 ≠ 0 ∧ (moveState 0).startRefusal 5 1 = 0 ∧ (moveState 0).startRefusal 5 2 = 0 ∧ (moveState 0).limsOn 5 = false ∧
    ((((moveState 0).setAct (AXP_LIM_CTL 5) 1).wr (AXP_PROF_STAT 5) 0x80).setAct (AXP_VEL_TGT 5) 5).limsOn 5 = true ∧ ((((moveState 0).setAct (AXP_LIM_CTL 5) 1).wr (AXP_PROF_STAT 5) 0x80).setAct (AXP_VEL_TGT 5) 5).velTgt 5 ≠ 0 ∧
    (moveState 0).startRefusal 5 3 = 0 ∧ ((moveState 0).axis 5).kind = .idle ∧ ((moveState 0).silo 5).avail ≠ 0 ∧
    (moveState 0).segInvalid 5 (segOf ((moveState 0).siloHead 5)) ((moveState 0).cmdKin 5 (moveState 0).dt).p = false := by decide +kernel
theorem wit_homes : (moveState 0).startRefusal 5 4 = 0 ∧ (moveState 0x12).startRefusal 5 4 = 0 ∧ (moveState 0x12).homeMethod 5 = 2 ∧ (moveState 8).startRefusal 5 4 = 0 ∧ (moveState 8).homeMethod 5 = 8 ∧
    (moveState 0).homeMethod 5 = 0 ∧ (moveState 0).actBit (AXP_HOME_CTL 5) 10 = false ∧ (axisIn .ready).startRefusal 5 0 = 0 + 1 ∧
    ((moveState 0).setAct (AXP_TGT_HI 5) 0).startRefusal 5 1 = 0 ∧ ((moveState 0).setAct (AXP_TGT_HI 5) 0).moveTgt 5 = 0 := by decide +kernel

/-- A held stream with a segment waiting, and a step axis with a step due. -/
def heldState : State := { (axisIn .closed).setAxis 5 { Axis.reset with st := .moving, kind := .starve, plan := restPlan 0 0 } with silos := [(5, { Silo.reset with wr := 1 })] }
def stepState (t0 : Nat) : State := (booted.setAct (AXP_STEP_CTL 5) 1).setAxis 5 { Axis.reset with st := .closed, pwm := true, stepNext := some t0 }
theorem wit_stops : (heldState.axis 5).st = .moving ∧ heldState.holdLatched 5 = false ∧ (heldState.axis 5).kind = .starve ∧ (heldState.axis 5).plan.ended heldState.dt = true ∧ (heldState.silo 5).avail ≠ 0 ∧
    ((axisIn .closed).axis 5).seg = none ∧ ((axisIn .closed).axis 5).st ≠ .moving ∧ ((axisIn .closed).axis 5).st ≠ .following ∧ ((axisIn .closed).gear 5).wait = none ∧ (stepState 0).isStep 5 = true ∧ ((stepState 0).axis 5).stepNext = some 0 ∧
    ((stepState 0).axis 5).pwm = true ∧ ((stepState 0).axis 5).newLims = none ∧ (stepState 9).dt < 9 := by decide +kernel

/-- An LPU with values in its registers, for the statements of the operations: each holds on it and on an LPU at reset. -/
def lpuState (x : Lpu) : State := { booted with lpus := [(2, x)] }
theorem wit_lpuBundle : ((lpuState Lpu.reset).lpu 2).d.length = 64 ∧ ((lpuState Lpu.reset).lpu 2).loops = [] ∧ ((lpuState { Lpu.reset with pend := [⟨1, 0, 3, .d 5, 7⟩] }).lpu 2).pend = [⟨1, 0, 3, .d 5, 7⟩] ∧
    ((lpuState { Lpu.reset with pend := [⟨2, 0, 3, .nz, 1⟩] }).lpu 2).cyc + 2 ≤ 2 ∧ ((lpuState { Lpu.reset with loops := [⟨0, 0, 2, 0, true, 1, 1⟩] }).lpu 2).pc = 0 := by decide +kernel

theorem wit_lpuArith : ((lpuState Lpu.reset).lpu 2).csh 0 = some 0 ∧ ((lpuState Lpu.reset).lpu 2).csh 8 = some 8 ∧ ((lpuState Lpu.reset).lpu 2).csh 16 = some ((lpuState Lpu.reset).lpu 2).bs ∧
    0 ≤ signedOf 6 (((lpuState Lpu.reset).lpu 2).dreg 1).toNat ∧ signedOf 6 (((lpuState { Lpu.reset with d := List.replicate 64 63 }).lpu 2).dreg 1).toNat < 0 ∧
    signedOf 6 (((lpuState { Lpu.reset with d := List.replicate 64 32 }).lpu 2).dreg 1).toNat = -32 := by decide +kernel

theorem wit_lpuMul : ((2 : Fin 64).val) % 2 = 0 ∧ (2 : Fin 64).val < 63 ∧ ((lpuState Lpu.reset).lpu 2).csh 31 = some (-1) ∧ ((lpuState Lpu.reset).lpu 2).csh 3 = some 3 ∧ (3 : Fin 64).val % 2 = 1 ∧
    ((lpuState Lpu.reset).lpu 2).run = none ∧ (63 : Fin 64).val = 63 := by decide +kernel

theorem wit_lpuFun : ((lpuState { Lpu.reset with d := List.replicate 64 7 }).lpu 2).q 1 ≠ 0 ∧ 0 < ((lpuState { Lpu.reset with d := List.replicate 64 7 }).lpu 2).q 1 ∧ ((lpuState Lpu.reset).lpu 2).q 1 = 0 ∧
    (((lpuState { Lpu.reset with d := List.replicate 64 7 }).lpuFu 2 1 4).lpu 2).q 1 ≠ 0 ∧ (((lpuState Lpu.reset).lpuFu 2 1 4).lpu 2).q 1 = 0 ∧ ((lpuState { Lpu.reset with d := List.replicate 64 0xFFFFFFFF }).lpu 2).q 1 ≤ 0 := by decide +kernel

theorem wit_lpuCtl : ((lpuState Lpu.reset).lpu 2).stack.length < 8 ∧ ((lpuState { Lpu.reset with stack := [7] }).lpu 2).stack = [7] ∧ ((lpuState { Lpu.reset with stack := List.replicate 8 0 }).lpu 2).stack.length = 8 ∧
    ((lpuState Lpu.reset).lpu 2).pc ≠ (4 : Fin 4096) ∧ 0 < (((lpuState { Lpu.reset with d := List.replicate 64 9 }).lpu 2).dreg 1).toNat % 4096 ∧
    ((lpuState { Lpu.reset with loops := List.replicate 3 ⟨1, 2, 3, 0, false, 1, 1⟩ }).lpu 2).loops.length = 3 ∧ ((lpuState { Lpu.reset with grow := true, bs := -8 }).lpu 2).bs = -8 ∧
    ((lpuState { Lpu.reset with run := some (0, 9, 0) }).lpu 2).run = some (0, 9, 0) ∧ ((lpuState { Lpu.reset with run := some (0, 9, 0) }).setAct (LPU_ASSIGN 2 0) 0x985).slotAt 2 0 = some (5 : Fin 64).val := by decide +kernel

/-- An LPU whose first address register holds `a`. -/
def busState (a : Nat) (l : List LoopLvl) : State := lpuState { Lpu.reset with a := a :: List.replicate 7 0, loops := l }
theorem wit_lpuBus : Memory.wf (busState 0x2000 []).mem = true ∧ ((busState 0x2000 []).lpu 2).a.getD 0 0 = 0x2000 ∧ inBus false 0x2000 = true ∧ inBus true 0x6000 = true ∧ inBus false 0x5FFF = true ∧ inBus true 0xFFFF = true ∧
    ((busState 0x2000 []).lpu 2).suppressed false = false ∧ ((busState 0x2000 []).lpu 2).suppressed true = false ∧ inBus false (((busState 0x2000 []).lpu 2).wrapA 0 (0x2000 + 1)) = true ∧
    ((busState 0x2000 []).lpu 2).wrapA 0 (0x2000 + 1) = 0x2000 + 1 ∧ ((busState 0x2000 [⟨0, 0, 4, 0, true, 1, 2⟩]).lpu 2).suppressed true = true ∧ ((busState 0x2000 [⟨0, 0, 4, 3, true, 1, 2⟩]).lpu 2).suppressed false = true ∧
    4 * ((busState 0 []).lpu 2).wrapA 0 (0 + 1) < 0x8000 ∧ inBus false 0 = false ∧ ((busState 0 []).lpu 2).suppressed false = false ∧ ((busState 0 []).lpu 2).run = none := by decide +kernel

/-- LPU 8 is the spare, LPU 0 carries slot 5; the fallow rotation is enabled. -/
def schedState (r : Nat) : State := { (((booted.setAct (LPU_ASSIGN 0 0) 0xFF85).setAct (LPU_ASSIGN 0 1) 0xFF86).wr (LPU_ROT_CTL 0) 0x101).wrFld (LPU_ROLE 3) 2 0 r with dt := 4000000 }
theorem wit_sched : (schedState 0).loopsMove = false ∧ (schedState 0).rotating = false ∧ (schedState 4).rotating = true ∧ (schedState 0).rotEnabled = true ∧ (schedState 0).mayRotate = true ∧
    (schedState 0).rotTarget = some 0 ∧ (schedState 0).spareLpu = some 8 ∧ (schedState 0).usedPositions 0 ≠ [] ∧ (schedState 0).sched.lastRot + (schedState 0).rotInterval ≤ (schedState 0).dt ∧
    (schedState 0).bit (LPU_SCHED_STAT 0) 17 = false ∧ ({ schedState 0 with dt := 5 } : State).dt < (schedState 0).sched.lastRot + (schedState 0).rotInterval ∧ (schedState 4).roleOf 3 = 4 ∧ (schedState 0).roleOf 3 ≠ 4 ∧
    (schedState 0).lpuRetired 3 = false ∧ (schedState 0).roleOf 3 ≠ 1 ∧ (schedState 0).lpuRetired 8 = false ∧ (schedState 0).roleOf 8 = 1 ∧ (schedState 0).roleOf 0 = 0 ∧ ((schedState 0).lpuSlots 0).all (fun n => !((schedState 0).servo n).inProgress (schedState 0).dt) = true ∧ (schedState 0).inProduce = false ∧
    ((schedState 0).wr LCS_LC_STATE 2).inProduce = true ∧ (schedState 0).fld (trumpRegs 2 0 1).2.1 31 16 ≠ 0 ∧ ((schedState 0).servo 5).inProgress 4000000 = false := by decide +kernel
/-- A library of one program of one bundle, unsigned, at the start of the shared SRAM. -/
def libState : State := { (booted.wr (LPU_LIB_ADDR 0) 0x02000000) with mem := [(0x02000000, 0x42), (0x02000001, 0x4C), (0x02000002, 0x50), (0x02000003, 0x4C), (0x02000004, 1), (0x02000006, 1), (0x02000008, 1)] ++ [(0x0200000C, 0x4D), (0x0200000D, 0x58), (0x0200000E, 0x42), (0x0200000F, 0xFB)] }
theorem wit_lib : libState.libOk (libState.rd (LPU_LIB_ADDR 0)).toNat true = true := by decide +kernel

/-- Link 5 in link state `n`, its injection on the uplink. -/
def linkIn (n : Nat) : State := (State.reset.wrFld (SLK_LINK_STAT 5) 2 0 n).wrBit (slkPage 5 + 0x02C) 3 true
theorem wit_link : (linkIn 1).linkState 5 = 1 ∧ 2 ≤ (linkIn 4).linkState 5 ∧ (linkIn 4).sends 5 = true ∧ (linkIn 4).dlDue 5 = true ∧ ((linkIn 4).link 5).resend = false ∧ (({ linkIn 4 with dt := 100 } : State).setServo 5 { (linkIn 4).servo 5 with sampleT := some 0 }).dlDue 5 = false ∧ (linkIn 4).bit (slkPage 5 + 0x02C) 3 = true ∧ (linkIn 0).sends 5 = false ∧
    State.reset.linkState 5 < 2 ∧ bitOf (0xFF01 : W32) 0 = true ∧ bitOf (0 : W32) 0 = false := by decide +kernel

/-- Link 5 UP, its injection on the downlink, with a link record `x`. -/
def linkUp (x : Link) : State := (State.reset.wrFld (SLK_LINK_STAT 5) 2 0 4).setLink 5 x
/-- A frame of 62 bytes of layout 1, all else zero, with its CRC or a bad one. -/
def ulFrame (bad : Nat) : List Byte := (1 :: 7 :: List.replicate 56 0) ++ leBytes 4 (crc32 (1 :: 7 :: List.replicate 56 0) + bad)
theorem wit_ulFrame : (linkUp Link.reset).bit (slkPage 5 + 0x02C) 3 = false ∧ 2 ≤ (linkUp Link.reset).linkState 5 ∧ (ulFrame 1).length = 62 ∧ ((ulFrame 1).getD 0 0).toNat / 32 % 2 = 0 ∧
    ((ulFrame 1).getD 0 0).toNat % 16 = 1 ∧ leNat ((ulFrame 1).drop 58) ≠ crc32 ((ulFrame 1).take 58) ∧ leNat ((ulFrame 0).drop 58) = crc32 ((ulFrame 0).take 58) ∧
    ((linkUp Link.reset).link 5).ulSeq = none ∧ newer16 (leNat (cutAt (ulFrame 0) 1 2)) 7 = false ∧ newer16 (leNat (cutAt (ulFrame 0) 1 2)) 6 = true ∧ leNat (cutAt [1, 7, 0, 0, 255, 255, 255] 4 3) = 0xFFFFFF := by decide +kernel
theorem wit_linkMsg : (linkUp { Link.reset with waiting := [(0, 0, false), (1, 0, false)] }).dt = 0 ∧ (linkUp Link.reset).fld (SLK_LINK_STAT 5) 27 24 + 1 = max 1 (((linkUp Link.reset).wr (SLK_LINK_CTL 5) 0x100).fld (SLK_LINK_CTL 5) 11 8) ∧
    ((linkUp Link.reset).wr (SLK_LINK_CTL 5) 0x300).fld (SLK_LINK_CTL 5) 11 8 = 3 ∧ State.reset.bit (SLK_MSG_TX 5) 17 = false ∧ (State.reset.wr (SLK_MSG_TX 5) 0x20000).bit (SLK_MSG_TX 5) 17 = true ∧
    (((linkUp Link.reset).wr (SLK_MSG_CTL 5) 0x100).pushMsg 0 5 0 [1, 2, 3, 4]).isSome = true ∧ State.reset.bit (slkPage 5 + 4) 2 = false ∧
    (State.reset.wr (slkPage 5 + 4) 4).bit (slkPage 5 + 4) 2 = true ∧ State.reset.fld (SLK_INJ_ARG 5) 15 8 ≤ 77 := by decide +kernel

/-- LDC channel 1 with channel record `x` and PWM_CTL in force `v`. -/
def ldcIn (x : Ldc) (v : W32) (t : Nat) : State := { ((((State.reset.setAct (LDC_PWM_CTL 1) v).setAct (LDC_PERIOD 1) 20000).wrFld (LDC_COM_STAT 1) 2 0 2).wr (GDV_DRV_CTL 1) 1).wr (GDV_FLT_STAT 1) 0x2000 with dt := t }.setLdc 1 x
theorem wit_pwm : (ldcIn Ldc.reset 1 0).bit (GDV_FLT_STAT 1) 12 = false ∧ ((State.reset.wr (GDV_FLT_STAT 1) 0x1000).bit (GDV_FLT_STAT 1) 12) = true ∧
    (ldcIn { Ldc.reset with running := true } 1 20000).nextReload 1 = (true, 20000) ∧ (ldcIn { Ldc.reset with running := true, midDone := true } 1 20000).nextReload 1 = (false, 40000) ∧ (ldcIn { Ldc.reset with running := true, midDone := true } 17 20000).nextReload 1 = (false, 40000) ∧ (ldcIn Ldc.reset 1 0).commitOf (ldcPage 1) = none ∧
    (ldcIn Ldc.reset 1 0).actBit (LDC_PWM_CTL 1) 0 = true ∧ (ldcIn Ldc.reset 0 0).actBit (LDC_PWM_CTL 1) 0 = false ∧
    (ldcIn { Ldc.reset with running := true } 4 20000).setApplies 1 true 20000 ⟨ldcPage 1, 1, [(LDC_PERIOD 1, 20000), (LDC_PWM_CTL 1, 5)], .nextApply⟩ = true ∧
    (ldcIn Ldc.reset 1 0).permits 1 = false ∧ (ldcIn { Ldc.reset with running := true, modes := [1, 1, 1], duties := [9000, 0, 0], charge := [] } 1 20000).legWant 1 0 = (true, false) ∧
    (ldcIn { Ldc.reset with running := true, modes := [1, 1, 1], duties := [9000, 0, 0], charge := [false, false, false] } 1 20000).bstOk 1 0 (some 9000) = true ∧
    (ldcIn { Ldc.reset with gates := 1 } 1 0).legWant 1 0 = (false, false) ∧ fldOf (setVal (State.reset.shadowVals (ldcPage 1)) (LDC_PERIOD 1)) 17 0 < 250001 := by decide +kernel
/-- LDC channel 1 with the shadow PERIOD `p`. -/
def ldcShadow (p : W32) (x : Ldc) : State := (State.reset.wr (LDC_PERIOD 1) p).setLdc 1 x
theorem wit_ldcShadow : fldOf (setVal ((ldcShadow 19999 Ldc.reset).shadowVals (ldcPage 1)) (LDC_PERIOD 1)) 17 0 = 19999 ∧ fldOf (setVal ((ldcShadow 250000 Ldc.reset).shadowVals (ldcPage 1)) (LDC_PERIOD 1)) 17 0 = 250000 ∧
    fldOf (setVal ((ldcShadow 20000 Ldc.reset).shadowVals (ldcPage 1)) (LDC_PWM_CTL 1)) 3 2 ≠ 3 ∧ bitOf (setVal ((ldcShadow 20000 Ldc.reset).shadowVals (ldcPage 1)) (LDC_PWM_CTL 1)) 0 = false ∧
    bitOf (setVal (((ldcShadow 20000 Ldc.reset).wr (LDC_PWM_CTL 1) 1).shadowVals (ldcPage 1)) (LDC_PWM_CTL 1)) 0 = true := by decide +kernel

/-- LDC channel 1 with its high side of leg a on. -/
def gateOn (t : Nat) : State := ldcIn { Ldc.reset with gates := 1, running := true } 1 t
theorem wit_gate : (gateOn 100000).judges 1 0 = true ∧ (gateOn 100000).judges 1 3 = false ∧ ((gateOn 100000).ldc 1).onAt.getD 0 0 + ((gateOn 100000).fld (GDV_DESAT_CFG 1) 4 0 + 1) * 400 ≤ 100000 ∧
    0 < ((gateOn 0).ldc 1).onAt.getD 0 0 + ((gateOn 0).fld (GDV_DESAT_CFG 1) 4 0 + 1) * 400 ∧ State.reset.bit (GDV_TRIP_CFG 0 2) 11 = false ∧ (State.reset.wrBit (GDV_TRIP_CFG 0 2) 11 true).bit (GDV_TRIP_CFG 0 2) 11 = true ∧
    State.reset.fld (GDV_TRIP_EN 1) 7 0 &&& 4 = 0 ∧ (gateOn 0).bit (GDV_FLT_STAT 1) 6 = false ∧ ((gateOn 0).wr (GDV_FLT_STAT 1) 0x40).bit (GDV_FLT_STAT 1) 6 = true ∧ ((gateOn 0).wr (GDV_FLT_STAT 1) 1).gateLatched 1 0 = true ∧
    ((gateOn 0).wr (GDV_FLT_STAT 1) 1).causesGone 1 0 = true ∧ (((gateOn 0).wr (GDV_FLT_STAT 1) 1).wr (GDV_FLT_CAUSE 1) 1).causesGone 1 0 = false ∧
    (((gateOn 100000).wr (LDC_CBC_CTL 1) 0x80).wr (LDC_THR_FRAC 1) 0x10000).fld (LDC_CBC_CTL 1) 7 0 * 0x10000 / 2 ^ 16 ≠ 0 ∧ (gateOn 100000).bit (GDV_FLT_STAT 1) 12 = false ∧
    ((gateOn 100000).wr (LDC_CBC_CTL 1) 0x100).fld (LDC_CBC_CTL 1) 15 8 = 1 := by decide +kernel

/-- LDC channel 1 in commutation state `n` with COM_CTL `v` and channel record `x`. -/
def comIn (n : Nat) (v : W32) (x : Ldc) (t : Nat) : State := { ((((State.reset.wrFld (LDC_COM_STAT 1) 2 0 n).wr (LDC_COM_CTL 1) v).wr (LDC_CATCH_F 1) 0x100000).wr (LDC_REV_F 1) 0x100000).setLdc 1 x with dt := t }
/-- The same with the wait for the end of a reverse rotation, or of the alignment vector. -/
def comWait (n : Nat) (v : W32) (x : Ldc) (t : Nat) : State := (comIn n v x t).wrBit (LDC_COM_STAT 1) 8 true
theorem wit_com : (comIn 5 0 Ldc.reset 0).slotOfLdc 1 = none ∧ ({ comIn 5 0 Ldc.reset 0 with ldcSlot := [(1, 3)] } : State).slotOfLdc 1 = some 3 ∧ (comIn 0 0 Ldc.reset 0).comState 1 = 0 ∧ (comIn 5 0 Ldc.reset 0).comState 1 = 5 ∧
    ((((comIn 0 1 Ldc.reset 0).setAct (FBP_FB_CTL 0) 4).wr (LDC_HALL_MAP 1) 0).setPort 0 { Port.reset with hall := 1 }).hallNow 1 = some 0 ∧ s16 ((comIn 0 1 Ldc.reset 0).rd (LDC_COM_FREQ 1)) = 0 ∧ (comIn 6 0 Ldc.reset 0).fld (GDV_FLT_STAT 1) 5 0 = 0 ∧
    u16 ((comIn 1 0 Ldc.reset 0).rd (LDC_CATCH_F 1)) ≤ freqOfInt 100 ∧ u16 ((comIn 1 0 Ldc.reset 0).rd (LDC_REV_F 1)) ≤ freqOfInt 100 ∧ freqOfInt 0xFFFFFFFF < u16 ((comIn 1 0 Ldc.reset 0).rd (LDC_REV_F 1)) ∧
    0 < msTicks (min 50 (max 1 ((comIn 1 0 Ldc.reset 0).fld (LDC_LISTEN 1) 7 0))) ∧ msTicks (min 50 (max 1 ((comIn 1 0 Ldc.reset 0).fld (LDC_LISTEN 1) 7 0))) ≤ 200000000 ∧
    (comWait 1 4 Ldc.reset 0).bit (LDC_COM_STAT 1) 8 = true ∧ (comWait 1 4 Ldc.reset 0).comState 1 = 1 ∧ (comIn 2 4 Ldc.reset 0).bit (GDV_FLT_STAT 1) 12 = false ∧
    100 < 250 * min 200 (max 5 ((comIn 2 4 Ldc.reset 0).fld (LDC_IPD_CFG 1) 7 0)) ∧ ipdResult false 0 [100, 90, 80, 20, 30, 100] = (true, 6) ∧
    msTicks ((comIn 2 4 Ldc.reset 0).fld (LDC_ALIGN_CFG 1) 15 0) ≤ 10 ^ 12 ∧ msTicks ((comIn 5 4 Ldc.reset 0).fld (LDC_STILL_T 1) 15 0) ≤ 10 ^ 12 := by decide +kernel

theorem wit_comRun : (comIn 4 0 { Ldc.reset with comAt := some 5 } 9).reloadFirst 1 5 = false ∧ ((comIn 4 0 { Ldc.reset with comAt := some 5, running := true } 9).setAct (LDC_PERIOD 1) 2).reloadFirst 1 5 = true ∧ (comIn 4 0 { Ldc.reset with comAt := some 5 } 9).bit (GDV_FLT_STAT 1) 12 = false ∧ ((comIn 4 0 Ldc.reset 9).wrBit (GDV_FLT_STAT 1) 12 true).bit (GDV_FLT_STAT 1) 12 = true ∧
    max 1 ((comIn 4 0 Ldc.reset 9).fld (LDC_PLAUS 1) 19 16) ≤ 30 ∧ ((comIn 4 0 Ldc.reset 9).wr (LDC_PLAUS 1) 0x30000).fld (LDC_PLAUS 1) 19 16 = 3 ∧
    msTicks ((comIn 3 0 Ldc.reset 0).fld (LDC_START_HO 1) 31 16) ≤ 10 ^ 12 ∧ msTicks (10 * (comIn 1 0 Ldc.reset 0).fld (LDC_LISTEN 1) 31 16) ≤ 10 ^ 12 ∧
    (comIn 4 0x1000 Ldc.reset 9).fld (LDC_COM_STAT 1) 10 9 < (comIn 4 0x1000 Ldc.reset 9).fld (LDC_COM_CTL 1) 13 12 ∧ (comIn 4 0 Ldc.reset 9).fld (LDC_COM_CTL 1) 13 12 ≤ (comIn 4 0 Ldc.reset 9).fld (LDC_COM_STAT 1) 10 9 ∧
    ((comIn 4 1 Ldc.reset 9).wr (LDC_HALL_MAP 1) 0o76543210).hallStepOf 1 1 = some 1 ∧ 1 = nextStep false ((comIn 4 1 Ldc.reset 9).comStep 1) ∧ ((comIn 4 1 Ldc.reset 9).wr (LDC_HALL_MAP 1) 0o76543210).hallStepOf 1 7 = none ∧
    ((comIn 4 1 Ldc.reset 9).wr (LDC_HALL_MAP 1) 0o76543210).hallStepOf 1 3 = some 3 ∧ 3 ≠ nextStep true ((comIn 4 1 Ldc.reset 9).comStep 1) ∧ 3 ≠ nextStep false ((comIn 4 1 Ldc.reset 9).comStep 1) := by decide +kernel

/-- Port 2 in mode `m` with FB_STAT `v` and port record `x`. -/
def portIn (m v : W32) (x : Port) : State := ((State.reset.setAct (FBP_FB_CTL 2) m).wr (FBP_FB_STAT 2) v).setPort 2 x
theorem wit_feedback : (portIn 2 8 Port.reset).serDue 2 = true ∧ (portIn 2 8 { Port.reset with serAt := some 0 }).serDue 2 = false ∧ (portIn 2 8 Port.reset).serOver 2 = false ∧
    ({ portIn 2 8 { Port.reset with serAt := some 0, serial := some 0 } with dt := 200000 } : State).serOver 2 = true ∧ (portIn 1 8 Port.reset).hasIdx 2 = true ∧ (portIn 4 8 Port.reset).hasIdx 2 = false ∧ (portIn 1 8 Port.reset).portValid 2 = true ∧ (portIn 1 0 Port.reset).portValid 2 = false ∧
    (portIn 1 8 Port.reset).slotOfPort 2 = none ∧ ((portIn 1 8 Port.reset).setAct (FBP_BIND 2) 0x43).slotOfPort 2 = some 3 ∧ (portIn 1 8 Port.reset).portMode 2 = 1 ∧ (portIn 2 8 Port.reset).portMode 2 = 2 ∧
    ((portIn 2 8 Port.reset).setAct (FBP_SER_CFG 2) 0x4000008).readSsi 2 [true, false, true, false, true, false, true, false] = ⟨true, 0xAA, false⟩ ∧
    1 < ((portIn 2 8 Port.reset).setAct (FBP_SER_CFG 2) 0x4000008).serLim 2 ∧ (portIn 3 8 Port.reset).portMode 2 = 3 ∧ ((portIn 3 8 Port.reset).readBiss 2 []).ok = false ∧
    hallNext 5 = 4 ∧ (portIn 4 0x10000 Port.reset).fld (FBP_FB_STAT 2) 18 16 ≠ 0 ∧ (portIn 4 0x10000 Port.reset).posBad 2 0 false = false ∧ (portIn 6 8 Port.reset).posBad 2 0 true = true ∧ (portIn 6 0 Port.reset).portMode 2 = 6 := by decide +kernel
/-- Emulation 1 of a valid port 2, active, with an edge due. -/
def emuState : State := (((portIn 1 8 Port.reset).setAct (EMU_EMU_CTL 1) 0x27).wr (EMU_EMU_STAT 1) 0x20000).setEmu 1 { Emu.reset with next := some (0, true) }
theorem wit_emu : emuState.emuOn 1 = true ∧ emuState.emuValid 1 = true ∧ emuState.emuActive 1 = true ∧ (emuState.emu 1).next = some (0, true) := by decide +kernel

theorem wit_fbLoss : (portIn 1 8 Port.reset).pairsUsed 2 / 2 ^ 1 % 2 = 1 ∧ (portIn 4 8 Port.reset).pairsUsed 2 / 2 ^ 1 % 2 = 0 ∧
    ({ portIn 1 8 { Port.reset with quadRun := 1, quadAt := 4 } with dt := 5 * 4096 } : State).dt / 4096 = 5 ∧ ({ portIn 1 8 Port.reset with dt := 5 } : State).serLim 2 ≤ 15 ∧
    1 + 1 < ((portIn 1 8 Port.reset).setAct (FBP_SER_CFG 2) 0x4000008).serLim 2 ∧ (portIn 4 8 { Port.reset with hallRun := 14 }).portMode 2 = 4 ∧ (portIn 2 8 { Port.reset with serErr := 14 }).serLim 2 ≤ 15 ∧
    (portIn 6 8 Port.reset).portMode 2 = 6 ∧ (portIn 5 8 Port.reset).portMode 2 = 5 ∧ (portIn 5 8 Port.reset).portValid 2 = true := by decide +kernel

/-- A node in ring state `n` with RING_CTL.EN, port 0 in state `v` with port record `x`, at device time `t`. -/
def ringIn (n v : Nat) (x : RingPort) (t : Nat) : State := { (((State.reset.wr (FRB_RING_CTL 0) 1).wrFld (FRB_RING_STAT 0) 2 0 n).wrFld (FRB_PORT_STAT 0) 1 0 v).setRport 0 x with dt := t }
/-- A cycle frame of no slots and no entries, its CRC good or bad. -/
def cycleFrame (bad : Nat) : List Byte := (1 :: List.replicate 127 0) ++ leBytes 4 (crc32 (1 :: List.replicate 127 0) + bad)
theorem wit_ring : (ringIn 2 2 RingPort.reset 0).portState 0 = 2 ∧ (ringIn 2 0 RingPort.reset 0).portState 0 = 0 ∧ (ringIn 2 1 { RingPort.reset with sync := true, outAt := some 0, delays := List.replicate 15 0 } 0).portState 0 = 1 ∧
    (ringIn 2 2 RingPort.reset 0).isMember = true ∧ (ringIn 1 2 RingPort.reset 0).isMember = false ∧ (ringIn 2 2 RingPort.reset 0).portUp 0 = true ∧ State.reset.ring.cycT + 4000 < 10 ^ 6 ∧
    ((ringIn 2 2 RingPort.reset 0).wrBit (FRB_PORT_STAT 0) 3 true).wrapping 0 = true ∧ (ringIn 2 2 RingPort.reset 0).wrapping 0 = false ∧ RingPort.reset.credit.length = 8 ∧
    ((ringIn 2 2 RingPort.reset 0).wrBit (FRB_RING_STAT 0) 3 true).isCm = true ∧ (ringIn 2 2 RingPort.reset 0).isCm = false ∧ (ringIn 2 2 RingPort.reset 0).pairWrites = true ∧ (ringIn 2 2 RingPort.reset 0).ring.nextT ≤ 0 ∧
    (ringIn 2 2 RingPort.reset 0).laneOpen 0 = true ∧ (ringIn 2 2 RingPort.reset 0).laneOpen 1 = true ∧ (ringIn 2 2 RingPort.reset 0).dlyOut 0 = true ∧ (ringIn 2 0 RingPort.reset 0).dlyOut 0 = false ∧
    (ringIn 2 2 RingPort.reset 0).bit (FRB_RING_STAT 0) 10 = false ∧ (ringIn 2 2 RingPort.reset 0).ringEn = true ∧ State.reset.ringEn = false ∧
    (ringIn 2 2 RingPort.reset 0).ring.frameAt + 2 * (ringIn 2 2 RingPort.reset 0).ring.cycT ≤ 10 ^ 7 := by decide +kernel
theorem wit_cycleFrame : (cycleFrame 0).length ≤ 4096 ∧ byteOf (cycleFrame 0) 0 % 128 = 1 ∧ (cycleFrame 0).length = frameLen (byteOf (cycleFrame 0) 3) (byteOf (cycleFrame 0) 4) (byteOf (cycleFrame 0) 5) := by decide +kernel
theorem wit_cycleCrc : crcGood (cycleFrame 0) = true := by decide +kernel
theorem wit_cycleBad : crcGood (cycleFrame 1) = false := by decide +kernel

/-- A message frame of one byte to node `d`, complete. -/
def ringMsg (d : Byte) (bad : Nat) : List Byte := [0x21, 0, d, 9, 3, 0, 0, 0, 0x55] ++ leBytes 4 (crc32 [0x21, 0, d, 9, 3, 0, 0, 0, 0x55] + bad)
/-- The own FORM frame of a node at reset come back. -/
def ownForm : FormFrame := ⟨false, BitVec.ofNat 16 State.reset.rank, 0, 0, 0, [], 0, 0, 0⟩
/-- The ring of a node with a frame cycle of 4,000,000 ticks and 4 nodes. -/
def ringCfg (n : Nat) (x : Ring) (t : Nat) : State := (((ringIn n 2 RingPort.reset t).wr (FRB_FRAME_CFG 0) 4).wr (FRB_CYC_CFG 0) 0x200000).setRing x
theorem wit_ringMsg : crcGood (ringMsg 0 0) = true ∧ crcGood (ringMsg 0 1) = false ∧ (ringMsg 0 0).length = 13 + byteOf (ringMsg 0 0) 7 ∧ byteOf (ringMsg 0 0) 2 = (ringCfg 2 Ring.reset 0).nodeAddr ∧
    byteOf (ringMsg 3 0) 2 ≠ (ringCfg 2 Ring.reset 0).nodeAddr ∧ byteOf (ringMsg 3 0) 4 / 4 + 1 ≤ 2 * ({ Ring.reset with nslot := 4 } : Ring).nslot ∧
    (ringIn 2 2 { RingPort.reset with txq := [(0, 0, [1])] } 0).mayMsg 0 0 [1] = true ∧ RingPort.reset.sent.length = 8 ∧
    ((((ringCfg 2 Ring.reset 0).wr (FRB_MSG_CTL 0) 0x100)).pushMsg 0 3 0 [1]).isSome = true ∧ State.reset.bit (FRB_MSG_TX 0) 29 = false ∧ (State.reset.wr (FRB_MEMBERS 0) 8).bit (FRB_MEMBERS 0) 3 = true ∧
    (State.reset.wrBit (FRB_MSG_TX 0) 29 true).bit (FRB_MSG_TX 0) 29 = true := by decide +kernel
theorem wit_ringForm : (ringCfg 0 Ring.reset 16000000).ring.frameAt + 16000000 ≤ 16000000 ∧ (ringCfg 1 Ring.reset 0).ring.formAt ≤ 0 ∧ ownForm.rank.toNat = (ringCfg 1 Ring.reset 0).rank ∧
    ({ ownForm with rank := 0 } : FormFrame).rank.toNat < (ringCfg 1 Ring.reset 0).rank ∧ (ringCfg 1 Ring.reset 0).rank < ({ ownForm with rank := 0xFFFF } : FormFrame).rank.toNat ∧
    (ringCfg 1 Ring.reset 0).cfgBad ownForm = false ∧ (State.reset.wr (FRB_CYC_CFG 0) 0).cfgBad ownForm = true ∧ (ringCfg 1 Ring.reset 0).mayStep = true ∧ (ringCfg 4 { Ring.reset with nslot := 4 } 0).nodeAddr < (ringCfg 4 { Ring.reset with nslot := 4 } 0).ring.nslot ∧ Ring.reset.startAt = none ∧ Ring.reset.nslot ≤ (ringCfg 4 Ring.reset 0).nodeAddr ∧
    (ringCfg 1 Ring.reset 0).laneOpen 0 = true ∧ (ringCfg 1 Ring.reset 0).laneOpen 1 = true ∧ (ringCfg 1 Ring.reset 0).portUp 0 = true ∧ State.reset.bit LTB_STATUS 14 = false ∧
    ((ringCfg 1 Ring.reset 0).setAxis 0 { Axis.reset with st := .closed }).mayStep = false ∧ Ring.reset.seen / 2 ^ 0 % 2 = 0 ∧ ({ Ring.reset with seen := 1 } : Ring).seen / 2 ^ 0 % 2 = 1 ∧ (ringCfg 1 Ring.reset 0).outPort 0 = 0 ∧ State.reset.bit (frbPage 2 + 4) 2 = false := by decide +kernel

/-- A device of a pair in role `r`, the crosslink in port state `v`, with crosslink record `x`. -/
def pairIn (r v : Nat) (x : Xlk) : State := { (((State.reset.wrFld XLK_XLK_STAT 4 2 r).wrFld XLK_XLK_STAT 1 0 v).wr XLK_XLK_CTL 6) with xlk := x }
theorem wit_pair : (pairIn 1 2 Xlk.reset).laneOpen 2 = true ∧ (pairIn 0 2 Xlk.reset).xlkUp = true ∧ (pairIn 3 1 Xlk.reset).xlkUp = false ∧ (pairIn 0 2 Xlk.reset).claim ⟨true, false, 0, false⟩ = .mine ∧ (pairIn 0 2 Xlk.reset).claim ⟨true, true, 0, false⟩ = .theirs ∧
    (pairIn 0 2 Xlk.reset).claim ⟨true, false, 0, true⟩ = .equal ∧ (pairIn 1 2 { Xlk.reset with copying := true }).paired = true ∧ (pairIn 2 2 { Xlk.reset with copying := true }).paired = true ∧
    (pairIn 2 2 Xlk.reset).shadows = true ∧ (pairIn 1 2 Xlk.reset).shadows = false ∧ (pairIn 1 2 { Xlk.reset with gotFit := true }).role = 1 ∧ (pairIn 1 2 { Xlk.reset with token := some (7, 0) }).xlk.token = some ((7 : BitVec 8).toNat, 0) ∧
    (pairIn 3 1 Xlk.reset).role = 3 ∧ (pairIn 2 2 { Xlk.reset with sentFit := true }).xlk.rxAt + max 4 ((pairIn 2 2 Xlk.reset).fld XLK_XLK_CTL 11 8) * 1000 ≤ 4000 := by decide +kernel

theorem wit_pairRec : (pairIn 2 2 Xlk.reset).fld LTB_DISC_CTL 1 0 ≠ 1 ∧ (pairIn 2 2 Xlk.reset).ltb.plan = none ∧ (pairIn 2 2 Xlk.reset).mirrorsAddr 0x02000000 = true ∧ (pairIn 2 2 Xlk.reset).mirrorsAddr LTB_DISC_CTL = true ∧
    pushWindow LTB_DISC_CTL 4 = false ∧ (pairIn 2 2 Xlk.reset).mirrorsAddr XLK_XLK_CTL = false ∧ (pageOf (ltbPage / 0x1000 * 0x1000)).isSome = true ∧ ((pageOf (ltbPage / 0x1000 * 0x1000)).any fun p => (pairIn 2 2 Xlk.reset).mirrorsKind p) = true ∧
    ((pairIn 2 2 Xlk.reset).wr XLK_MIRROR_MASK_LO 0xFF).mirrored 3 = true ∧ (pairIn 1 2 { Xlk.reset with waiting := [⟨ltbPage, 3, 0, false⟩] }).dt = 0 ∧ (pairIn 1 2 Xlk.reset).paired = true ∧ (pairIn 0 2 Xlk.reset).paired = false := by decide +kernel

/-- Safety RUN with group 0 pulsed, block 3 on link 3. -/
def safState (t : Nat) : State := { ((State.reset.wrBit SAF0_SAF_STAT 0 true).setAct (SAF0_GRP_CFG 0) 0x40).setAct (SAF0_GA_CFG 3) 0x345 with dt := t }
/-- A device whose shadow configuration is in order and signed. -/
def signed8 : State := let s := State.reset.wr SAF0_SAF_CTL 2; s.wr SAF0_SAF_SIG (BitVec.ofNat 32 s.sigShadow)
/-- ACTIVATE with its key accepts it. -/
theorem wit_activate : signed8.activateCode 0xC3A5 true = 0 := by
  have h : signed8.sigShadow = (signed8.rd SAF0_SAF_SIG).toNat := State.signed _
  have c : ((List.range 64).any fun n => signed8.slotBusy n && slotConfig signed8.rd n != signed8.slotWas n) = false ∧ ((List.range 64).any fun n => signed8.slotTwice n) = false ∧
      ((List.range 16).filter fun g => signed8.bit (SAF0_GA_CFG g) 6) = [] ∧ signed8.fld SAF0_SAF_CTL 3 1 = 1 := by decide +kernel
  simp [State.activateCode, h, c.1, c.2.1, c.2.2.1, c.2.2.2]
theorem wit_saf : (safState 5).dt % 1000000 ≠ 0 ∧ (safState 1000000).safRun = true ∧ State.reset.safRun = false ∧ (safState 0).blocksOfLink 3 = [3] ∧ ((safState (10 ^ 12)).link 3).cont.error = false ∧
    ((((safState 0).setLink 3 { Link.reset with cont := { ContIn.reset with seq := some 1 } })).link 3).cont.lapsed (10 ^ 12) = true ∧
    ({ safState 0 with groups := [(0, { StoGroup.reset with offA := false, offB := false, pulseA := some 0 })] } : State).pulseDue 0 0 = false ∧ ({ safState (10 ^ 10) with groups := [(0, { StoGroup.reset with offA := false, offB := false, pulseA := some 0 })] } : State).pulseDue 0 1 = true ∧ (safState 0).pulseDue 0 0 = true ∧
    (safState 0).actBit (SAF0_GRP_CFG 0) 6 = true ∧ ({ safState 0 with groups := [(0, { StoGroup.reset with offA := false, offB := false })] } : State).group 0 = { StoGroup.reset with offA := false, offB := false } ∧
    (safState 0).keepA + 2000000 ≤ 2000000 ∧ (fldOf (0xC3A50001 : W32) 31 16) = 0xC3A5 ∧ State.reset.slotBusy 7 = false := by decide +kernel
theorem wit_safEntry : (State.reset.setRing { Ring.reset with entries := [(2, ⟨{ ContIn.reset with seq := some 1 }, 0⟩)] }).dt = 0 ∧ ({ ContIn.reset with seq := some 1 } : ContIn).lapsed (10 ^ 12) = true ∧
    ((safState 0).setAct (SAF0_GRP_CFG 1) 0x280).entryUsed 2 = true ∧ (tabGet ⟨ContIn.reset, 0⟩ 2 [(2, (⟨{ ContIn.reset with seq := some 1 }, 0⟩ : RingEntry))]).cont.error = false := by decide +kernel

/-- Safety RUN with both resets enabled, input 3 the reset input. -/
def safRst : State := (safState 0).setAct SAF0_SAF_CTL 0x1310
theorem wit_safRst : (fldOf (0xC3A50002 : W32) 31 16) = 0xC3A5 ∧ safRst.actBit SAF0_SAF_CTL 4 = true ∧ safRst.actBit SAF0_SAF_CTL 12 = true ∧ safRst.actFld SAF0_SAF_CTL 11 8 = 3 ∧ (safRst.group 1).off = true ∧
    safRst.liveCauses 1 = [] ∧ (∀ g : Fin 4, ({ safRst with lost := true } : State).liveCauses g ≠ []) ∧ ((safState 0).setAct (SAF0_PAIR_CFG 2) 0x800).actBit (SAF0_PAIR_CFG 2) 11 = true ∧
    (State.reset.wr FIO_OUT_SET 4).outOn 2 = true ∧ State.reset.outOn 2 = false ∧ (State.reset.wr (FIO_OUT_CFG 2) 1).bit FIO_OUT_STAT (16 + 2) = false ∧ (State.reset.wr (FIO_OUT_CFG 2) 0x21).contactorOpen 2 = true := by decide +kernel

/-- Acquisition unit 1 in state `n` with unit record `x`, its region 64 KiB. -/
def acqIn (n : Nat) (x : AcqUnit) (t : Nat) : State := { ((State.reset.wrFld (ACQ_ACQ_STAT 1) 2 0 n).wr (ACQ_REGION 1) 0x100).setAcq 1 x with dt := t }
theorem wit_acq : 1 ∉ (acqIn 2 AcqUnit.reset 0).acqGroup ∧ (acqIn 1 AcqUnit.reset 0).armRefusal 1 = some .state ∧ ((acqIn 0 AcqUnit.reset 0).wr (ACQ_DEAL_CTL 0) 0x21).acqGroup = [0, 1] ∧ ((acqIn 0 AcqUnit.reset 0).wr (ACQ_DEAL_CTL 0) 0x21).dealer = 0 ∧
    (((acqIn 0 AcqUnit.reset 0).wr (ACQ_DEAL_CTL 0) 0x123).dealer = 1) ∧ (acqIn 0 { AcqUnit.reset with armWait := true } 4096).dt % 4096 = 0 ∧ (acqIn 1 { AcqUnit.reset with due := some 5 } 5).acqInstant 1 ((acqIn 1 { AcqUnit.reset with due := some 5 } 5).acqNow 1) 0 = true ∧
    (acqIn 1 AcqUnit.reset 5).bit (ACQ_TRIG_CFG 1) 7 = false ∧ (∀ m : Fin 4, (acqIn 1 AcqUnit.reset 5).bit (ACQ_MASK_CFG 1 m) 0 = false) ∧ AcqUnit.reset.fired = none ∧ AcqUnit.reset.gap = none ∧ AcqUnit.reset.lastT = none ∧
    (acqIn 1 AcqUnit.reset 5).acqStream 1 = false ∧ (acqIn 0 AcqUnit.reset 0).regionSize 1 = 65536 ∧
    ((acqIn 2 AcqUnit.reset 0).wr (ACQ_DEAL_CTL 0) 0x220).bit (ACQ_DEAL_CTL 0) (4 + 1) = true := by decide +kernel
theorem wit_acqArm : ((acqIn 0 AcqUnit.reset 0).wr (ACQ_POST 1) 10).armRefusal 1 = none ∧ (∀ m ∈ (((acqIn 0 AcqUnit.reset 0).wr (ACQ_POST 1) 10).wr (ACQ_DEAL_CTL 0) 0x23).acqGroup, m = 1) ∧
    (((acqIn 0 AcqUnit.reset 0).wr (ACQ_POST 1) 10).wr (ACQ_DEAL_CTL 0) 0x123).armRefusal 1 = none := by decide +kernel

/-- A recorder that is on, with sheaf 3 enabled, and recorder record `x`. -/
def recIn (x : Recorder) : State := { (State.reset.wr REC_REC_CTL 1).wr (REC_SHEAF_CFG 3) 0x41 with recorder := x }
theorem wit_rec : (recIn Recorder.reset).bit REC_REC_CTL 0 = true ∧ (recIn Recorder.reset).bit REC_REC_STAT 3 = false ∧ (recIn Recorder.reset).bit (REC_SHEAF_CFG 3) 6 = true ∧ (State.reset.wr REC_REC_CTL 0).bit REC_REC_CTL 0 = false ∧
    16 ≤ (recIn { Recorder.reset with queue := List.replicate 16 ⟨3, 2, 0, 0, 2, []⟩ }).recorder.queue.length ∧ (recIn Recorder.reset).recorder.queue.length < 16 ∧ (recIn Recorder.reset).sheafAhead 0 = false ∧ (recIn { Recorder.reset with queue := [⟨3, 2, 0, 0, 2, []⟩] }).sheafAhead 0 = true ∧ (recIn { Recorder.reset with clearing := true }).bit REC_REC_STAT 1 = false ∧
    (recIn { Recorder.reset with flush := some ⟨0, 4, [], false, false, 0⟩ }).recorder.flush.isSome = true ∧ ({ recIn Recorder.reset with actions := [⟨0, 2, 5, 0⟩] } : State).fcoLock / 2 ^ 5 % 2 = 0 := by decide +kernel
theorem wit_router : State.reset.locked evrPage = false ∧ (State.reset.wr (evrPage + 4) 4).locked evrPage = true ∧ routeBad 0x01000301 = false ∧ routeKind 0x01000301 = 1 ∧ routeKind 3 = 3 ∧
    ((State.reset.wr (EVR_ROUTE 9) 0x301).wr (PCI_MSIX_TABLE (4 * 3 + 3)) 0).bit (PCI_MSIX_TABLE (4 * routeTarget (0x301 : W32) + 3)) 0 = false ∧ routeKind ((State.reset.wr (EVR_ROUTE 9) 0x301).route 9) = 1 := by decide +kernel

/-- Sensor 9 on the built-in mode with a shut-down at 120 °C and sensor record `x`. -/
def thmIn (x : Sensor) : State := ((State.reset.wr (THM_SNS_CFG 9) 7).wr (THM_SNS_THR 9) 0x9FB8AEA4).setSensor 9 x
theorem wit_thermal : State.reset.fld (THM_SNS_CFG 9) 1 0 = 0 ∧ (thmIn Sensor.reset).fld (THM_SNS_CFG 9) 1 0 ≠ 0 ∧ (thmIn Sensor.reset).convert 9 0 0 true = none ∧ (thmIn Sensor.reset).convert 9 0x1000 0 false = some 0x1000 ∧
    ((thmIn { Sensor.reset with faulty := true }).sensor 9).faulty = true ∧ ((thmIn Sensor.reset).sensor 9).faulty = false ∧ ((0x1000 : Int) < (((thmIn Sensor.reset).fld (THM_SNS_THR 9) 23 16 : Int) - 64) * 256) ∧
    (∀ j : Fin 14, ({ State.reset with core := .thermal, sensors := (List.range 14).map fun k => (k, ⟨true, false, 0, 0, some 0, 0⟩), fieldT0 := 4000000000 } : State).sensorCool j = true) ∧ ({ State.reset with core := .thermal } : State).memNat granaryBase 64 = 0 ∧
    State.reset.sensorCool 0 = false := by decide +kernel
theorem wit_ageing : State.reset.bit AGE_AGE_CTL 0 = true ∧ (State.reset.wr AGE_AGE_CTL 0).bit AGE_AGE_CTL 0 = false ∧ State.reset.bit LTB_STATUS 12 = false ∧ (State.reset.wrBit LTB_STATUS 12 true).bit LTB_STATUS 12 = true ∧
    State.reset.age.daily.length < 6 ∧ State.reset.fld AGE_SCRUB 10 8 ≤ 4 := by decide +kernel

/-- A channel 2 whose DESC_ADDR points at the descriptor of a move within shared SRAM; the bytes of a descriptor with FLAGS `fl`. -/
def descBytes (fl : Nat) : List Byte := leBytes 8 0x02002000 ++ leBytes 8 0x02003000 ++ leBytes 4 64 ++ leBytes 4 fl ++ leBytes 8 0
def dmaIn (fl : Nat) : State := ((State.reset.putBytes 0x02001000 (descBytes fl)).wr (DMA_CH_CTL 2) 1).wr (DMA_DESC_ADDR 2) (0x02001000 / 32)
def dmaRun (fl : Nat) : State := { (dmaIn fl).wr (DMA_CH_STAT 2) 1 with dmaDesc := [(2, descBytes fl)] }
theorem wit_pcie : State.reset.bit PCI_LINK_STAT 8 = false ∧ (State.reset.wr PCI_LINK_STAT 0x143).bit PCI_LINK_STAT 8 = true ∧ (3 : Fin 4).val ≠ 0 ∧ (4 : Fin 16).val = 4 ∧ (0 : Fin 4).val = 0 ∧ (3 : Fin 16).val = 3 ∧ 4 < (8 : Fin 16).val := by decide +kernel
theorem wit_dma : State.reset.bit (DMA_CH_CTL 2) 0 = false ∧ (dmaIn 0x30).bit (DMA_CH_CTL 2) 0 = true ∧ (dmaIn 0x30).dmaState 2 ≠ 1 ∧ (dmaIn 0x30).ringMem ((dmaIn 0x30).fld (DMA_DESC_ADDR 2) 27 0 * 32) = true ∧
    (dmaIn 0x30).dmaInvalid (dmaDescOf ((dmaIn 0x30).bytesAt ((dmaIn 0x30).fld (DMA_DESC_ADDR 2) 27 0 * 32) 32)) = false ∧ (dmaIn 0x33).dmaInvalid (dmaDescOf ((dmaIn 0x33).bytesAt ((dmaIn 0x33).fld (DMA_DESC_ADDR 2) 27 0 * 32) 32)) = true ∧
    ((dmaIn 0x30).wr (DMA_DESC_ADDR 2) 0).ringMem (((dmaIn 0x30).wr (DMA_DESC_ADDR 2) 0).fld (DMA_DESC_ADDR 2) 27 0 * 32) = false ∧ (dmaRun 0x30).dmaState 2 = 1 ∧ (dmaRun 0x30).bit (DMA_CH_STAT 2) 2 = false ∧
    ((dmaRun 0x30).wr (DMA_CH_STAT 2) 5).bit (DMA_CH_STAT 2) 2 = true ∧ (dmaDescOf (tabGet [] 2 (dmaRun 0x30).dmaDesc)).srcHost = false ∧ (dmaDescOf (tabGet [] 2 (dmaRun 0x31).dmaDesc)).srcHost = true ∧
    (((dmaRun 0x30).granted 2 0 2).dmaMove 2 (dmaDescOf (descBytes 0x30)) [] 64).err = 0 ∧ (((dmaRun 0x31).granted 2 0 2).dmaMove 2 (dmaDescOf (descBytes 0x31)) [1, 2, 3, 4] 4).err = 0 ∧ ((dmaRun 0x30).dmaMove 2 (dmaDescOf (descBytes 0x30)) [] 8).err = 0 := by decide +kernel
/-- A broadcast frame of 60 bytes and a PAUSE frame; MAC 0 with rings of 8 descriptors, the first given to it or not. -/
def bcFrame : List Byte := List.replicate 12 0xFF ++ List.replicate 48 0
def pauseFrame : List Byte := [0x01, 0x80, 0xC2, 0, 0, 1] ++ List.replicate 6 0 ++ [0x88, 8, 0, 1, 0, 5] ++ List.replicate 42 0
def ethIn (own : Byte) : State :=
  (((((((State.reset.wr (ETH_ETH_CTL 0) 0x00400009).wr (ETH_RX_BUF 0) 60).wr (ETH_RX_BASE 0) (0x02004000 / 32)).wr (ETH_TX_BASE 0) (0x02004000 / 32)).wr (ETH_RING_LEN 0) 0x00080008).wr (ETH_TAIL 0) 0x00040002).putBytes 0x0200400B [own]).putBytes 0x02004000 [0, 0x50, 0, 2]
theorem wit_eth : State.reset.bit (ETH_ETH_CTL 0) 0 = false ∧ (ethIn 0x80).bit (ETH_ETH_CTL 0) 0 = true ∧ 60 ≤ bcFrame.length ∧ ((ethIn 0x80).ethFilter 0 bcFrame).1 = true ∧ isPause bcFrame = false ∧ bcFrame.length + 4 ≤ (ethIn 0x80).fld (ETH_ETH_CTL 0) 31 16 ∧
    bcFrame.length ≤ (ethIn 0x80).fld (ETH_RX_BUF 0) 13 0 ∧ (ethIn 0x80).ringOwn (ringAt ((ethIn 0x80).fld (ETH_RX_BASE 0) 27 0) ((ethIn 0x80).fld (ETH_HEAD 0) 27 16)) ((ethIn 0x80).fld (ETH_HEAD 0) 27 16) ((ethIn 0x80).fld (ETH_TAIL 0) 27 16) = true ∧
    (ethIn 0).ringOwn (ringAt ((ethIn 0).fld (ETH_RX_BASE 0) 27 0) ((ethIn 0).fld (ETH_HEAD 0) 27 16)) ((ethIn 0).fld (ETH_HEAD 0) 27 16) ((ethIn 0).fld (ETH_TAIL 0) 27 16) = false ∧ (ethIn 0).bit (ETH_PTP_CTL 0) 0 = false ∧
    isPause pauseFrame = true ∧ 60 ≤ pauseFrame.length ∧ (ethIn 0).bit (ETH_ETH_CTL 0) 3 = true ∧ (ethIn 0).bit (ETH_PTP_CTL 0) 4 = false ∧ tabGet 0 0 (ethIn 0).ethPause ≤ (ethIn 0).dt ∧
    (ethIn 0x80).ringOwn (ringAt ((ethIn 0x80).fld (ETH_TX_BASE 0) 27 0) ((ethIn 0x80).fld (ETH_HEAD 0) 11 0)) ((ethIn 0x80).fld (ETH_HEAD 0) 11 0) ((ethIn 0x80).fld (ETH_TAIL 0) 11 0) = true := by decide +kernel
theorem wit_ptp_mdio : State.reset.fld LTB_DISC_CTL 1 0 ≠ 2 ∧ (State.reset.wr LTB_DISC_CTL 2).fld LTB_DISC_CTL 1 0 = 2 ∧ (State.reset.wr (ETH_PTP_CTL 1) 0x20).bit (ETH_PTP_CTL 1) 5 = true ∧ State.reset.ltb.ptpSeen = false ∧
    State.reset.bit (ETH_MDIO 0) 12 = false ∧ (State.reset.wr (ETH_MDIO 0) 0x1000).bit (ETH_MDIO 0) 12 = true ∧ (State.reset.wr (ETH_MDIO 0) 0x1400).bit (ETH_MDIO 0) 10 = true := by decide +kernel

theorem wit_flash : State.reset.bit MEM_MEM_STAT 1 = false ∧ (State.reset.wr MEM_MEM_STAT 3).bit MEM_MEM_STAT 1 = true ∧ (State.reset.wr MEM_MEM_STAT 3).bit MEM_MEM_STAT 0 = true ∧ (State.reset.wr MEM_FL_ADDR 240).fld MEM_FL_ADDR 28 0 % State.reset.flashGeo.page + 16 ≤ State.reset.flashGeo.page ∧
    State.reset.flashGeo.page < (State.reset.wr MEM_FL_ADDR 240).fld MEM_FL_ADDR 28 0 % State.reset.flashGeo.page + 17 ∧ 0 < State.reset.flashGeo.unit ∧ State.reset.bit MEM_MEM_STAT 0 = false ∧
    State.reset.fld MEM_MW_ADDR 22 6 * 64 < 0x600000 ∧ 0x600000 ≤ (State.reset.wr MEM_MW_ADDR 0x600000).fld MEM_MW_ADDR 22 6 * 64 := by decide +kernel
/-- A device in life-cycle state `n` with DBG_STAT `d`, a challenge pending. -/
def dbgIn (n d : W32) : State := { ((State.reset.wr LCS_LC_STATE n).wr LCS_DBG_STAT d).wr LCS_KEY_STAT 2 with jtagIr := .dbgAccess, nonce := [1] }
theorem wit_jtag : (dbgIn 0 0).boundaryOk = true ∧ (dbgIn 1 0xFF).boundaryOk = true ∧ ((dbgIn 0 0).setAxis 5 { Axis.reset with st := .ready }).boundaryOk = false ∧ (dbgIn 1 0).lifeCycle = 1 ∧ (dbgIn 2 0).lifeCycle = 2 ∧ (dbgIn 3 0).lifeCycle = 3 ∧ (dbgIn 1 0).bit LCS_DBG_STAT 7 = false ∧
    (dbgIn 1 0x400).bit LCS_DBG_STAT 10 = true ∧ (dbgIn 1 0).bit LCS_DBG_STAT 10 = false ∧ (dbgIn 1 0).jtagIr = .dbgAccess ∧ (dbgIn 1 0).nonce ≠ [] ∧ (dbgIn 1 0).bit LCS_KEY_STAT 1 = true ∧ 2 ≤ (dbgIn 1 0x200).fld LCS_DBG_STAT 9 8 := by decide +kernel
theorem wit_halt : (dbgIn 2 0xFF).inProduce = true ∧ (dbgIn 1 0xFF).bit LCS_DBG_STAT 7 = true ∧ (dbgIn 1 0xFF).bit LCS_DBG_STAT 2 = true ∧ ((dbgIn 1 0xFF).wr APC_CORE_STAT 1).fld APC_CORE_STAT 1 0 ≠ 0 ∧ (dbgIn 1 0xFF).bit LCS_DBG_STAT 4 = true ∧ (dbgIn 1 0xFF).bit LCS_DBG_STAT 5 = true ∧ (dbgIn 1 0xFF).freezeAt = none ∧
    (dbgIn 1 0xFF).inProduce = false ∧ (dbgIn 1 0xFF).bit LCS_DBG_STAT 3 = true ∧ ({ dbgIn 1 0xFF with dbgHalt := 2 } : State).dbgHalt / 2 ^ 1 % 2 = 1 := by decide +kernel

/-- CAN 1 with object 5 of direction and flags `k`, requests `p` and frame `f` on the bus. -/
def canIn (k p : W32) (f : Option (Nat × CanFrame)) : State := ((((State.reset.wr (CAN_OBJ_CTL 1 5) k).wr (CAN_TX_PEND 1 0) p).wr (CAN_CAN_STAT 1) 0x20).wr (CAN_OBJ_ID 1 5) 0x123).setCan 1 { Can.reset with cur := f }
theorem wit_canobj : (canIn 1 0 none).canDir 1 5 = 1 ∧ (canIn 2 0 none).canDir 1 5 = 2 ∧ (canIn 0 0 none).canDir 1 5 = 0 ∧ (canIn 2 0x20 none).canPend 1 5 = true ∧ (canIn 2 0 none).canPend 1 5 = false ∧ ((canIn 2 0 (some (5, CanObj.reset.frame))).can 1).cur = some (5, CanObj.reset.frame) ∧
    ((canIn 2 0 none).can 1).cur = none ∧ (canIn 2 0 none).canSends 1 = true ∧ State.reset.canSends 1 = false ∧ fldOf (3 : W32) 1 0 = 3 ∧ bitOf (0x29 : W32) 3 = true ∧ bitOf (0x29 : W32) 5 = true ∧ (((canIn 0 0 none).wr (CAN_OBJ_CTL 1 9) 1).wr (CAN_OBJ_ID 1 9) 0x123).canClash 1 5 0x123 = true ∧
    (canIn 0 0 none).canClash 1 5 0x123 = false ∧ (0x124 : W32) &&& 0x3FFFFFFF ≠ (canIn 2 0 none).rd (CAN_OBJ_ID 1 5) := by decide +kernel

/-- CAN 1 in NORMAL with CAN_CTL `k`, CAN_STAT `st`, counters `e` and frame `f` on the bus. -/
def canRun (k st e : W32) (f : Option (Nat × CanFrame)) : State := (((State.reset.wr (CAN_CAN_CTL 1) k).wr (CAN_CAN_STAT 1) st).wr (CAN_ERR_CNT 1) e).setCan 1 { Can.reset with cur := f }
def canFrame1 : CanFrame := { CanObj.reset.frame with id := 0x123 }
theorem wit_canrx : State.reset.canOn 1 = false ∧ (canRun 5 0x20 0 none).canOn 1 = true ∧ (canRun 5 0x20 0 none).bit (CAN_CAN_CTL 1) 2 = true ∧ ((canRun 5 0x20 0 none).bit (canPage 1 + 0x02C) 31 = false) ∧ canFrame1.fdf = false ∧ (canRun 5 0x20 0 none).canMatch 1 canFrame1 = none ∧
    (((canRun 5 0x20 0 none).wr (CAN_OBJ_ID 1 7) 0x123).wr (CAN_OBJ_CTL 1 7) 5).canMatch 1 canFrame1 = some 7 ∧ ((canRun 5 0x20 0 (some (5, canFrame1))).can 1).cur = some (5, canFrame1) ∧ (canRun 5 0x20 0 none).canSends 1 = true ∧ (canRun 5 0x20 0 none).bit (CAN_TDC 1) 6 = false := by decide +kernel
theorem wit_canerr : (canRun 5 0x20 0 none).canMode 1 ≠ 2 ∧ (canRun 5 0x20 0x00570057 none).tec 1 < 88 ∧ (canRun 5 0x20 0x00570057 none).rec_ 1 < 88 ∧ (canRun 5 0x20 0 none).fld (CAN_CAN_STAT 1) 1 0 = 0 ∧ (canRun 5 0x20 0 none).bit (CAN_CAN_STAT 1) 2 = false ∧ (canRun 5 0x20 0 none).bit (CAN_CAN_CTL 1) 4 = false ∧
    (canRun 0x15 0x20 0 none).bit (CAN_CAN_CTL 1) 4 = true ∧ ((canRun 0x15 0x20 0 none).wr (CAN_TX_PEND 1 0) 0x20).canPend 1 5 = true ∧ (canRun 5 0x2A 0 none).fld (CAN_CAN_STAT 1) 1 0 = 2 ∧ (canRun 5 0x2A 0 none).bit (CAN_CAN_STAT 1) 3 = true ∧ (canRun 0 0x30 0 none).bit (CAN_CAN_STAT 1) 4 = true := by decide +kernel
theorem wit_canmode : State.reset.fld (CAN_CAN_CTL 1) 1 0 = 0 ∧ ((State.reset.wr (CAN_NBT 1) 0).canTiming 1 = false) ∧ fldOf (1 : W32) 1 0 ≠ 0 ∧ (((State.reset.wr (CAN_NBT 1) 0x07071F01).wr (CAN_DBT 1) 0x03030B00).canTiming 1 = true) ∧ (State.reset.wr (canPage 1 + 4) 4).bit (canPage 1 + 4) 2 = true ∧
    State.reset.bit (canPage 1 + 4) 2 = false ∧ fldOf (0x80000003 : W32) 2 0 = 3 ∧ State.reset.fld (CAN_INJ_ARG 1) 15 8 < canFieldBits (State.reset.fld (CAN_INJ_ARG 1) 1 0) ∧ 4 ≤ fldOf (4 : W32) 2 0 := by decide +kernel

/-- An empty silo at reset meets the premises of `Obligations.SiloPushThenPop`. -/
theorem wit_siloPush : State.reset.memOk ∧ (List.replicate 8 (5 : W32)).length = 8 ∧ State.reset.standbyAddr (silPage 3 + 0x100) = false ∧ (State.reset.silo 3).staging.length = 8 ∧
    (State.reset.silo 3).wr < 65536 ∧ (State.reset.silo 3).rdp = (State.reset.silo 3).wr ∧ (State.reset.silo 3).rel = (State.reset.silo 3).wr ∧ (State.reset.silo 3).stalled = [] ∧
    State.reset.siloAttached 3 = false := by decide +kernel

/-- A silo at reset meets the premises of `Obligations.SiloCommandsDo`, but for the mark, which MARK sets. -/
theorem wit_siloCmd : State.reset.standbyAddr (silPage 5 + 0x48) = false ∧ State.reset.siloAttached 5 = false ∧
    (State.reset.wr (SIL_SIL_STAT 5) 1).bit (SIL_SIL_STAT 5) 0 = true ∧ (State.reset.wr (SIL_SIL_STAT 5) 1).siloAttached 5 = false := by decide +kernel

/-- A silo with one entry, and one with a stalled read, for `Obligations.SiloWindowsAndStalls`. -/
def siloOne (wr : Nat) (l : List Stalled) : State := State.reset.setSilo 2 { Silo.reset with wr := wr, stalled := l }
theorem wit_siloStall : (siloOne 0 []).standbyAddr (silPage 2 + 0x100 + 4 * 1) = false ∧ ((siloOne 1 []).silo 2).avail ≠ 0 ∧ ((siloOne 1 [⟨0, 0, 8, 0⟩]).silo 2).stalled = [⟨0, 0, 8, 0⟩] ∧
    ((siloOne 0 [⟨0, 0, 8, 0⟩]).silo 2).avail = 0 ∧ ({ siloOne 0 [⟨0, 0, 8, 0⟩] with dt := 10 ^ 9 } : State).stallTicks 2 ≤ 10 ^ 9 := by decide +kernel

/-- The hypothesis of `Obligations.FramesOfBlocks`: the commands answer a next state. -/
def answers (o : Host.Outcome State Fault Refusal) : Bool := match o with
  | .next _ => true
  | _ => false
theorem wit_frames : answers (exec .thmClrMax State.reset) = true ∧ answers (exec (.canObjAbort 1 5) State.reset) = true ∧ answers (exec (.siloMark 5) State.reset) = true ∧ answers (exec .mwDone { State.reset with mramCmd := some (0x03E00000, [1, 2]) }) = true := by decide +kernel

/-- The premises of `Obligations.GraceIsHeldToItsRange` and of `Obligations.LineLimitsStayPositive`. -/
theorem wit_stated : booted.core = .running ∧ booted.fld GLB_BOOT_STAT 3 0 = 7 ∧ booted.bit 0x8004 0 = true ∧ booted.standbyAddr LTB_LOSS_CTL = false ∧ fldOf (0x80000000 : W32) 3 0 = 0 ∧ 8 < fldOf (9 : W32) 3 0 ∧ 1 ≤ fldOf (1 : W32) 3 0 ∧ fldOf (8 : W32) 3 0 ≤ 8 ∧
    booted.fld 0x801C 7 0 = 0 ∧ bitOf (0x80000000 : W32) 31 = true ∧ tabGet 0 (reqKey (reqNum .pcie) LTB_STOP_JERK_LO) ({ booted with staged := [(reqKey (reqNum .pcie) LTB_STOP_JERK_LO, 7)] } : State).staged = 7 ∧ booted.stagedLo (reqNum .pcie) LTB_VMG_ACC_LO = 0 := by decide +kernel

end Sys2Proof.Tests
end

section
/-! Writes of the line time base: LOSS_CTL holds GRACE to its range (R50), the limits of the virtual master and of the line stop stay positive (R61). -/

namespace Sys2Proof.Machine

/-! ### Words and their bytes -/

theorem length_leBytes (n x : Nat) : (leBytes n x).length = n := by
  induction n generalizing x with
  | zero => rfl
  | succ n ih => rw [leBytes, List.length_cons, ih]

theorem leNat_leBytes (n x : Nat) : leNat (leBytes n x) = x % 256 ^ n := by
  induction n generalizing x with
  | zero => rw [Nat.pow_zero, Nat.mod_one]; rfl
  | succ n ih => rw [Nat.pow_succ', Nat.mod_mul, leBytes, leNat, ih, BitVec.toNat_ofNat]

/-- The four bytes of a word give it back (log 5). -/
theorem ofNat_leNat_leBytes (v : W32) : BitVec.ofNat 32 (leNat (leBytes 4 v.toNat)) = v := by
  rw [leNat_leBytes, Nat.mod_eq_of_lt (show v.toNat < 256 ^ 4 from v.isLt), BitVec.ofNat_toNat, BitVec.setWidth_eq]

/-! ### The bits that a write stores (R3) -/

theorem mergeWord_getLsbD (old v : W32) (m : Nat) {i : Nat} (h : i < 32) :
    (mergeWord old v m).getLsbD i = if m.testBit i then v.getLsbD i else old.getLsbD i := by
  unfold mergeWord
  rw [BitVec.getLsbD_or, BitVec.getLsbD_and, BitVec.getLsbD_and, BitVec.getLsbD_not, BitVec.getLsbD_ofNat]
  cases hm : m.testBit i <;> simp [h]

/-- A field that is stored as a whole reads what was written. -/
theorem fldOf_mergeWord (old v : W32) {m hi lo : Nat} (h : hi < 32) (hm : ∀ i, lo ≤ i → i ≤ hi → m.testBit i = true) :
    fldOf (mergeWord old v m) hi lo = fldOf v hi lo := by
  apply Nat.eq_of_testBit_eq
  intro j
  rw [fldOf_testBit, fldOf_testBit]
  by_cases hj : j < hi + 1 - lo
  · rw [mergeWord_getLsbD _ _ _ (by omega), if_pos (hm _ (by omega) (by omega))]
  · simp [hj]

/-- A register all of whose bits are stored takes the word written. -/
theorem mergeWord_full (old v : W32) : mergeWord old v 0xFFFFFFFF = v := by
  apply BitVec.eq_of_getLsbD_eq
  intro i hi
  have hm : (0xFFFFFFFF : Nat).testBit i = true := by
    rw [show (0xFFFFFFFF : Nat) = 2 ^ 32 - 1 from rfl, Nat.testBit_two_pow_sub_one]
    simpa using hi
  rw [mergeWord_getLsbD _ _ _ hi, if_pos hm]

/-! ### Fields held to a range (R27) -/

theorem fldOf_limFld (v : W32) {hi lo mn mx : Nat} (h : hi < 32) (hl : lo ≤ hi) (hm : mn ≤ mx) (hx : mx < 2 ^ (hi + 1 - lo)) :
    fldOf (limFld hi lo mn mx v) hi lo = max mn (min mx (fldOf v hi lo)) := by
  unfold limFld
  split
  · rw [fldOf_withFld _ _ h hl, Nat.mod_eq_of_lt (by omega)]; omega
  · split
    · rw [fldOf_withFld _ _ h hl, Nat.mod_eq_of_lt hx]; omega
    · omega

/-- Only a field outside its range is changed. -/
theorem limFld_eq_self (v : W32) {hi lo mn mx : Nat} (h : hi < 32) (hl : lo ≤ hi) (hm : mn ≤ mx) (hx : mx < 2 ^ (hi + 1 - lo)) :
    limFld hi lo mn mx v = v ↔ mn ≤ fldOf v hi lo ∧ fldOf v hi lo ≤ mx := by
  constructor
  · intro e
    have hf := fldOf_limFld v h hl hm hx
    rw [e] at hf
    omega
  · rintro ⟨h1, h2⟩
    unfold limFld
    rw [if_neg (by omega), if_neg (by omega)]

/-! ### ERR_CAP (R596) -/

theorem ErrCode.num_lt (c : ErrCode) : c.num < 256 := by cases c <;> decide

/-- COUNT counts every error, and saturates. -/
theorem errCapNext_count (v : W32) (c : ErrCode) (word : Nat) : fldOf (errCapNext v c word) 31 24 = min 255 (fldOf v 31 24 + 1) := by
  have hc : fldOf v 31 24 < 256 := Nat.mod_lt _ (by decide)
  have hk : (if fldOf v 31 24 = 255 then 255 else fldOf v 31 24 + 1) = min 255 (fldOf v 31 24 + 1) := by split <;> omega
  unfold errCapNext
  simp only [hk]
  split
  · have hn := c.num_lt
    have hw : word % 1024 < 1024 := Nat.mod_lt _ (by decide)
    unfold fldOf
    rw [BitVec.toNat_ofNat]
    omega
  · rw [fldOf_withFld _ _ (by decide) (by decide)]; omega

/-- With an error captured, CODE and WORD keep it. -/
theorem errCapNext_keeps (v : W32) (c : ErrCode) (word : Nat) (h : fldOf v 7 0 ≠ 0) :
    fldOf (errCapNext v c word) 7 0 = fldOf v 7 0 ∧ fldOf (errCapNext v c word) 17 8 = fldOf v 17 8 := by
  unfold errCapNext
  simp only [h, if_false]
  exact ⟨fldOf_withFld_other _ _ (by decide) (by decide) (by decide), fldOf_withFld_other _ _ (by decide) (by decide) (by decide)⟩

/-- An error at a register of the line time base changes ERR_CAP of its page and no other register. -/
theorem State.rd_errAt_ltb (s : State) (c : ErrCode) {a : Nat} (y : Nat) (h : a / 0x1000 = 8) :
    (s.errAt c a).rd y = if y = 0x801C then errCapNext (s.rd 0x801C) c (a % 0x1000 / 4) else s.rd y := by
  unfold State.errAt
  rw [h]
  exact State.rd_err s 0x8000 c _ y

/-! ### A forwarded write leaves the line time base (R385, R389) -/

/-- The registers that sending a frame on lane `p` can change: those of the injector and the event of its end. -/
def laneReg (p a : Nat) : Prop := routerReg a ∨ a = evtPendAt (frbPage p) ∨ a = frbPage p + 0x02C ∨ a = injCntAt p

theorem State.rd_laneInject {s : State} {p y : Nat} {rx : Bool} {f : LaneFrame} (h : ¬ laneReg p y) : (s.laneInject p rx f).2.rd y = s.rd y := by
  unfold laneReg at h
  simp only [not_or] at h
  obtain ⟨hr, he, hj, hc⟩ := h
  have hw (x : RingPort) : ((s.setRport p x).wrapUp (injCntAt p) 15 0).rd y = s.rd y := State.rd_wrFld_ne _ _ _ _ hc
  have hcounted (x : RingPort) (c : Prop) [Decidable c] : (if c then (((s.setRport p x).wrapUp (injCntAt p) 15 0).wrBit (frbPage p + 0x02C) 31 false).raise (frbPage p) (injDoneBit p)
      else (s.setRport p x).wrapUp (injCntAt p) 15 0).rd y = s.rd y := by
    split
    · rw [State.rd_raise hr he, State.rd_wrBit_ne _ _ _ hj, hw]
    · exact hw x
  unfold State.laneInject
  dsimp only
  split
  · rfl
  · split
    · rfl
    · split
      · rfl
      · split
        · rfl
        · split <;> exact hcounted _ _

theorem State.rd_laneEmit (s : State) (p : Nat) (abt : Bool) (f : LaneFrame) (y : Nat) : (s.laneEmit p abt f).rd y = s.rd y := by
  unfold State.laneEmit
  split
  · rfl
  · cases f <;> rfl

theorem State.rd_laneSend {s : State} {p y : Nat} {f : LaneFrame} {abt : Bool} (h : ¬ laneReg p y) : (s.laneSend p f abt).rd y = s.rd y := by
  unfold State.laneSend
  exact (State.rd_each fun (g : LaneFrame × Bool) t => t.rd_laneEmit p abt g.1 y).trans (State.rd_laneInject h)

theorem State.rd_xlkSend {s : State} {r : XlkRec} {y : Nat} (h : ¬ laneReg 2 y) : (s.xlkSend r).rd y = s.rd y := by
  unfold State.xlkSend
  exact State.rd_laneSend h

theorem State.rd_mirrorWrite {s : State} {a y : Nat} {bytes : List Byte} (h : ¬ laneReg 2 y) : (s.mirrorWrite a bytes).rd y = s.rd y := by
  unfold State.mirrorWrite
  split
  · exact State.rd_xlkSend h
  · rfl

theorem not_routerReg_ltb {y : Nat} (h : y / 0x1000 = 8) : ¬ routerReg y := by
  unfold routerReg EVR_CNT_EVR
  omega

/-- No register of the line time base is one that a lane or the router writes by itself. -/
theorem not_laneReg_ltb {y : Nat} (h : y / 0x1000 = 8) : ¬ laneReg 2 y := by
  have hcnt : injCntAt 2 = 0x262078 := rfl
  rintro (hr | he | he | he)
  · exact not_routerReg_ltb h hr
  all_goals simp only [evtPendAt, frbPage, hcnt] at he; omega

/-! ### A word write to a register of the line time base -/

/-- The page of the line time base. -/
def ltbRef : PageRef := ⟨.ltb, 0⟩

theorem State.reachable_ready {s : State} (hc : s.core = .running) (hb : s.fld GLB_BOOT_STAT 3 0 = 7) (a : Nat) : s.reachable a = true := by
  simp [State.reachable, State.runs, hc, hb]

/-- After the boot, a word write to the register space goes to the register (R3, R574). -/
theorem State.busWrite_word {s : State} (hc : s.core = .running) (hb : s.fld GLB_BOOT_STAT 3 0 = 7) (r : Requester) {a : Nat} (v : W32)
    (ha : a < 0x01000000) (h4 : a % 4 = 0) (hp : (pageOf a).isNone = false) :
    (s.busWrite r a (leBytes 4 v.toNat)).2 = s.issueWord (reqNum r) a v := by
  have hbar : barAddr r a = a := by
    simp [barAddr, inBar4, show ¬ 0x04000000 ≤ a by omega, show ¬ 0x04800000 ≤ a by omega]
  have hin : inBar4 r a = false := by simp [inBar4, show ¬ 0x04800000 ≤ a by omega]
  have hne : (leBytes 4 v.toNat).isEmpty = false := rfl
  have hspace : s.spaceWrite r a (leBytes 4 v.toNat) = (true, s.issueWord (reqNum r) a v) := by
    simp [State.spaceWrite, hp, h4, length_leBytes, ofNat_leNat_leBytes]
  simp [State.busWrite, hbar, s.reachable_ready hc hb, hne, hin, ha, hspace]

theorem exec_registerWrite_word {s : State} (hc : s.core = .running) (hb : s.fld GLB_BOOT_STAT 3 0 = 7) (r : Requester) {a : Nat} (v : W32)
    (ha : a < 0x01000000) (h4 : a % 4 = 0) (hp : (pageOf a).isNone = false) :
    exec (.registerWrite r (BitVec.ofNat 33 a) (leBytes 4 v.toNat)) s = .next (s.issueWord (reqNum r) a v) := by
  show Host.Outcome.next (s.busWrite r (BitVec.ofNat 33 a).toNat (leBytes 4 v.toNat)).2 = _
  rw [BitVec.toNat_ofNat, Nat.mod_eq_of_lt (by omega), State.busWrite_word hc hb r v ha h4 hp]

theorem exec_pairHiWrite_word {s : State} (hc : s.core = .running) (hb : s.fld GLB_BOOT_STAT 3 0 = 7) (r : Requester) {a : Nat} (v : W32)
    (ha : a < 0x01000000) (h4 : a % 4 = 0) (hp : (pageOf a).isNone = false) :
    exec (.pairHiWrite r (BitVec.ofNat 26 a) v) s = .next (s.issueWord (reqNum r) a v) := by
  show Host.Outcome.next (s.busWrite r (BitVec.ofNat 26 a).toNat (leBytes 4 v.toNat)).2 = _
  rw [BitVec.toNat_ofNat, Nat.mod_eq_of_lt (by omega), State.busWrite_word hc hb r v ha h4 hp]

/-! ### LOSS_CTL (R50, R52) -/

/-- The row of LOSS_CTL. -/
def lossRow : RegRow := ⟨0x7C, 4, 1, .rw, false, 0x4, false, 0x8000000F, 0x80000000, .none⟩

theorem regRow_lossCtl : regRow LTB_LOSS_CTL = some (ltbRef, lossRow, 0) := by decide +kernel

/-- What a write of `v` leaves in LOSS_CTL: the GRACE written, held to its range; REJOIN is a command and is not stored. -/
def lossWord (old v : W32) : W32 := limFld 3 0 1 8 (mergeWord old v 0xF)

/-- The bits of GRACE are those that a write to LOSS_CTL stores. -/
theorem testBit_low4 (i : Nat) (_ : 0 ≤ i) (hi : i ≤ 3) : (0xF : Nat).testBit i = true := by
  rw [show (0xF : Nat) = 2 ^ 4 - 1 from rfl, Nat.testBit_two_pow_sub_one, decide_eq_true_eq]
  omega

theorem fldOf_lossWord (old v : W32) : fldOf (lossWord old v) 3 0 = max 1 (min 8 (fldOf v 3 0)) := by
  unfold lossWord
  rw [fldOf_limFld _ (by decide) (by decide) (by decide) (by decide), fldOf_mergeWord _ _ (by decide) testBit_low4]

/-- LOSS_CTL takes the word held to its range; a GRACE that was changed so is recorded (R50). -/
theorem State.storeReg_lossCtl (s : State) (v : W32) : s.storeReg ltbRef lossRow 0 LTB_LOSS_CTL v =
    (s.wr LTB_LOSS_CTL (lossWord (s.rd LTB_LOSS_CTL) v)).when (decide (lossWord (s.rd LTB_LOSS_CTL) v ≠ mergeWord (s.rd LTB_LOSS_CTL) v 0xF)) fun st => st.errAt .clamped LTB_LOSS_CTL := by
  have hmask : storeMask lossRow &&& (0xFFFFFFFF - s.heldBits ltbRef 0x7C 0) = 0xF := by
    rw [show s.heldBits ltbRef 0x7C 0 = 0 from rfl]; decide
  have hlim (w : W32) : s.limit ltbRef 0x7C w = limFld 3 0 1 8 w := rfl
  have hrefuse (w : W32) : s.refuse ltbRef 0x7C 0 w = none := rfl
  have hhooks (t : State) (w : W32) : (t.hookGlobal s ltbRef 0x7C 0 w).hookAxis s ltbRef 0x7C w = t := rfl
  unfold State.storeReg
  simp only [show lossRow.off = 0x7C from rfl, hmask, hlim, hrefuse, hhooks]
  rfl

/-- A write to LOSS_CTL stores GRACE; REJOIN then acts (R50, R52). -/
theorem State.regApply_lossCtl {s : State} (hclk : s.bit 0x8004 0 = true) (req : Nat) (v : W32) :
    s.regApply req LTB_LOSS_CTL v none = (s.storeReg ltbRef lossRow 0 LTB_LOSS_CTL v).when (bitOf v 31) State.lossRejoin := by
  have hplain : s.plainWrite req ltbRef lossRow 0 LTB_LOSS_CTL v = s.storeReg ltbRef lossRow 0 LTB_LOSS_CTL v := rfl
  have hbody : s.bodyWrite req ltbRef lossRow 0 LTB_LOSS_CTL v = (s.storeReg ltbRef lossRow 0 LTB_LOSS_CTL v).when (bitOf v 31) State.lossRejoin := by
    have hig : s.ignores ltbRef lossRow.off 0 = false := rfl
    have htune : s.tuneRejects ltbRef lossRow.off = false := rfl
    have hclk' : s.bit (ltbRef.base + 4) 0 = true := hclk
    unfold State.bodyWrite State.when
    simp only [hclk', hig, htune, hplain]
    cases bitOf v 31 <;> rfl
  unfold State.regApply
  rw [regRow_lossCtl]
  exact hbody

theorem State.issueWord_lossCtl {s : State} (hs : s.standbyAddr LTB_LOSS_CTL = false) (req : Nat) (v : W32) :
    s.issueWord req LTB_LOSS_CTL v = (s.regApply req LTB_LOSS_CTL v none).mirrorWrite LTB_LOSS_CTL (leBytes 4 v.toNat) := by
  unfold State.issueWord
  rw [regRow_lossCtl]
  simp only [show LTB_LOSS_CTL - ltbRef.base = 0x7C from rfl, show fieldReg ltbRef 0x7C = false from rfl, show lossRow.half = .none from rfl,
    State.softWrite, State.softBytes, hs]
  rfl

/-- Taking the line up afresh changes STATUS alone among the registers. -/
theorem State.rd_lineFresh (s : State) (k : Kin) (j : Int) {y : Nat} (h : y ≠ LTB_STATUS) : (s.lineFresh k j).rd y = s.rd y := by
  unfold State.lineFresh
  dsimp only
  rw [State.rd_wrFld_ne _ _ _ _ h, State.rd_wrFld_ne _ _ _ _ h]
  rfl

/-- REJOIN is refused and recorded, or changes no register but STATUS, EVT_PEND of the page and the router's own (R52). -/
theorem State.lossRejoin_cases (s : State) {y : Nat} (hr : ¬ routerReg y) (hp : y ≠ evtPendAt ltbPage) (hs : y ≠ LTB_STATUS) :
    s.lossRejoin.rd y = s.rd y ∨ s.lossRejoin = s.errAt .state LTB_LOSS_CTL := by
  unfold State.lossRejoin
  split
  · exact .inr rfl
  · split
    · exact .inl rfl
    · split
      · exact .inl (by rw [State.rd_raise hr hp, State.rd_lineFresh _ _ _ hs])
      · split
        · exact .inr rfl
        · exact .inl (by rw [State.rd_raise hr hp, State.rd_lineFresh _ _ _ hs])

/-- ERR_CAP of the page after a write of `v` to LOSS_CTL, before REJOIN acts. -/
def State.graceErrCap (s : State) (v : W32) : W32 :=
  if 1 ≤ fldOf v 3 0 ∧ fldOf v 3 0 ≤ 8 then s.rd 0x801C else errCapNext (s.rd 0x801C) .clamped (0x7C / 4)

theorem State.rd_storeReg_lossCtl (s : State) (v : W32) : (s.storeReg ltbRef lossRow 0 LTB_LOSS_CTL v).rd LTB_LOSS_CTL = lossWord (s.rd LTB_LOSS_CTL) v := by
  rw [State.storeReg_lossCtl]
  exact (State.rd_when (by rw [State.rd_errAt_ltb _ _ _ (by decide), if_neg (by decide)])).trans (State.rd_wr_same _ _ _)

theorem State.rd_storeReg_lossCtl_errCap (s : State) (v : W32) : (s.storeReg ltbRef lossRow 0 LTB_LOSS_CTL v).rd 0x801C = s.graceErrCap v := by
  have hw (w : W32) : (s.wr LTB_LOSS_CTL w).rd 0x801C = s.rd 0x801C := State.rd_wr_ne _ _ (by decide)
  have hf : fldOf (mergeWord (s.rd LTB_LOSS_CTL) v 0xF) 3 0 = fldOf v 3 0 := fldOf_mergeWord _ _ (by decide) testBit_low4
  have hl := limFld_eq_self (mergeWord (s.rd LTB_LOSS_CTL) v 0xF) (hi := 3) (lo := 0) (mn := 1) (mx := 8) (by decide) (by decide) (by decide) (by decide)
  rw [hf] at hl
  rw [State.storeReg_lossCtl]
  unfold State.graceErrCap lossWord State.when
  by_cases h : 1 ≤ fldOf v 3 0 ∧ fldOf v 3 0 ≤ 8
  · simp only [h, hl.mpr h, ne_eq, not_true_eq_false, decide_false, Bool.false_eq_true, if_false, hw, and_self, if_true]
  · simp only [h, mt hl.mp h, ne_eq, not_false_eq_true, decide_true, if_true, if_false]
    rw [State.rd_errAt_ltb _ _ _ (by decide), if_pos rfl, hw]
    rfl

/-- What a word write to LOSS_CTL leaves: GRACE within its range, and in ERR_CAP of the page the record of a GRACE that was not, to which a REJOIN refused adds (R50, R52). -/
theorem exec_write_lossCtl {s : State} (hc : s.core = .running) (hb : s.fld GLB_BOOT_STAT 3 0 = 7) (hclk : s.bit 0x8004 0 = true)
    (hs : s.standbyAddr LTB_LOSS_CTL = false) (r : Requester) (v : W32) :
    ∃ t, exec (.registerWrite r (BitVec.ofNat 33 LTB_LOSS_CTL) (leBytes 4 v.toNat)) s = .next t ∧
      t.fld LTB_LOSS_CTL 3 0 = max 1 (min 8 (fldOf v 3 0)) ∧
      (t.rd 0x801C = s.graceErrCap v ∨ bitOf v 31 = true ∧ t.rd 0x801C = errCapNext (s.graceErrCap v) .state (0x7C / 4)) := by
  have hcap := s.rd_storeReg_lossCtl_errCap v
  have hloss := s.rd_storeReg_lossCtl v
  rw [exec_registerWrite_word hc hb r v (by decide) (by decide) (by decide +kernel), State.issueWord_lossCtl hs, State.regApply_lossCtl hclk]
  generalize s.storeReg ltbRef lossRow 0 LTB_LOSS_CTL v = u at hcap hloss ⊢
  refine ⟨_, rfl, ?_, ?_⟩
  · have hkeep : (u.when (bitOf v 31) State.lossRejoin).rd LTB_LOSS_CTL = u.rd LTB_LOSS_CTL := State.rd_when (by
      obtain h | h := u.lossRejoin_cases (y := LTB_LOSS_CTL) (not_routerReg_ltb (by decide)) (by decide) (by decide)
      · exact h
      · rw [h, State.rd_errAt_ltb _ _ _ (by decide), if_neg (by decide)])
    unfold State.fld
    rw [State.rd_mirrorWrite (not_laneReg_ltb (by decide)), hkeep, hloss, fldOf_lossWord]
  · rw [State.rd_mirrorWrite (not_laneReg_ltb (by decide)), ← hcap]
    unfold State.when
    split
    · rename_i hj
      obtain h | h := u.lossRejoin_cases (y := 0x801C) (not_routerReg_ltb (by decide)) (by decide) (by decide)
      · exact .inl h
      · exact .inr ⟨hj, by rw [h, State.rd_errAt_ltb _ _ _ (by decide), if_pos rfl]; rfl⟩
    · exact .inl rfl

/-- A GRACE outside its range is recorded, whatever a REJOIN of the same write adds (R50, R596). -/
theorem State.graceErrCap_recorded {s : State} {v w : W32} (hv : ¬ (1 ≤ fldOf v 3 0 ∧ fldOf v 3 0 ≤ 8))
    (hw : w = s.graceErrCap v ∨ bitOf v 31 = true ∧ w = errCapNext (s.graceErrCap v) .state (0x7C / 4)) :
    (s.fld 0x801C 7 0 = 0 → fldOf w 7 0 = 4 ∧ fldOf w 17 8 = 0x7C / 4) ∧ min 255 (s.fld 0x801C 31 24 + 1) ≤ fldOf w 31 24 ∧
      (bitOf v 31 = false → w = errCapNext (s.rd 0x801C) .clamped (0x7C / 4)) := by
  have hg : s.graceErrCap v = errCapNext (s.rd 0x801C) .clamped (0x7C / 4) := if_neg hv
  have hcount := errCapNext_count (s.rd 0x801C) .clamped (0x7C / 4)
  have hfirst (h : s.fld 0x801C 7 0 = 0) := errCapNext_first (s.rd 0x801C) .clamped (0x7C / 4) h (by decide)
  rw [hg] at hw
  generalize errCapNext (s.rd 0x801C) .clamped (0x7C / 4) = e at hw hcount hfirst ⊢
  obtain rfl | ⟨hj, rfl⟩ := hw
  · exact ⟨hfirst, Nat.le_of_eq hcount.symm, fun _ => rfl⟩
  · refine ⟨fun h => ?_, ?_, fun h => absurd h (by rw [hj]; decide)⟩
    · obtain ⟨hcode, hword⟩ := hfirst h
      obtain ⟨k1, k2⟩ := errCapNext_keeps e .state (0x7C / 4) (by rw [hcode]; decide)
      exact ⟨k1.trans hcode, k2.trans hword⟩
    · rw [errCapNext_count, hcount]
      unfold State.fld
      omega

/-! ### The limits of the virtual master and of the line stop (R61) -/

/-- LO of the pairs that stay positive: VMG_ACC, VMG_DEC, VMG_JERK, STOP_DEC and STOP_JERK. -/
def lineLimitRegs : List Nat := [LTB_VMG_ACC_LO, LTB_VMG_DEC_LO, LTB_VMG_JERK_LO, LTB_STOP_DEC_LO, LTB_STOP_JERK_LO]

/-- The row of one half of such a pair, at `a`, with its reset value. -/
def lineLimitRow (a cold : Nat) (half : PairHalf) : RegRow := ⟨a % 0x1000, 4, 1, .rw, false, cold, false, 0xFFFFFFFF, 0, half⟩

theorem lineLimitRegs_bounds {a : Nat} (ha : a ∈ lineLimitRegs) : 0x8088 ≤ a ∧ a ≤ 0x80A8 ∧ a % 8 = 0 := by
  revert a; decide

theorem pageOf_lineLimit {a : Nat} (ha : a ∈ lineLimitRegs) : (pageOf (a + 4)).isNone = false := by
  revert a; decide +kernel

theorem regRow_lineLimit {a : Nat} (ha : a ∈ lineLimitRegs) :
    regRow a = some (ltbRef, lineLimitRow a 0 .lo, 0) ∧ ∃ cold ∈ [1, 10, 100], regRow (a + 4) = some (ltbRef, lineLimitRow (a + 4) cold .hi, 0) := by
  revert a; decide +kernel

/-- A pair that stays positive is refused at 0 and below. -/
theorem pairBad_lineLimit {a : Nat} (ha : a ∈ lineLimitRegs) (hi lo : W32) : pairBad ltbRef ((a + 4) % 0x1000 - 4) hi lo = (bitOf hi 31 || (hi == 0 && lo == 0)) := by
  have ho : [0x88, 0x90, 0x98, 0xA0, 0xA8].contains ((a + 4) % 0x1000 - 4) = true := by revert a; decide
  unfold pairBad
  rw [ho]
  rfl

/-- HI of such a pair is neither a command nor a register that ignores or refuses a write, and storing it does nothing more. -/
theorem lineLimit_isPlain {a : Nat} (ha : a ∈ lineLimitRegs) (s : State) (req : Nat) (v : W32) :
    s.ignores ltbRef ((a + 4) % 0x1000) 0 = false ∧ s.cmdGlobal req ltbRef ((a + 4) % 0x1000) 0 v = none ∧ s.cmdAxis ltbRef ((a + 4) % 0x1000) 0 v = none ∧
      s.refuse ltbRef ((a + 4) % 0x1000) 0 v = none ∧ ∀ t : State, t.hookGlobal s ltbRef ((a + 4) % 0x1000) 0 v = t := by
  simp only [lineLimitRegs, List.mem_cons, List.not_mem_nil, or_false] at ha
  obtain rfl | rfl | rfl | rfl | rfl := ha <;> exact ⟨rfl, rfl, rfl, rfl, fun _ => rfl⟩

/-- The pair takes the value written, or refuses one that is 0 or negative (R61, R601). -/
theorem State.storePair_lineLimit {a : Nat} (ha : a ∈ lineLimitRegs) (s : State) (cold : Nat) (x v : W32) :
    s.storePair ltbRef (lineLimitRow (a + 4) cold .hi) 0 a x v = if bitOf v 31 || (v == 0 && x == 0) then s.errAt .value (a + 4) else (s.wr a x).wr (a + 4) v := by
  obtain ⟨hlo, _⟩ := regRow_lineLimit ha
  obtain ⟨_, _, _, hrefuse, hhook⟩ := lineLimit_isPlain ha s 0 v
  have hmask (c d : Nat) (h : PairHalf) : storeMask (lineLimitRow c d h) = 0xFFFFFFFF := by simp [storeMask, lineLimitRow]
  have hoff (c : Nat) : (lineLimitRow (a + 4) c .hi).off = (a + 4) % 0x1000 := rfl
  have hkind : ¬ ltbRef.kind = .xlk := by decide
  unfold State.storePair
  simp only [hlo, Option.map_some, hmask, hoff, mergeWord_full, pairBad_lineLimit ha, hrefuse, hkind, if_false, hhook]

@[simp] theorem State.rd_useStaged (s : State) (req a y : Nat) : (s.useStaged req a).rd y = s.rd y := rfl

theorem State.bodyWrite_lineLimit {s : State} {a : Nat} (ha : a ∈ lineLimitRegs) (hclk : s.bit 0x8004 0 = true) (req cold : Nat) (v : W32) :
    s.bodyWrite req ltbRef (lineLimitRow (a + 4) cold .hi) 0 (a + 4) v =
      (s.useStaged req a).storePair ltbRef (lineLimitRow (a + 4) cold .hi) 0 a (s.stagedLo req a) v := by
  obtain ⟨hmin, hmax, _⟩ := lineLimitRegs_bounds ha
  obtain ⟨hig, hglob, haxis, _, _⟩ := lineLimit_isPlain ha s req v
  have hplain : s.plainWrite req ltbRef (lineLimitRow (a + 4) cold .hi) 0 (a + 4) v =
      (s.useStaged req a).storePair ltbRef (lineLimitRow (a + 4) cold .hi) 0 a (s.stagedLo req a) v := rfl
  have hoff : (lineLimitRow (a + 4) cold .hi).off = (a + 4) % 0x1000 := rfl
  have htune : s.tuneRejects ltbRef ((a + 4) % 0x1000) = false := rfl
  have hclk' : s.bit (ltbRef.base + 4) 0 = true := hclk
  have hloss : (a + 4) % 0x1000 ≠ 0x7C := by omega
  unfold State.bodyWrite
  simp only [hoff, hclk', hig, htune, hloss, hglob, haxis, hplain, Bool.not_true, Bool.or_self, Bool.false_eq_true, false_and, and_false, if_false]

/-- HI of the pair takes effect with the LO that the requester staged (R601). -/
theorem State.regApply_lineLimit {s : State} {a : Nat} (ha : a ∈ lineLimitRegs) (hclk : s.bit 0x8004 0 = true) (req : Nat) (v : W32) :
    s.regApply req (a + 4) v none =
      if bitOf v 31 || (v == 0 && s.stagedLo req a == 0) then (s.useStaged req a).errAt .value (a + 4)
      else ((s.useStaged req a).wr a (s.stagedLo req a)).wr (a + 4) v := by
  obtain ⟨hmin, hmax, _⟩ := lineLimitRegs_bounds ha
  obtain ⟨_, cold, _, hrow⟩ := regRow_lineLimit ha
  have hbase : ltbRef.base = 0x8000 := rfl
  have halias : aliasOf ltbRef (a + 4 - 0x8000) = a + 4 := by
    unfold aliasOf
    rw [if_neg (fun h => absurd h.1 (by decide)), hbase]
    omega
  unfold State.regApply
  rw [hrow]
  simp only [hbase, halias, State.bodyWrite_lineLimit ha hclk, State.storePair_lineLimit ha,
    show ¬ (a + 4 - 0x8000 = 0x020 ∨ a + 4 - 0x8000 = 0x024) by omega, show ¬ a + 4 - 0x8000 < 0x40 by omega, if_false]

theorem State.issueWord_lineLimit {s : State} {a : Nat} (ha : a ∈ lineLimitRegs) (hs : s.standbyAddr (a + 4) = false) (req : Nat) (v : W32) :
    s.issueWord req (a + 4) v = (s.regApply req (a + 4) v none).mirrorWrite a (leBytes 4 (s.stagedLo req a).toNat ++ leBytes 4 v.toNat) := by
  obtain ⟨hmin, hmax, _⟩ := lineLimitRegs_bounds ha
  obtain ⟨_, cold, _, hrow⟩ := regRow_lineLimit ha
  have hbase : ltbRef.base = 0x8000 := rfl
  have hfield : fieldReg ltbRef (a + 4 - 0x8000) = false := rfl
  have hhalf : (lineLimitRow (a + 4) cold .hi).half = .hi := rfl
  unfold State.issueWord
  rw [hrow]
  simp only [hbase, hfield, hhalf, show ¬ a + 4 - 0x8000 = 0x020 by omega, show ¬ a + 4 - 0x8000 = 0x024 by omega, hs, if_false, Bool.false_eq_true]
  rfl

end Sys2Proof.Machine

namespace Sys2Proof

open Machine

/-- Settles O59: the word stored is the one written with GRACE held to 1 to 8, and the hold is recorded before REJOIN acts. -/
theorem graceIsHeldToItsRange : Obligations.GraceIsHeldToItsRange := by
  intro r v s hc hb hclk hs
  obtain ⟨t, ht, hgrace, hcap⟩ := exec_write_lossCtl hc hb hclk hs r v
  refine ⟨fun h => ?_, fun h => ?_, fun h1 h8 => ?_⟩
  · exact ⟨t, ht, by omega, State.graceErrCap_recorded (by omega) hcap⟩
  · exact ⟨t, ht, by omega, State.graceErrCap_recorded (by omega) hcap⟩
  · refine ⟨t, ht, by omega, fun hj => ?_⟩
    obtain h | ⟨h, _⟩ := hcap
    · rw [h]; exact if_pos ⟨h1, h8⟩
    · rw [hj] at h; cases h

/-- Settles O60: a write of HI is refused or stores the pair, by the value of both halves, and forwarding it to a standby leaves the page as it is. -/
theorem lineLimitsStayPositive : Obligations.LineLimitsStayPositive := by
  intro r hi s hc hb hclk a ha hs
  obtain ⟨hmin, hmax, hal⟩ := lineLimitRegs_bounds ha
  rw [exec_pairHiWrite_word hc hb r hi (by omega) (by omega) (pageOf_lineLimit ha), State.issueWord_lineLimit ha hs, State.regApply_lineLimit ha hclk]
  generalize s.stagedLo (reqNum r) a = x
  refine ⟨fun h => ⟨_, rfl, ?_⟩, fun hpos hne => ⟨_, rfl, ?_⟩⟩
  · have hbad : (bitOf hi 31 || (hi == 0 && x == 0)) = true := by
      simp only [Bool.or_eq_true, Bool.and_eq_true, beq_iff_eq]
      exact h
    have hcap := errCapNext_first (s.rd 0x801C) .value ((a + 4) % 0x1000 / 4)
    rw [if_pos hbad]
    have hrd (y : Nat) (hy : y / 0x1000 = 8) := (State.rd_mirrorWrite (a := a) (bytes := leBytes 4 x.toNat ++ leBytes 4 hi.toNat) (not_laneReg_ltb hy)).trans
      ((s.useStaged (reqNum r) a).rd_errAt_ltb .value y (show (a + 4) / 0x1000 = 8 by omega))
    refine ⟨?_, ?_, ?_, fun h0 => ?_⟩
    · rw [hrd _ (by omega), if_neg (by omega), State.rd_useStaged]
    · rw [hrd _ (by omega), if_neg (by omega), State.rd_useStaged]
    · rw [hrd _ (by omega), if_pos rfl, State.rd_useStaged]
    · unfold State.fld
      rw [hrd _ (by omega), if_pos rfl, State.rd_useStaged]
      exact hcap h0 (by omega)
  · have hgood : ¬ (bitOf hi 31 || (hi == 0 && x == 0)) = true := by
      simp only [hpos, Bool.false_or, Bool.and_eq_true, beq_iff_eq]
      exact fun ⟨hz, xz⟩ => hne.elim (absurd hz) (absurd xz)
    rw [if_neg hgood]
    refine ⟨?_, ?_, ?_⟩
    · rw [State.rd_mirrorWrite (not_laneReg_ltb (by omega)), State.rd_wr_ne _ _ (by omega), State.rd_wr_same]
    · rw [State.rd_mirrorWrite (not_laneReg_ltb (by omega)), State.rd_wr_same]
    · rw [State.rd_mirrorWrite (not_laneReg_ltb (by omega)), State.rd_wr_ne _ _ (by omega), State.rd_wr_ne _ _ (by omega), State.rd_useStaged]

end Sys2Proof
end
